-- ==== Sys2Proof/Word.lean ====
section
/-! DEFINITION. The words of the HX-64 line (bytes, line addresses), the index types of its tables, and `Table`, a
fixed number of like records held as plain data. -/

namespace Sys2Proof

/-- One byte of frame content (R23). -/
abbrev Byte := BitVec 8

/-- A 16-bit line address, as the Dest and Src fields carry it (R23, R31). -/
abbrev LineAddr := BitVec 16

/-- A hoist slot 0..63 (R1). -/
abbrev Slot := Fin 64

/-- A group number 0..15 (R73). -/
abbrev GroupNo := Fin 16

/-- An Address Map entry number 0..15 (R40). -/
abbrev MapNo := Fin 16

/-- A Match Filter number 0..15 (R160). -/
abbrev FilterNo := Fin 16

/-- A Track Pool descriptor index 0..127 (R114). -/
abbrev TrackIx := Fin 128

/-- A table of exactly `n` records, numbered from 0: the records in order, with the proof of their number. -/
structure Table (n : Nat) (α : Type) where
  cells : List α
  size  : cells.length = n
deriving DecidableEq, Repr

/-- The record at index `i`. -/
def Table.get {n : Nat} {α : Type} (t : Table n α) (i : Fin n) : α :=
  t.cells[i.val]'(by rw [t.size]; exact i.isLt)

/-- The table with the record at index `i` replaced. -/
def Table.set {n : Nat} {α : Type} (t : Table n α) (i : Fin n) (x : α) : Table n α :=
  ⟨t.cells.set i.val x, by rw [List.length_set, t.size]⟩

/-- The table whose record at `i` is `f i`. -/
def Table.build {n : Nat} {α : Type} (f : Fin n → α) : Table n α :=
  ⟨List.ofFn f, List.length_ofFn⟩

/-- The table that holds the same record everywhere. -/
def Table.fill (n : Nat) {α : Type} (x : α) : Table n α :=
  ⟨List.replicate n x, List.length_replicate⟩

end Sys2Proof
end

