-- ==== Sys2Proof/Syntax.lean ====
section
/-! DEFINITION. The commands of the HX-64: one constructor per row of spec/opcode_table.json. A command is one whole
event of the part. An arrival carries the bytes the port collected; an expiry names the slot or group whose count
expires; every other command names no operand, since what it acts on stands in the part's own state (the Intake head,
the frame on a wire, the oldest pending batch). -/

namespace Sys2Proof

/-- The events of the part, in the table's order. -/
inductive Instr where
  /-- POWER_ON_RESET (R138): the RST input. -/
  | powerOnReset
  /-- U_PORT_ARRIVAL (R35): the U-port has collected these content bytes between two delimiters. -/
  | uPortArrival (content : List Byte)
  /-- D_PORT_ARRIVAL (R35): the D-port has collected these content bytes between two delimiters. -/
  | dPortArrival (content : List Byte)
  /-- MOVE (R50): the MOVE at the Intake head is taken. -/
  | move
  /-- GMOVE (R86): the GMOVE at the Intake head is taken. -/
  | gmove
  /-- GO (R118): the GO at the Intake head is taken. -/
  | go
  /-- POLL (R141): the POLL at the Intake head is placed. -/
  | poll
  /-- PASS_THROUGH_FRAME (R48): the pass-through frame at the Intake head is placed. -/
  | passThroughFrame
  /-- READ (R185): the MGMT READ at the Intake head is carried out. -/
  | read
  /-- WRITE (R186): the MGMT WRITE at the Intake head is carried out. -/
  | write
  /-- READ_LIVE (R188): the MGMT READ_LIVE at the Intake head is carried out. -/
  | readLive
  /-- ARM (R78): the MGMT ARM at the Intake head is carried out. -/
  | arm
  /-- PARK (R80): the MGMT PARK at the Intake head is carried out. -/
  | park
  /-- RECOVER (R191): the MGMT RECOVER at the Intake head is carried out. -/
  | recover
  /-- CLEAR_CAUSE (R189): the MGMT CLEAR_CAUSE at the Intake head is carried out. -/
  | clearCause
  /-- READ_CAUSE (R173): the MGMT READ_CAUSE at the Intake head is carried out. -/
  | readCause
  /-- SET_IDENTITY (R183): the MGMT SET_IDENTITY at the Intake head is carried out. -/
  | setIdentity
  /-- SET_MOTION (R68): the MGMT SET_MOTION at the Intake head is carried out. -/
  | setMotion
  /-- SET_PORT_MODE (R190): the MGMT SET_PORT_MODE at the Intake head is carried out. -/
  | setPortMode
  /-- LINE_RESET (R192): the MGMT LINE_RESET at the Intake head is answered. -/
  | lineReset
  /-- LINE_RESET_TAKES_EFFECT (R179): the LINE_RESET reply is selected and the reset takes place. -/
  | lineResetTakesEffect
  /-- D_PORT_TRANSMIT_COMPLETION (R142): the frame ON_WIRE at the D-port has been sent. -/
  | dPortTransmitCompletion
  /-- U_PORT_TRANSMIT_COMPLETION (R177): the frame on the wire at the U-port has been sent. -/
  | uPortTransmitCompletion
  /-- STALE_EXPIRY (R150): the Sample Age of the hoist at `slot` reaches the Age Limit. -/
  | staleExpiry (slot : Nat)
  /-- POLL_TIMEOUT (R153): the poll timer of `slot` reaches the Poll Timeout. -/
  | pollTimeout (slot : Nat)
  /-- SILENCE_TIMER_EXPIRY (R157): the Silence Count reaches the Silence Limit. -/
  | silenceTimerExpiry
  /-- DWELL_EXPIRY (R123): the Dwell Remaining of `group` reaches 0. -/
  | dwellExpiry (group : Nat)
  /-- TRACK_STEP (R120): the oldest pending internal batch, a due track step, is taken. -/
  | trackStep
  /-- REWRITE_WAVE_ADMISSION (R96): the oldest pending internal batch, a rewrite wave, is admitted. -/
  | rewriteWaveAdmission
  /-- OWN_POLL (R152): a due hoist has an own POLL formed and placed. -/
  | ownPoll
  /-- MGMT_BAD_OPERATION (R184): an MGMT frame at the Intake head has an Operation outside the codes of R193. -/
  | mgmtBadOperation
deriving DecidableEq, Repr

end Sys2Proof
end

