-- ==== Sys2Proof/Config.lean ====
section
/-! DEFINITION. What the spec leaves open: free values, each a constant with no body, so that no proof can see what
it is and a claim holds whatever it is. -/

namespace Sys2Proof

/-- FREE VALUE (log entry 4): what arithmetic reads in place of a stored reading, grant or extreme that is absent in a
state which the rules say does not arise (R16, R57, R89, R95, R101, R104). -/
opaque Config.absentValue : Nat

/-- FREE VALUE (log entry 4): the Track Cursor after descriptor 127, which a usable chain never reaches (R116). -/
opaque Config.cursorPastEnd : TrackIx

/-- FREE VALUE (log entry 3): the order in which the expiries that fall in one millisecond are taken. The rank of the
expiry numbered `n` in the millisecond that begins at Line Clock `t`; lower ranks are taken first. R146 orders no count
against another. -/
opaque Config.tickRank (t : BitVec 32) (n : Nat) : Nat

end Sys2Proof
end

