-- ==== Sys2Proof/Machine/State.lean ====
section
/-! DEFINITION. The state of the HX-64 as plain data, its value after power-on reset, and the reasons a step can stop. -/

namespace Sys2Proof.Machine

/-! ## Hoist records (chapter Hoist Records) -/

/-- The five hoist states (section 1.4). -/
inductive HoistState | offline | ready | held | moving | tripped
deriving DecidableEq, Repr

/-- The drive states a SAMPLE reports (R29). -/
inductive DriveState | idle | moving | held | halted | fault
deriving DecidableEq, Repr

/-- The load conditions (R8, R18). -/
inductive LoadCondition | unknown | normal | under | derated | over
deriving DecidableEq, Repr

/-- Where a hoist takes its effective limits from (R2, R4). -/
inductive LimitSource | own | group
deriving DecidableEq, Repr

/-- The cause kinds (R169). -/
inductive CauseKind
  | overload | underload | skew | share | stale | driveFault | driveHalt | uncommanded | arrivalMiss
  | filter | silence | consoleHalt | stopOverflow | trackError
deriving DecidableEq, Repr

/-- The configured part of a hoist record, fields 0 to 10 (R2). -/
structure HoistConfig where
  present : Bool
  group : Option GroupNo
  limitSource : LimitSource
  softLow : Nat
  softHigh : Nat
  speedCeiling : Nat
  underLimit : Nat
  derateStart : Nat
  overLimit : Nat
  weight : Nat
  offset : Int
deriving DecidableEq, Repr

/-- The power-on values of a hoist's configured fields (R2). -/
def HoistConfig.powerOn : HoistConfig :=
  { present := false, group := none, limitSource := .own, softLow := 0, softHigh := 0, speedCeiling := 10,
    underLimit := 0, derateStart := 900, overLimit := 1000, weight := 0, offset := 0 }

/-- A hoist's grant: Granted Target, Granted Speed and Granted Tag, which are set and cleared together (R8, R9, R11; DEDUCED,
log entry 19). -/
structure Grant where
  target : Nat
  speed : Nat
  tag : Byte
deriving DecidableEq, Repr

/-- The live part of a hoist record (R8). -/
structure HoistLive where
  state : HoistState
  position : Option Nat
  load : Option Nat
  driveState : Option DriveState
  sampleAge : Nat
  loadCondition : LoadCondition
  grant : Option Grant
  arrived : Bool
  fresh : Bool
  pollOutstanding : Bool
  lastStopCause : Option CauseKind
deriving DecidableEq, Repr

/-- The value of every live field after either reset (R8). -/
def HoistLive.reset : HoistLive :=
  { state := .offline, position := none, load := none, driveState := none, sampleAge := 65535,
    loadCondition := .unknown, grant := none, arrived := false, fresh := false, pollOutstanding := false,
    lastStopCause := none }

/-- One record of the Hoist Table (R1). -/
structure Hoist where
  cfg : HoistConfig
  live : HoistLive
deriving DecidableEq, Repr

/-! ## Group records (chapters Groups and Move Tracks) -/

/-- The six group states (section 4.2). -/
inductive GroupState | parked | ready | moving | slowed | holding | tripped
deriving DecidableEq, Repr

/-- The verdicts of a Group Check, with NONE for a group not evaluated since it was armed (R77, R107). -/
inductive Verdict | none | clean | warn | hold | trip
deriving DecidableEq, Repr

/-- The configured part of a group record, fields 0 to 9 (R74). -/
structure GroupConfig where
  speedCeiling : Nat
  skewWarn : Nat
  skewLimit : Nat
  shareWarn : Nat
  shareTolerance : Nat
  shareFloor : Nat
  underLimit : Nat
  derateStart : Nat
  overLimit : Nat
  trackStart : Option TrackIx
deriving DecidableEq, Repr

/-- The power-on values of a group's configured fields (R74). -/
def GroupConfig.powerOn : GroupConfig :=
  { speedCeiling := 100, skewWarn := 20, skewLimit := 50, shareWarn := 40, shareTolerance := 80, shareFloor := 100,
    underLimit := 0, derateStart := 900, overLimit := 1000, trackStart := none }

/-- A group's grant: Granted Base, Granted Speed and Batch Tag, which are set and cleared together (R77, R93). -/
structure GroupGrant where
  base : Int
  speed : Nat
  tag : Byte
deriving DecidableEq, Repr

/-- A pending rewrite wave's tag and speed (R95). -/
structure Wave where
  tag : Byte
  speed : Nat
deriving DecidableEq, Repr

/-- A running track: the Track Cursor, Dwell Remaining and the Track Origin (R117). The three are set and cleared
together, but for Dwell Remaining, which is absent while a step is in flight and 0 while the next step is due. -/
structure Track where
  cursor : TrackIx
  dwell : Option Nat
  originSeq : Byte
  originEpoch : BitVec 16
deriving DecidableEq, Repr

/-- The live part of a group record (R77). -/
structure GroupLive where
  state : GroupState
  lastVerdict : Verdict
  cleanStreak : Nat
  tripCause : Option CauseKind
  grant : Option GroupGrant
  wave : Option Wave
  lastSkew : Option Nat
  lastDmax : Option Nat
  track : Option Track
deriving DecidableEq, Repr

/-- The value of every live field of a group after either reset (R77, R117). -/
def GroupLive.reset : GroupLive :=
  { state := .parked, lastVerdict := .none, cleanStreak := 0, tripCause := none, grant := none, wave := none,
    lastSkew := none, lastDmax := none, track := none }

/-- One record of the Group Table (R73). -/
structure Group where
  cfg : GroupConfig
  live : GroupLive
deriving DecidableEq, Repr

/-! ## The Address Map, the Match Filters, the Track Pool and the line configuration record -/

/-- One Address Map entry (R40). -/
structure MapEntry where
  enabled : Bool
  base : LineAddr
  spanExp : Nat
  slotBase : Slot
deriving DecidableEq, Repr

/-- The power-on values of a map entry (R40). -/
def MapEntry.powerOn : MapEntry := { enabled := false, base := 0x0001#16, spanExp := 0, slotBase := 0 }

/-- The arrivals a filter sees (R160). -/
inductive FilterDirection | down | up | both
deriving DecidableEq, Repr

/-- What a match does (R160). -/
inductive FilterAction | mark | drop | holdGroup | haltGroup | holdAll | haltAll
deriving DecidableEq, Repr

/-- One Match Filter record (R160). Bit j of `mask` stands for window position j (R194). -/
structure Filter where
  enabled : Bool
  direction : FilterDirection
  kindMatch : Bool
  kind : Byte
  offset : Nat
  mask : BitVec 32
  expected : BitVec 16
  action : FilterAction
  actionGroup : GroupNo
  capture : Bool
deriving DecidableEq, Repr

/-- The power-on values of a filter record (R160). -/
def Filter.powerOn : Filter :=
  { enabled := false, direction := .down, kindMatch := false, kind := 0x00#8, offset := 0, mask := 0#32,
    expected := 0xFFFF#16, action := .mark, actionGroup := 0, capture := false }

/-- One step descriptor of the Track Pool (R114). -/
structure TrackStep where
  base : Nat
  speed : Nat
  dwell : Nat
  last : Bool
deriving DecidableEq, Repr

/-- The power-on values of a descriptor (R114). -/
def TrackStep.powerOn : TrackStep := { base := 0, speed := 10, dwell := 0, last := true }

/-- The Silence Action (R147). -/
inductive SilenceAction | holdAll | haltAll
deriving DecidableEq, Repr

/-- Own-Sample Relay (R147, R155). -/
inductive OwnSampleRelay | relay | sink
deriving DecidableEq, Repr

/-- The line configuration record, fields 0 to 8 (R147). -/
structure LineConfig where
  sweepInterval : Nat
  pollTimeout : Nat
  ageLimit : Nat
  silenceLimit : Nat
  silenceAction : SilenceAction
  arrivalWindow : Nat
  ownSampleRelay : OwnSampleRelay
  recoverClearsCause : Bool
  noticeLevels : Table 16 Nat
deriving DecidableEq, Repr

/-- The default notice levels, source 1 first (R174). -/
def defaultLevels : Table 16 Nat := ⟨[7, 7, 7, 6, 5, 5, 5, 4, 4, 3, 3, 3, 2, 2, 2, 1], rfl⟩

/-- The power-on values of the line configuration record (R147). -/
def LineConfig.powerOn : LineConfig :=
  { sweepInterval := 50, pollTimeout := 20, ageLimit := 200, silenceLimit := 500, silenceAction := .holdAll,
    arrivalWindow := 5, ownSampleRelay := .relay, recoverClearsCause := false, noticeLevels := defaultLevels }

/-! ## Frames, queues and stop orders -/

/-- A frame's content without its Len and Check, which its payload and its bytes determine (R23; DEDUCED, log entry
18). -/
structure Frame where
  kind : Byte
  dest : LineAddr
  src : LineAddr
  seq : Byte
  payload : List Byte
deriving DecidableEq, Repr

/-- A frame waiting in the Intake Buffer, with the Silence epoch current at its appending (R47). -/
structure IntakeEntry where
  frame : Frame
  epoch : BitVec 16
deriving DecidableEq, Repr

/-- What a frame in a downstream queue or in the Transmit Stage is, with what it carries beside the frame (R139).
`begun` marks the entries of a batch some of whose entries have been selected into NEXT (R141, R143). -/
inductive Role
  | stop
  | granted (slot : Slot)
  | batch (slot : Slot) (identity : Byte) (begun : Bool)
  | poll (slot : Option Slot)
  | passThrough
deriving DecidableEq, Repr

/-- A downstream frame with its role. -/
structure Entry where
  frame : Frame
  role : Role
deriving DecidableEq, Repr

/-- A pending internal batch: a rewrite wave or a due track step of a group (R49). -/
inductive InternalBatch
  | wave (g : GroupNo)
  | step (g : GroupNo)
deriving DecidableEq, Repr

/-- The stop kinds (R128). -/
inductive StopKind | hold | halt
deriving DecidableEq, Repr

/-- The scope of a stop order (R128). -/
inductive Scope
  | hoist (h : Slot)
  | group (g : GroupNo)
  | all
  | raw (a : LineAddr)
deriving DecidableEq, Repr

/-- The origin of a stop order; a console order keeps its frame's Src and Seq (R128). -/
inductive Origin
  | console (src : LineAddr) (seq : Byte)
  | part
deriving DecidableEq, Repr

/-- An order of the Stop Lane (R128). -/
structure StopOrder where
  kind : StopKind
  scope : Scope
  pendingList : List Slot
  origin : Origin
  relatedSeq : Byte
  cause : Option CauseKind
deriving DecidableEq, Repr

/-- The D-port Modes (R37). -/
inductive PortMode | normal | holdOnly | isolate
deriving DecidableEq, Repr

/-! ## The Silence Timer, the Cause Record, notices and the Reply Slot -/

/-- The states of the Silence Timer (R156). -/
inductive SilenceState | unarmed | running | expired
deriving DecidableEq, Repr

/-- The four values of the Silence Timer (R156). -/
structure SilenceTimer where
  state : SilenceState
  count : Nat
  epoch : BitVec 16
  lastSeq : Byte
deriving DecidableEq, Repr

/-- The Silence Timer after either reset (R156). -/
def SilenceTimer.reset : SilenceTimer := { state := .unarmed, count := 0, epoch := 0#16, lastSeq := 0#8 }

/-- A Cause Record that is not empty (R170). `filterHits` are in increasing number, `later` in increasing cause code,
neither with a repeat. -/
structure CauseRecord where
  first : CauseKind
  time : BitVec 32
  hoist : Option Slot
  group : Option GroupNo
  filterHits : Option (List FilterNo)
  capture : Option (List Byte)
  later : List CauseKind
deriving DecidableEq, Repr

/-- A pending record of the Notice Unit (R175); a source that is not pending has none. -/
structure Notice where
  repeated : Bool
  hoist : Option Slot
  group : Option GroupNo
  code : Byte
  detail : Byte
  relatedSeq : Byte
  time : BitVec 32
deriving DecidableEq, Repr

/-- The MREPLY in the Reply Slot (R179). `resets` marks the DONE reply to a LINE_RESET, whose selection is the moment
of the reset (R192). -/
structure Reply where
  frame : Frame
  resets : Bool
deriving DecidableEq, Repr

/-! ## The whole machine -/

/-- Everything the spec gives the part, and the queue of commands that wait (the model's own). -/
structure State where
  /-- The model's own: commands waiting, first in, first out. -/
  pending : List Instr
  /-- Line Clock (R146). -/
  lineClock : BitVec 32
  /-- Hoist Table (R1). -/
  hoists : Table 64 Hoist
  /-- Group Table (R73), with each group's track state (R117). -/
  groups : Table 16 Group
  /-- Address Map (R40). -/
  addressMap : Table 16 MapEntry
  /-- Match Filter Bank (R160). -/
  filters : Table 16 Filter
  /-- Track Pool (R114). -/
  trackPool : Table 128 TrackStep
  /-- Line configuration record (R147). -/
  line : LineConfig
  /-- Rig Identity, none while unset (R183). -/
  rigIdentity : Option (BitVec 32)
  /-- Line Motion Enable (R68). -/
  motionEnable : Bool
  /-- D-port Mode (R37). -/
  portMode : PortMode
  /-- Tag counter (R32). -/
  tagCounter : Byte
  /-- Sequence counter (R33). -/
  seqCounter : Byte
  /-- Batch serial (R92). -/
  batchSerial : Byte
  /-- Intake Buffer, head first (R47). -/
  intake : List IntakeEntry
  /-- Stop Lane, head first (R128, R129). -/
  lane : List StopOrder
  /-- Poll Promote Queue, head first (R141). -/
  pollPromote : List Entry
  /-- Motion Queue, head first (R139). -/
  motionQueue : List Entry
  /-- Pending internal batches, oldest first (R140). -/
  internalBatches : List InternalBatch
  /-- Transmit Stage, position NEXT (R142). -/
  nextFrame : Option Entry
  /-- Transmit Stage, position ON_WIRE (R142). -/
  onWire : Option Entry
  /-- Poll timers, one per slot, none while absent (R153). -/
  pollTimers : Table 64 (Option Nat)
  /-- Silence Timer (R156). -/
  silence : SilenceTimer
  /-- Cause Record, none while empty (R170). -/
  causeRecord : Option CauseRecord
  /-- Pending records of the sixteen notice sources, source 1 first, none while not pending (R175). -/
  notices : Table 16 (Option Notice)
  /-- Relay Queue, head first (R180). -/
  relayQueue : List Frame
  /-- Reply Slot (R179). -/
  replySlot : Option Reply
  /-- The frame in transmission at the U-port, none while the transmitter is idle (R36, R177). -/
  uWire : Option Frame
  /-- Whether the last frame the Upstream Arbiter selected was a NOTICE (R177). -/
  lastWasNotice : Bool
deriving DecidableEq, Repr

/-- The part right after power-on reset (R138 and the reset value of each rule named at its field). DEDUCED (log entry
16): the U-port transmitter is idle. -/
def State.reset : State :=
  { pending := [], lineClock := 0#32,
    hoists := Table.fill 64 { cfg := HoistConfig.powerOn, live := HoistLive.reset },
    groups := Table.fill 16 { cfg := GroupConfig.powerOn, live := GroupLive.reset },
    addressMap := Table.fill 16 MapEntry.powerOn,
    filters := Table.fill 16 Filter.powerOn,
    trackPool := Table.fill 128 TrackStep.powerOn,
    line := LineConfig.powerOn, rigIdentity := none, motionEnable := false, portMode := .normal,
    tagCounter := 128#8, seqCounter := 0#8, batchSerial := 0#8,
    intake := [], lane := [], pollPromote := [], motionQueue := [], internalBatches := [],
    nextFrame := none, onWire := none, pollTimers := Table.fill 64 none, silence := SilenceTimer.reset,
    causeRecord := none, notices := Table.fill 16 none, relayQueue := [], replySlot := none, uWire := none,
    lastWasNotice := false }

/-! ## The reasons a step can stop -/

/-- Why the machine stops with a fault. Every event of the spec has an effect, so only a command that names something
the part does not have faults. -/
inductive Fault where
  /-- Raised by STALE_EXPIRY and POLL_TIMEOUT on a slot number above 63: R1 gives slots 0..63. Safe: the spec has no
  such event. -/
  | noSuchSlot (slot : Nat)
  /-- Raised by DWELL_EXPIRY on a group number above 15: R73 gives groups 0..15. Safe: the spec has no such event. -/
  | noSuchGroup (group : Nat)
deriving DecidableEq, Repr

/-- Why the model has no meaning for a command. -/
inductive Refusal where
  /-- The arm of a command that has no meaning yet; no arm of this model uses it. Safe: the machine stops. -/
  | notModelled (mnemonic : String)
deriving DecidableEq, Repr

end Sys2Proof.Machine
end

