-- ==== Sys2Proof/Machine/Codes.lean ====
section
/-! DEFINITION. The code points of the spec: frame kinds (R25), reason codes (R72), cause codes (R169), notice sources
(R174), MGMT operations and tables (R193) and the codes of the live records (R194). -/

namespace Sys2Proof.Machine

/-! ## Frame kinds (R25) -/

def kindMove : Byte := 0x21#8
def kindGmove : Byte := 0x22#8
def kindHold : Byte := 0x23#8
def kindHalt : Byte := 0x24#8
def kindPoll : Byte := 0x25#8
def kindGo : Byte := 0x26#8
def kindBeat : Byte := 0x27#8
def kindMgmt : Byte := 0x2E#8
def kindSample : Byte := 0x41#8
def kindNotice : Byte := 0x4E#8
def kindMreply : Byte := 0x4F#8

/-- The interlock address, the part's own (R31). -/
def interlockAddr : LineAddr := 0xFFFE#16

/-- The broadcast address (R31). -/
def broadcastAddr : LineAddr := 0xFFFF#16

/-- The line address of group `g` (R31). -/
def groupAddr (g : GroupNo) : LineAddr := 0xF000#16 + BitVec.ofNat 16 g.val

/-- The Kind byte of a stop frame (R136). -/
def stopKindByte : StopKind → Byte
  | .hold => kindHold
  | .halt => kindHalt

/-! ## Reason codes (R72) -/

/-- The reasons for a refusal. -/
inductive Reason
  | malformed | badDest | unmapped | notPresent | offline | tripped | groupLocked | groupState | memberState
  | groupRange | badSpeed | badTag | lineDisabled | portMode | trackActive | overload | lineSilent | noTrack
  | badValue | badOrder | isProtected | mapOverlap | groupFull | memberCount | weights | skewed | writeOnce
  | wrongRig | noIdentity | notClear | badTable | badIndex | busy
deriving DecidableEq, Repr

/-- The reason codes 1 to 33 (R72). -/
def reasonCode : Reason → Byte
  | .malformed => 1 | .badDest => 2 | .unmapped => 3 | .notPresent => 4 | .offline => 5 | .tripped => 6
  | .groupLocked => 7 | .groupState => 8 | .memberState => 9 | .groupRange => 10 | .badSpeed => 11 | .badTag => 12
  | .lineDisabled => 13 | .portMode => 14 | .trackActive => 15 | .overload => 16 | .lineSilent => 17 | .noTrack => 18
  | .badValue => 19 | .badOrder => 20 | .isProtected => 21 | .mapOverlap => 22 | .groupFull => 23
  | .memberCount => 24 | .weights => 25 | .skewed => 26 | .writeOnce => 27 | .wrongRig => 28 | .noIdentity => 29
  | .notClear => 30 | .badTable => 31 | .badIndex => 32 | .busy => 33

/-! ## Cause codes (R169) and the codes of the live records (R194) -/

/-- The cause codes 1 to 14 (R169). -/
def causeNumber : CauseKind → Nat
  | .overload => 1 | .underload => 2 | .skew => 3 | .share => 4 | .stale => 5 | .driveFault => 6 | .driveHalt => 7
  | .uncommanded => 8 | .arrivalMiss => 9 | .filter => 10 | .silence => 11 | .consoleHalt => 12
  | .stopOverflow => 13 | .trackError => 14

/-- The Code byte of a cause kind (R169). -/
def causeCode (c : CauseKind) : Byte := BitVec.ofNat 8 (causeNumber c)

/-- The Code byte of a cause that may be absent: 0x00 stands for no cause (R169, R134). -/
def optCauseCode : Option CauseKind → Byte
  | some c => causeCode c
  | none => 0x00#8

/-- Hoist State codes, which are also the codes of the STALE notice (R194, R150). -/
def hoistStateCode : HoistState → Byte
  | .offline => 0 | .ready => 1 | .held => 2 | .moving => 3 | .tripped => 4

/-- Group State codes (R194). -/
def groupStateCode : GroupState → Byte
  | .parked => 0 | .ready => 1 | .moving => 2 | .slowed => 3 | .holding => 4 | .tripped => 5

/-- Load Condition codes (R194). -/
def loadConditionCode : LoadCondition → Byte
  | .unknown => 0 | .normal => 1 | .under => 2 | .derated => 3 | .over => 4

/-- Verdict codes (R194). -/
def verdictCode : Verdict → Byte
  | .none => 0 | .clean => 1 | .warn => 2 | .hold => 3 | .trip => 4

/-- Drive State codes (R29). -/
def driveStateCode : DriveState → Byte
  | .idle => 0 | .moving => 1 | .held => 2 | .halted => 3 | .fault => 4

/-- The Drive State that a code byte stands for; codes 0x05 and above stand for none (R29). -/
def driveStateOf (b : Byte) : Option DriveState :=
  if b = 0x00#8 then some .idle
  else if b = 0x01#8 then some .moving
  else if b = 0x02#8 then some .held
  else if b = 0x03#8 then some .halted
  else if b = 0x04#8 then some .fault
  else none

/-! ## Notice sources (R174) -/

/-- The sixteen notice sources. -/
inductive NoticeSource
  | trip | stopOverflow | silence | hold | stale | trackError | intakeLoss | warn | refuse | filter | trackEnd
  | miss | clamp | groupReady | relayLoss | lineError
deriving DecidableEq, Repr

/-- The place of a source in the source order; its number is one more (R174). -/
def sourceIndex : NoticeSource → Fin 16
  | .trip => 0 | .stopOverflow => 1 | .silence => 2 | .hold => 3 | .stale => 4 | .trackError => 5 | .intakeLoss => 6
  | .warn => 7 | .refuse => 8 | .filter => 9 | .trackEnd => 10 | .miss => 11 | .clamp => 12 | .groupReady => 13
  | .relayLoss => 14 | .lineError => 15

/-! ## MGMT operations (R193) -/

def opRead : Byte := 0x01#8
def opWrite : Byte := 0x02#8
def opReadLive : Byte := 0x03#8
def opArm : Byte := 0x04#8
def opPark : Byte := 0x05#8
def opRecover : Byte := 0x06#8
def opClearCause : Byte := 0x07#8
def opReadCause : Byte := 0x08#8
def opSetIdentity : Byte := 0x09#8
def opSetMotion : Byte := 0x0A#8
def opSetPortMode : Byte := 0x0B#8
def opLineReset : Byte := 0x0C#8

/-- Whether an Operation byte is one of the codes of R193. -/
def opKnown (op : Byte) : Bool := 1 ≤ op.toNat && op.toNat ≤ 12

/-- The tables a management frame names (R193). -/
inductive TableCode | all | hoist | group | map | filter | track | line
deriving DecidableEq, Repr

/-- The table a Table byte names (R193). -/
def tableOf (b : Byte) : Option TableCode :=
  if b = 0#8 then some .all
  else if b = 1#8 then some .hoist
  else if b = 2#8 then some .group
  else if b = 3#8 then some .map
  else if b = 4#8 then some .filter
  else if b = 5#8 then some .track
  else if b = 6#8 then some .line
  else none

end Sys2Proof.Machine
end

