-- ==== Sys2Proof/Machine/Frames.lean ====
section
/-! DEFINITION. Frame content: byte order, the CRC-16 (R24), the layout of a frame (R23) and the reception checks
(R34). -/

namespace Sys2Proof.Machine

/-! ## Byte order: most significant byte first (R23, R194) -/

/-- Two bytes as a 16-bit field. -/
def word16 (hi lo : Byte) : BitVec 16 := hi ++ lo

/-- The byte of a 16-bit field that is sent first. -/
def highByte (w : BitVec 16) : Byte := w.extractLsb' 8 8

/-- The byte of a 16-bit field that is sent second. -/
def lowByte (w : BitVec 16) : Byte := w.extractLsb' 0 8

/-- A number in `width` bytes, most significant first. -/
def natBytes : (width : Nat) → Nat → List Byte
  | 0, _ => []
  | w + 1, n => BitVec.ofNat 8 (n / 256 ^ w) :: natBytes w n

/-- The number that bytes stand for, most significant first. -/
def bytesNat (bs : List Byte) : Nat := bs.foldl (fun n b => n * 256 + b.toNat) 0

/-- A signed number in `width` bytes, two's complement (R194). -/
def intBytes (width : Nat) (i : Int) : List Byte := natBytes width (i % (256 ^ width : Nat)).toNat

/-- The signed number that bytes stand for, two's complement (R194). -/
def bytesInt (bs : List Byte) : Int :=
  if 2 * bytesNat bs < 256 ^ bs.length then (bytesNat bs : Int) else (bytesNat bs : Int) - (256 ^ bs.length : Nat)

/-- Yes/no in one byte (R194). -/
def boolByte (b : Bool) : Byte := if b then 0x01#8 else 0x00#8

/-! ## The CRC-16 (R24) -/

/-- One shift of the register: a 0 enters at the low end, and 0x1021 is combined in when a 1 leaves at the top. -/
def crcShift (r : BitVec 16) : BitVec 16 := if r.msb then (r <<< 1) ^^^ 0x1021#16 else r <<< 1

/-- A number of shifts, one after another. -/
def crcShifts : Nat → BitVec 16 → BitVec 16
  | 0, r => r
  | n + 1, r => crcShifts n (crcShift r)

/-- Feeding one byte: it is combined with the high eight bits of the register, which is then shifted eight times. -/
def crcByte (r : BitVec 16) (b : Byte) : BitVec 16 := crcShifts 8 (r ^^^ word16 b 0x00#8)

/-- The CRC of a run of bytes, from the initial value 0xFFFF with no final inversion (R24). -/
def crc (bs : List Byte) : BitVec 16 := bs.foldl crcByte 0xFFFF#16

/-! ## Layout (R23) -/

/-- A frame's Len (R23). -/
def frameLen (f : Frame) : Nat := f.payload.length

/-- Bytes 0 to 6 + Len: the header and the payload (R23). -/
def frameHead (f : Frame) : List Byte :=
  [f.kind, highByte f.dest, lowByte f.dest, highByte f.src, lowByte f.src, f.seq, BitVec.ofNat 8 (frameLen f)]
    ++ f.payload

/-- The whole content, with the Check computed over bytes 0 to 6 + Len (R23, R24, R36). -/
def frameContent (f : Frame) : List Byte :=
  frameHead f ++ [highByte (crc (frameHead f)), lowByte (crc (frameHead f))]

/-- Payload byte `n` (R23); the layouts of R27, R29 and R193 are read through it. -/
def payloadByte (f : Frame) (n : Nat) : Byte := f.payload.getD n 0x00#8

/-- The two-byte payload field at byte `n`. -/
def payloadWord (f : Frame) (n : Nat) : BitVec 16 := word16 (payloadByte f n) (payloadByte f (n + 1))

/-- The first 32 bytes of a frame's content, or the whole content when it is shorter (R66, R165). -/
def captureOf (f : Frame) : List Byte := (frameContent f).take 32

/-! ## Reception (R34) -/

/-- Detail code of a failed Check. -/
def detailCheck : Byte := 1#8
/-- Detail code of a Len above 40. -/
def detailLength : Byte := 2#8
/-- Detail code of a wrong number of bytes. -/
def detailCount : Byte := 3#8

/-- The four reception checks in order (R34): the frame, or the Detail code of the first check that fails. -/
def receive (content : List Byte) : Except Byte Frame :=
  let len := (content.getD 6 0x00#8).toNat
  if content.length < 7 then .error detailCount
  else if 40 < len then .error detailLength
  else if content.length ≠ 9 + len then .error detailCount
  else if word16 (content.getD (7 + len) 0x00#8) (content.getD (8 + len) 0x00#8) ≠ crc (content.take (7 + len)) then
    .error detailCheck
  else .ok
    { kind := content.getD 0 0x00#8
      dest := word16 (content.getD 1 0x00#8) (content.getD 2 0x00#8)
      src := word16 (content.getD 3 0x00#8) (content.getD 4 0x00#8)
      seq := content.getD 5 0x00#8
      payload := (content.drop 7).take len }

/-! ## Frames the part forms -/

/-- A MOVE frame with the five-byte payload of R27. -/
def moveFrame (dest src : LineAddr) (seq : Byte) (target speed : Nat) (tag : Byte) : Frame :=
  { kind := kindMove, dest := dest, src := src, seq := seq, payload := natBytes 2 target ++ natBytes 2 speed ++ [tag] }

/-- A stop frame, with Len 0 (R28, R136). -/
def stopFrame (k : StopKind) (dest src : LineAddr) (seq : Byte) : Frame :=
  { kind := stopKindByte k, dest := dest, src := src, seq := seq, payload := [] }

/-- An own POLL (R28, R152). -/
def ownPollFrame (dest : LineAddr) (seq : Byte) : Frame :=
  { kind := kindPoll, dest := dest, src := interlockAddr, seq := seq, payload := [] }

/-- 0xFF stands for no slot in a frame payload (R30). -/
def slotByte : Option Slot → Byte
  | some h => BitVec.ofNat 8 h.val
  | none => 0xFF#8

/-- 0xFF stands for no group in a frame payload (R30). -/
def groupByte : Option GroupNo → Byte
  | some g => BitVec.ofNat 8 g.val
  | none => 0xFF#8

/-- The NOTICE frame of a pending record, with the twelve-byte payload of R30 (R178). -/
def noticeFrame (number : Nat) (level : Nat) (n : Notice) (seq : Byte) : Frame :=
  { kind := kindNotice, dest := broadcastAddr, src := interlockAddr, seq := seq,
    payload := [BitVec.ofNat 8 number, BitVec.ofNat 8 level, boolByte n.repeated, slotByte n.hoist, groupByte n.group,
                n.code, n.detail, n.relatedSeq] ++ natBytes 4 n.time.toNat }

/-- An MREPLY (R182, R193): Operation and Index are copied from the MGMT frame; a reason makes it REFUSED. -/
def replyFrame (f : Frame) (reason : Option Reason) (values : List Byte) : Frame :=
  { kind := kindMreply, dest := f.src, src := interlockAddr, seq := f.seq,
    payload := (match reason with
      | none => [0x00#8, 0x00#8]
      | some r => [0x01#8, reasonCode r]) ++ [payloadByte f 4, payloadByte f 6] ++ values }

end Sys2Proof.Machine
end

