-- ==== Sys2Proof/Machine/Access.lean ====
section
/-! DEFINITION. Reading and writing the tables: records by slot and by group number, group membership (R7), effective
limits (R4), the Address Map in both directions (R43) and the counters of the Command Gate and the Group Supervisor. -/

namespace Sys2Proof.Machine

/-- All slots in increasing order (00_scope, Numbering). -/
def allSlots : List Slot := List.finRange 64

/-- All groups in increasing order. -/
def allGroups : List GroupNo := List.finRange 16

/-- All filters in increasing order. -/
def allFilters : List FilterNo := List.finRange 16

/-- All map entries in increasing order. -/
def allMapEntries : List MapNo := List.finRange 16

/-! ## Records -/

/-- The hoist record at slot `h`. -/
def hoistAt (s : State) (h : Slot) : Hoist := s.hoists.get h

/-- The live part of the hoist at slot `h`. -/
def liveAt (s : State) (h : Slot) : HoistLive := (hoistAt s h).live

/-- The configured part of the hoist at slot `h`. -/
def cfgAt (s : State) (h : Slot) : HoistConfig := (hoistAt s h).cfg

/-- The hoist record at `h` replaced. -/
def putHoist (s : State) (h : Slot) (r : Hoist) : State := { s with hoists := s.hoists.set h r }

/-- The live part of the hoist at `h` changed by `f`. -/
def changeLive (s : State) (h : Slot) (f : HoistLive → HoistLive) : State :=
  putHoist s h { hoistAt s h with live := f (liveAt s h) }

/-- Every hoist record changed by `f`, which is given the slot and the record. -/
def changeHoists (s : State) (f : Slot → Hoist → Hoist) : State :=
  { s with hoists := Table.build fun h => f h (hoistAt s h) }

/-- The group record `g`. -/
def groupAt (s : State) (g : GroupNo) : Group := s.groups.get g

/-- The group record `g` replaced. -/
def putGroup (s : State) (g : GroupNo) (r : Group) : State := { s with groups := s.groups.set g r }

/-- The live part of group `g` changed by `f`. -/
def changeGroup (s : State) (g : GroupNo) (f : GroupLive → GroupLive) : State :=
  putGroup s g { groupAt s g with live := f (groupAt s g).live }

/-- Every group record changed by `f`, which is given the number and the record. -/
def changeGroups (s : State) (f : GroupNo → Group → Group) : State :=
  { s with groups := Table.build fun g => f g (groupAt s g) }

/-! ## Membership (R7) and armed groups -/

/-- Whether hoist `h` is a member of group `g`: Present yes and Group `g` (R7). -/
def isMember (s : State) (g : GroupNo) (h : Slot) : Bool :=
  (cfgAt s h).present && (cfgAt s h).group == some g

/-- The group of a hoist: none for one with Present no, whatever its Group field holds (R7). -/
def groupOf (s : State) (h : Slot) : Option GroupNo := if (cfgAt s h).present then (cfgAt s h).group else none

/-- The members of group `g` in increasing slot order (R7). -/
def members (s : State) (g : GroupNo) : List Slot := allSlots.filter (isMember s g)

/-- Armed: any state but PARKED (section 4.2). -/
def armed (s : State) (g : GroupNo) : Bool := (groupAt s g).live.state != .parked

/-- The armed group that hoist `h` is a member of, if any (R21). -/
def armedGroupOf (s : State) (h : Slot) : Option GroupNo :=
  match (cfgAt s h).group with
  | some g => if (cfgAt s h).present && armed s g then some g else none
  | none => none

/-! ## Effective limits (R4) -/

/-- The speed ceiling and load window that apply to a hoist. -/
structure Limits where
  ceiling : Nat
  underLimit : Nat
  derateStart : Nat
  overLimit : Nat
deriving DecidableEq, Repr

/-- The limits of a hoist configuration `c`, given the group records: the group's when Limit Source is GROUP and
Group is not NONE, its own otherwise (R4). -/
def limitsOf (groups : Table 16 Group) (c : HoistConfig) : Limits :=
  match c.limitSource, c.group with
  | .group, some g =>
    let k := (groups.get g).cfg
    { ceiling := k.speedCeiling, underLimit := k.underLimit, derateStart := k.derateStart, overLimit := k.overLimit }
  | _, _ =>
    { ceiling := c.speedCeiling, underLimit := c.underLimit, derateStart := c.derateStart, overLimit := c.overLimit }

/-- The effective limits of hoist `h` as the records stand (R4). -/
def effectiveLimits (s : State) (h : Slot) : Limits := limitsOf s.groups (cfgAt s h)

/-! ## The Address Map in both directions (R43) -/

/-- A device address: 0x0001 to 0xEFFF (R31). -/
def isDevice (a : LineAddr) : Bool := 0x0001 ≤ a.toNat && a.toNat ≤ 0xEFFF

/-- The number of addresses and slots an entry covers (R40). -/
def spanOf (e : MapEntry) : Nat := 2 ^ e.spanExp

/-- Whether the entry, whatever its Enabled field, has address `a` in its address range (R40). -/
def entryHasAddr (e : MapEntry) (a : LineAddr) : Bool :=
  e.base.toNat ≤ a.toNat && a.toNat ≤ e.base.toNat + spanOf e - 1

/-- Whether the entry, whatever its Enabled field, has slot `h` in its slot range (R40). -/
def entryHasSlot (e : MapEntry) (h : Slot) : Bool :=
  e.slotBase.val ≤ h.val && h.val ≤ e.slotBase.val + spanOf e - 1

/-- The slot `n`, when there is one. -/
def slotOfNat (n : Nat) : Option Slot := if h : n < 64 then some ⟨n, h⟩ else none

/-- The slot that line address `a` maps to, if it is a mapped device address (R43). -/
def slotOfAddr (s : State) (a : LineAddr) : Option Slot :=
  if isDevice a then
    match allMapEntries.find? (fun i => (s.addressMap.get i).enabled && entryHasAddr (s.addressMap.get i) a) with
    | some i =>
      let e := s.addressMap.get i
      slotOfNat (e.slotBase.val + (a.toNat - e.base.toNat))
    | none => none
  else none

/-- The line address that slot `h` maps back to, if it has one (R43). -/
def addrOfSlot (s : State) (h : Slot) : Option LineAddr :=
  match allMapEntries.find? (fun i => (s.addressMap.get i).enabled && entryHasSlot (s.addressMap.get i) h) with
  | some i =>
    let e := s.addressMap.get i
    some (BitVec.ofNat 16 (e.base.toNat + (h.val - e.slotBase.val)))
  | none => none

/-! ## Counters -/

/-- The value of the tag counter after `t`: one more, from 255 back to 128 (R32). -/
def nextTag (t : Byte) : Byte := if t = 255#8 then 128#8 else t + 1#8

/-- One value taken from the tag counter (R32). -/
def stepTag (s : State) : State := { s with tagCounter := nextTag s.tagCounter }

/-- `n` values taken from the sequence counter, which goes from 255 back to 0 (R33). -/
def stepSeq (s : State) (n : Nat) : State := { s with seqCounter := s.seqCounter + BitVec.ofNat 8 n }

/-- One value taken from the batch serial, which goes from 255 back to 0 (R92). -/
def stepSerial (s : State) : State := { s with batchSerial := s.batchSerial + 1#8 }

/-- A stored value that may be absent, read by a rule that finds it present in every state that arises (log entry 4). -/
def stored (v : Option Nat) : Nat := v.getD Config.absentValue

end Sys2Proof.Machine
end

