-- ==== Sys2Proof/Machine/Operands.lean ====
section
/-! DEFINITION. What a frame asks for: the class of its Dest (R31), the Classifier's decision (R44), and the fields of
each payload (R27, R29, R193). -/

namespace Sys2Proof.Machine

/-! ## The address plan (R31) -/

/-- The classes of line addresses. -/
inductive AddrClass
  | invalid | device | group (g : GroupNo) | foreign | interlock | broadcast
deriving DecidableEq, Repr

/-- The class of a line address (R31). -/
def addrClass (a : LineAddr) : AddrClass :=
  if a = 0x0000#16 then .invalid
  else if a.toNat ≤ 0xEFFF then .device
  else if a.toNat ≤ 0xF00F then .group (Fin.ofNat 16 (a.toNat - 0xF000))
  else if a.toNat ≤ 0xFFFD then .foreign
  else if a = interlockAddr then .interlock
  else .broadcast

/-! ## Classification (R44) -/

/-- The Classifier's decision on a frame. -/
inductive FrameClass
  | stop (k : StopKind)
  | passThrough
  | refused (r : Reason)
  | beat
  | move
  | gmove (g : GroupNo)
  | go (g : GroupNo)
  | poll
  | mgmt
deriving DecidableEq, Repr

/-- Whether a Kind byte is one of the eight downstream governed kinds (R26). -/
def isDownstreamKind (k : Byte) : Bool :=
  k == kindMove || k == kindGmove || k == kindHold || k == kindHalt || k == kindPoll || k == kindGo || k == kindBeat
    || k == kindMgmt

/-- Whether a governed kind's Len is what its kind requires (R44 step 4, R25). -/
def lenAllowed (k : Byte) (len : Nat) : Bool :=
  if k == kindMove || k == kindGmove then len == 5
  else if k == kindPoll || k == kindGo then len == 0
  else if k == kindMgmt then 9 ≤ len && len ≤ 40
  else true

/-- Steps 5 and 6 of R44: the Dest form a governed kind requires, and its route. -/
def routeOf (k : Byte) (dest : LineAddr) : FrameClass :=
  match addrClass dest with
  | .device => if k == kindMove then .move else if k == kindPoll then .poll else .refused .badDest
  | .group g => if k == kindGmove then .gmove g else if k == kindGo then .go g else .refused .badDest
  | .interlock => if k == kindBeat then .beat else if k == kindMgmt then .mgmt else .refused .badDest
  | .invalid | .foreign | .broadcast => .refused .badDest

/-- The stop kind of a HOLD or HALT frame (R44 step 1). -/
def stopKindOf (f : Frame) : Option StopKind :=
  if f.kind = kindHold then some .hold else if f.kind = kindHalt then some .halt else none

/-- The steps of R44 in order; the first that decides ends the classification. -/
def classOf (f : Frame) : FrameClass :=
  match stopKindOf f with
  | some k => .stop k
  | none =>
    if addrClass f.dest = .foreign then .passThrough
    else if !isDownstreamKind f.kind then .passThrough
    else if !lenAllowed f.kind (frameLen f) then .refused .malformed
    else routeOf f.kind f.dest

/-- The scope that the Dest of a console stop gives (R64). -/
def scopeOfDest (s : State) (a : LineAddr) : Scope :=
  match addrClass a with
  | .device =>
    match slotOfAddr s a with
    | some h => .hoist h
    | none => .raw a
  | .group g => .group g
  | .broadcast | .interlock => .all
  | .foreign | .invalid => .raw a

/-! ## MOVE and GMOVE (R27) -/

/-- Target of a MOVE, or Base of a GMOVE. -/
def requestedTarget (f : Frame) : Nat := (payloadWord f 0).toNat

/-- Speed of a MOVE or GMOVE. -/
def requestedSpeed (f : Frame) : Nat := (payloadWord f 2).toNat

/-- Tag of a MOVE or GMOVE. -/
def requestedTag (f : Frame) : Byte := payloadByte f 4

/-! ## SAMPLE (R29, R13) -/

/-- What a SAMPLE of Len 6 reports. -/
structure Reading where
  position : Nat
  load : Nat
  driveCode : Byte
  tagEcho : Byte
  seq : Byte
deriving DecidableEq, Repr

/-- The fields of a SAMPLE's payload (R29). -/
def readingOf (f : Frame) : Reading :=
  { position := (payloadWord f 0).toNat, load := (payloadWord f 2).toNat, driveCode := payloadByte f 4,
    tagEcho := payloadByte f 5, seq := f.seq }

/-- The Drive State of a valid reading; none when the reading is invalid (R13). -/
def validDrive (r : Reading) : Option DriveState :=
  if r.position ≤ 65000 && r.load ≤ 8000 then driveStateOf r.driveCode else none

/-! ## MGMT (R193) -/

/-- The Rig Identity field of an MGMT frame. -/
def mgmtIdentity (f : Frame) : BitVec 32 := payloadWord f 0 ++ payloadWord f 2

/-- The Operation byte. -/
def mgmtOp (f : Frame) : Byte := payloadByte f 4

/-- The Table byte. -/
def mgmtTable (f : Frame) : Byte := payloadByte f 5

/-- The Index byte. -/
def mgmtIndex (f : Frame) : Nat := (payloadByte f 6).toNat

/-- The Field Mask; bit j selects field j. -/
def mgmtMask (f : Frame) : BitVec 16 := payloadWord f 7

/-- The Values. -/
def mgmtValues (f : Frame) : List Byte := f.payload.drop 9

end Sys2Proof.Machine
end

