-- ==== Sys2Proof/Machine/Flags.lean ====
section
/-! DEFINITION. The computed conditions: the load condition (R18), the state effect of a stop on a hoist (R10) and on a
group (R81), the derated speed (R57), and the skew and share parts of a Group Check with its verdict (R104 to R108). -/

namespace Sys2Proof.Machine

/-! ## Load condition and stop effects -/

/-- The load condition of a load under a window; the first row that holds (R18). -/
def loadConditionOf (w : Limits) (load : Nat) : LoadCondition :=
  if w.overLimit ≤ load then .over
  else if w.derateStart < load then .derated
  else if load < w.underLimit then .under
  else .normal

/-- The state effect of a stop on a hoist (R10). -/
def stoppedHoist : StopKind → HoistState → HoistState
  | .halt, _ => .tripped
  | .hold, .offline => .offline
  | .hold, .tripped => .tripped
  | .hold, .ready | .hold, .moving | .hold, .held => .held

/-- The state effect of a stop on a group (R81). -/
def stoppedGroup : StopKind → GroupState → GroupState
  | _, .parked => .parked
  | .halt, _ => .tripped
  | .hold, .tripped => .tripped
  | .hold, .ready | .hold, .moving | .hold, .slowed | .hold, .holding => .holding

/-- Whether stop kind `a` is at least as strong as `b`: HALT is stronger than HOLD (00_scope, Orders of strength). -/
def atLeastAsStrong : StopKind → StopKind → Bool
  | .halt, _ => true
  | .hold, .hold => true
  | .hold, .halt => false

/-! ## Speeds -/

/-- The derated speed Vd of a load under the effective limits (R56, R57). -/
def deratedSpeed (w : Limits) (load : Nat) : Nat :=
  if load ≤ w.derateStart then w.ceiling
  else max (w.ceiling * (w.overLimit - load) / (w.overLimit - w.derateStart)) 8

/-- Vd of hoist `h`, from its effective limits and its stored Load (R57). -/
def deratedSpeedOf (s : State) (h : Slot) : Nat := deratedSpeed (effectiveLimits s h) (stored (liveAt s h).load)

/-- Half a speed, but not below the creep speed of 8 mm/s (R89, R95). -/
def halved (v : Nat) : Nat := max (v / 2) 8

/-- `x` clamped to `lo` .. `hi` (R55, R88). -/
def clampNat (x lo hi : Nat) : Nat := min (max x lo) hi

/-! ## Extremes over members -/

/-- The greatest of a list of whole numbers; a free value over no members at all (log entry 4). -/
def greatest : List Int → Int
  | [] => (Config.absentValue : Int)
  | x :: xs => xs.foldl max x

/-- The least of a list of whole numbers; a free value over no members at all (log entry 4). -/
def least : List Int → Int
  | [] => (Config.absentValue : Int)
  | x :: xs => xs.foldl min x

/-- The first member, in list order, at which `f` is greatest (R108: at a tie the one at the lower slot). -/
def firstGreatest (f : Slot → Int) : List Slot → Option Slot
  | [] => none
  | h :: hs => some (hs.foldl (fun best x => if f best < f x then x else best) h)

/-! ## The Group Check (R104 to R108) -/

/-- The normalised position of a member: Position less Offset (R104). -/
def normalised (s : State) (h : Slot) : Int := (stored (liveAt s h).position : Int) - (cfgAt s h).offset

/-- The skew S of a group's members (R104, R78). -/
def skewOf (s : State) (g : GroupNo) : Nat :=
  (greatest ((members s g).map (normalised s)) - least ((members s g).map (normalised s))).toNat

/-- The skew part of an evaluation (R104). -/
def skewPart (k : GroupConfig) (skew : Nat) : Verdict :=
  if k.skewLimit < skew then .hold else if k.skewWarn < skew then .warn else .clean

/-- The total load T of a group's members (R105). -/
def totalLoad (s : State) (g : GroupNo) : Nat := ((members s g).map fun h => stored (liveAt s h).load).sum

/-- A member's share of a total load (R105). -/
def shareOf (load total : Nat) : Nat := load * 1024 / total

/-- A member's deviation from its Weight (R106). -/
def deviationOf (s : State) (total : Nat) (h : Slot) : Nat :=
  let share := shareOf (stored (liveAt s h).load) total
  (share - (cfgAt s h).weight) + ((cfgAt s h).weight - share)

/-- Dmax of a group when shares are computed: T is at least the Share Floor and at least 1 (R105, R106). -/
def dmaxOf (s : State) (g : GroupNo) : Option Nat :=
  let total := totalLoad s g
  if (groupAt s g).cfg.shareFloor ≤ total && 1 ≤ total then
    some (((members s g).map (deviationOf s total)).foldl max 0)
  else none

/-- The share part of an evaluation (R105, R106). -/
def sharePart (k : GroupConfig) : Option Nat → Verdict
  | none => .clean
  | some d => if k.shareTolerance < d then .trip else if k.shareWarn < d then .warn else .clean

/-- The place of a verdict in the order CLEAN < WARN < HOLD < TRIP (R107). -/
def verdictRank : Verdict → Nat
  | .none => 0 | .clean => 1 | .warn => 2 | .hold => 3 | .trip => 4

/-- The worse of two verdicts (R107). -/
def worse (a b : Verdict) : Verdict := if (verdictRank a) < (verdictRank b) then b else a

/-- The member named for the skew part (R108). -/
def skewCulprit (s : State) (g : GroupNo) : Option Slot := firstGreatest (normalised s) (members s g)

/-- The member named for the share part (R108). -/
def shareCulprit (s : State) (g : GroupNo) : Option Slot :=
  firstGreatest (fun h => (deviationOf s (totalLoad s g) h : Int)) (members s g)

end Sys2Proof.Machine
end

