-- ==== Sys2Proof/Machine/Ops.lean ====
section
/-! DEFINITION. The shared operations: raising a notice (R175), the Cause Record (R171), and a stop order from its
issue to its admission (R21, R130 to R135) with its effects on hoists (R10), groups (R81, R82) and queues (R135). -/

namespace Sys2Proof.Machine

/-! ## Notices (R175) -/

/-- The payload a block hands to the Notice Unit (R175). -/
structure NoticePayload where
  hoist : Option Slot
  group : Option GroupNo
  code : Byte
  detail : Byte
  relatedSeq : Byte
deriving DecidableEq, Repr

/-- The level of a source as the line configuration record has it (R175). -/
def noticeLevel (s : State) (i : Fin 16) : Nat := s.line.noticeLevels.get i

/-- A source raised with a payload: ignored at level 0; otherwise pending with the payload and the Line Clock, and
marked as a repeat when it was pending already (R175). -/
def raiseNotice (s : State) (src : NoticeSource) (p : NoticePayload) : State :=
  if noticeLevel s (sourceIndex src) = 0 then s
  else
    let record : Notice :=
      { repeated := (s.notices.get (sourceIndex src)).isSome, hoist := p.hoist, group := p.group, code := p.code,
        detail := p.detail, relatedSeq := p.relatedSeq, time := s.lineClock }
    { s with notices := s.notices.set (sourceIndex src) (some record) }

/-- The slot a Dest maps to and the group that goes with it, for the notices of R45, R47 and R168: the group address's
group, or the group of the slot's hoist (R7). DEDUCED (log entry 11): R54 is read with R7 for a hoist that is not Present. -/
def destParties (s : State) (a : LineAddr) : Option Slot × Option GroupNo :=
  match addrClass a with
  | .group g => (none, some g)
  | _ =>
    match slotOfAddr s a with
    | some h => (some h, groupOf s h)
    | none => (none, none)

/-- The REFUSE notice of a refused line frame (R45, R54, R87, R118). -/
def refuseFrame (s : State) (f : Frame) (r : Reason) : State :=
  raiseNotice s .refuse
    { hoist := (destParties s f.dest).1, group := (destParties s f.dest).2, code := reasonCode r, detail := f.kind,
      relatedSeq := f.seq }

/-! ## The Cause Record (R170, R171) -/

/-- A cause kind added to a set of cause kinds kept in increasing code (R171). -/
def addCause (c : CauseKind) : List CauseKind → List CauseKind
  | [] => [c]
  | x :: xs =>
    if causeNumber c = causeNumber x then x :: xs
    else if causeNumber c < causeNumber x then c :: x :: xs
    else x :: addCause c xs

/-- What a recorded stop hands to the Cause Record (R171). -/
structure CauseReport where
  cause : CauseKind
  hoist : Option Slot
  group : Option GroupNo
  hits : Option (List FilterNo)
  capture : Option (List Byte)
deriving DecidableEq, Repr

/-- A recorded stop at the Cause Record: an empty record is written from it; otherwise only Later Causes grows (R171). -/
def recordCause (s : State) (c : CauseReport) : State :=
  match s.causeRecord with
  | none =>
    { s with causeRecord := some { first := c.cause, time := s.lineClock, hoist := c.hoist, group := c.group,
                                   filterHits := if c.cause = .filter then c.hits else none, capture := c.capture,
                                   later := [] } }
  | some r => { s with causeRecord := some { r with later := addCause c.cause r.later } }

/-! ## Stop orders: issue and coverage -/

/-- A stop order as it is issued: the fields of the lane's record, and what is consumed at its admission (R128). The
Cause is present exactly when the order is recorded: origin PART with a cause, or a console HALT (R171). -/
structure StopIssue where
  kind : StopKind
  scope : Scope
  origin : Origin
  relatedSeq : Byte
  cause : Option CauseKind
  hoist : Option Slot
  hits : Option (List FilterNo)
  capture : Option (List Byte)
deriving DecidableEq, Repr

/-- A stop order of origin PART with no hit set and no capture (R20, R109, R110, R124). -/
def partStop (k : StopKind) (sc : Scope) (cause : Option CauseKind) (seq : Byte) (h : Option Slot) : StopIssue :=
  { kind := k, scope := sc, origin := .part, relatedSeq := seq, cause := cause, hoist := h, hits := none,
    capture := none }

/-- Widening: an order on a member of an armed group becomes an order on the group (R21, R98). -/
def widen (s : State) (o : StopIssue) : StopIssue :=
  match o.scope with
  | .hoist h =>
    match armedGroupOf s h with
    | some g => { o with scope := .group g }
    | none => o
  | .group _ | .all | .raw _ => o

/-- Whether scope `x` covers scope `y` (R130). -/
def scopeCovers (s : State) : Scope → Scope → Bool
  | .all, _ => true
  | .group g, .group g' => g == g'
  | .group g, .hoist h => isMember s g h
  | .hoist h, .hoist h' => h == h'
  | .raw a, .raw a' => a == a'
  | _, _ => false

/-- Every slot a scope names, which is the Pending List at admission (R131). -/
def scopeSlots (s : State) : Scope → List Slot
  | .hoist h => [h]
  | .group g => members s g
  | .all | .raw _ => []

/-- Whether a scope covers the record of hoist `h`, which must be Present (R10). -/
def coversHoist (s : State) (sc : Scope) (h : Slot) : Bool :=
  (cfgAt s h).present &&
    match sc with
    | .hoist h' => h == h'
    | .group g => isMember s g h
    | .all => true
    | .raw _ => false

/-- Whether a scope covers group `g` (section 4.2.3). -/
def coversGroup : Scope → GroupNo → Bool
  | .group g', g => g == g'
  | .all, _ => true
  | .hoist _, _ | .raw _, _ => false

/-! ## The effects of an admission (R134) -/

/-- Step 1 of R134: R10 on every Present hoist the order covers. -/
def stopHoists (s : State) (o : StopIssue) : State :=
  changeHoists s fun h r =>
    if coversHoist s o.scope h then
      { r with live := { r.live with state := stoppedHoist o.kind r.live.state,
                                     lastStopCause := if o.cause.isSome then o.cause else r.live.lastStopCause } }
    else r

/-- R81 and R82 on the live part of one covered group: nothing while it is PARKED. -/
def stopGroupLive (k : StopKind) (cause : Option CauseKind) (l : GroupLive) : GroupLive :=
  if l.state = .parked then l
  else { l with state := stoppedGroup k l.state, wave := none, track := none, cleanStreak := 0,
                tripCause := if cause.isSome then cause else l.tripCause }

/-- The group of a pending internal batch. -/
def batchGroup : InternalBatch → GroupNo
  | .wave g => g
  | .step g => g

/-- The pending internal batch of group `g` cancelled (R82, R97, R125). -/
def cancelBatch (s : State) (g : GroupNo) : State :=
  { s with internalBatches := s.internalBatches.filter fun b => batchGroup b != g }

/-- Step 2 of R134: R81 and R82 on every group the order covers. -/
def stopGroups (s : State) (o : StopIssue) : State :=
  { s with
    groups := Table.build fun g =>
      if coversGroup o.scope g then
        { groupAt s g with live := stopGroupLive o.kind o.cause (groupAt s g).live }
      else groupAt s g
    internalBatches := s.internalBatches.filter fun b =>
      !(coversGroup o.scope (batchGroup b) && armed s (batchGroup b)) }

/-- Whether a stop of scope `sc` reaches a frame in the Motion Queue or in NEXT (R135). -/
def purges (s : State) (sc : Scope) (e : Entry) : Bool :=
  match sc with
  | .all => e.frame.kind == kindMove
  | .raw a => e.frame.kind == kindMove && e.frame.dest == a
  | .hoist h =>
    match e.role with
    | .granted h' => h == h'
    | .batch h' _ _ => h == h'
    | .stop | .poll _ | .passThrough => false
  | .group g =>
    match e.role with
    | .granted h' => isMember s g h'
    | .batch h' _ _ => isMember s g h'
    | .stop | .poll _ | .passThrough => false

/-- Step 3 of R134: the purge (R135). -/
def purge (s : State) (sc : Scope) : State :=
  { s with
    motionQueue := s.motionQueue.filter fun e => !purges s sc e
    nextFrame := match s.nextFrame with
      | some e => if purges s sc e then none else some e
      | none => none }

/-- The group of a GROUP scope (R134). -/
def scopeGroup : Scope → Option GroupNo
  | .group g => some g
  | .hoist _ | .all | .raw _ => none

/-- Step 4 of R134: a recorded order's cause is handed to the Cause Record. -/
def recordStop (s : State) (o : StopIssue) : State :=
  match o.cause with
  | some c => recordCause s { cause := c, hoist := o.hoist, group := scopeGroup o.scope, hits := o.hits,
                              capture := o.capture }
  | none => s

/-- Steps 1 to 4 of R134. -/
def admissionEffects (s : State) (o : StopIssue) : State :=
  recordStop (purge (stopGroups (stopHoists s o) o) o.scope) o

/-- Step 5 of R134: an order of origin PART raises TRIP or HOLD; an order of origin CONSOLE raises neither. -/
def stopNotice (s : State) (o : StopIssue) : State :=
  match o.origin with
  | .console _ _ => s
  | .part =>
    raiseNotice s (match o.kind with | .halt => .trip | .hold => .hold)
      { hoist := o.hoist, group := scopeGroup o.scope, code := optCauseCode o.cause, detail := 0x00#8,
        relatedSeq := o.relatedSeq }

/-! ## The Stop Lane (R129 to R133) -/

/-- The record of an order that enters the lane (R131). -/
def laneOrder (s : State) (o : StopIssue) : StopOrder :=
  { kind := o.kind, scope := o.scope, pendingList := scopeSlots s o.scope, origin := o.origin,
    relatedSeq := o.relatedSeq, cause := o.cause }

/-- An order takes the last place among the orders of its kind, every HALT before every HOLD (R129). -/
def enterLane (o : StopOrder) (lane : List StopOrder) : List StopOrder :=
  match o.kind with
  | .halt => lane.filter (fun x => x.kind == .halt) ++ o :: lane.filter (fun x => x.kind == .hold)
  | .hold => lane ++ [o]

/-- Whether the order `x` of the lane covers the issued order `o` with a kind at least as strong (R131 step 2). -/
def absorbs (s : State) (o : StopIssue) (x : StopOrder) : Bool :=
  scopeCovers s x.scope o.scope && atLeastAsStrong x.kind o.kind

/-- Whether the issued order `o` covers the order `x` of the lane, whose kind is no stronger (R131 step 3). -/
def replaces (s : State) (o : StopIssue) (x : StopOrder) : Bool :=
  scopeCovers s o.scope x.scope && atLeastAsStrong o.kind x.kind

/-- `extra` slots added to a Pending List, which is kept in increasing slot order without duplicates (R132). -/
def mergeSlots (list extra : List Slot) : List Slot := allSlots.filter fun h => list.contains h || extra.contains h

/-- An order `x` of the lane after the issued order has been merged into it: the missing slots are added to the Pending
List of a HOIST or GROUP order; merging into an ALL or RAW order adds nothing (R132). -/
def mergedOrder (s : State) (o : StopIssue) (x : StopOrder) : StopOrder :=
  match x.scope with
  | .hoist _ | .group _ => { x with pendingList := mergeSlots x.pendingList (scopeSlots s o.scope) }
  | .all | .raw _ => x

/-- The merge into the first order that absorbs the issued one (R131 step 2, R132). -/
def mergeLane (s : State) (o : StopIssue) : List StopOrder → List StopOrder
  | [] => []
  | x :: xs => if absorbs s o x then mergedOrder s o x :: xs else x :: mergeLane s o xs

/-- Steps 1 to 4 of R131: the lane after the admission, or none when the lane collapses (step 5). -/
def laneAfter (s : State) (o : StopIssue) : Option (List StopOrder) :=
  if o.kind = .halt ∧ o.scope = .all then some [laneOrder s o]
  else if s.lane.any (absorbs s o) then some (mergeLane s o s.lane)
  else if s.lane.any (replaces s o) then
    some (enterLane (laneOrder s o) (s.lane.filter fun x => !replaces s o x))
  else if s.lane.length < 4 then some (enterLane (laneOrder s o) s.lane)
  else none

/-- The HALT ALL that a collapse puts in the lane (R133). -/
def overflowStop (o : StopIssue) : StopIssue := partStop .halt .all (some .stopOverflow) o.relatedSeq none

/-- The collapse of the lane: the order's own effects, then the HALT ALL with its effects and the STOP_OVERFLOW
notice in place of TRIP (R133). -/
def collapse (s : State) (o : StopIssue) : State :=
  let s1 := stopNotice (admissionEffects s o) o
  let s2 := admissionEffects { s1 with lane := [laneOrder s1 (overflowStop o)] } (overflowStop o)
  raiseNotice s2 .stopOverflow
    { hoist := none, group := none, code := causeCode .stopOverflow, detail := stopKindByte o.kind,
      relatedSeq := o.relatedSeq }

/-- The admission of an order, already widened, to the Stop Lane (R131, R134). -/
def admitStop (s : State) (o : StopIssue) : State :=
  match laneAfter s o with
  | some lane => stopNotice (admissionEffects { s with lane := lane } o) o
  | none => collapse s o

/-- An order is widened at once and handed to the admission (R20, R98). -/
def issueStop (s : State) (o : StopIssue) : State := admitStop s (widen s o)

end Sys2Proof.Machine
end

