-- ==== Sys2Proof/Machine/Transmit.lean ====
section
/-! DEFINITION. The two transmitters: selection into the Transmit Stage (R136, R142, R143) with the D-port Mode applied
(R38, R39), the Upstream Arbiter (R177, R178), and `finish`, which closes every event by letting both transmitters take
what the event has given them. -/

namespace Sys2Proof.Machine

/-! ## The poll timer (R153) -/

/-- A POLL carrying a slot goes ON_WIRE, or is discarded in ISOLATE: the slot's timer starts at 0 while its hoist is
Present (R153, R39). -/
def startPollTimer (s : State) (slot : Option Slot) : State :=
  match slot with
  | some h => if (cfgAt s h).present then { s with pollTimers := s.pollTimers.set h (some 0) } else s
  | none => s

/-- The slot recorded with a POLL; none for every other frame (R139). -/
def pollSlot (e : Entry) : Option Slot :=
  match e.role with
  | .poll slot => slot
  | .stop | .granted _ | .batch _ _ _ | .passThrough => none

/-! ## Emission of the Stop Lane head (R136) -/

/-- The first slot of a Pending List that has a line address, with the slots after it (R136). -/
def firstAddressed (s : State) : List Slot → Option (LineAddr × List Slot)
  | [] => none
  | h :: hs =>
    match addrOfSlot s h with
    | some a => some (a, hs)
    | none => firstAddressed s hs

/-- The frame of an order to `dest`: a console order keeps its Src and Seq; a part order takes the interlock address and
the next Seq at this selection (R136, R33). -/
def stopEntry (s : State) (o : StopOrder) (dest : LineAddr) : Entry × State :=
  match o.origin with
  | .console src seq => ({ frame := stopFrame o.kind dest src seq, role := .stop }, s)
  | .part => ({ frame := stopFrame o.kind dest interlockAddr s.seqCounter, role := .stop }, stepSeq s 1)

/-- The Stop Lane head `o` is selected, with `rest` behind it: at most one frame, and the order leaves the lane when it
has nothing left to emit (R136). DEDUCED (log entry 12): a frame that ISOLATE then discards has taken its Seq. DESIGN CHOICE
(log entry 28): an order with an empty Pending List leaves here, at the selection, and not when it becomes the head. -/
def emitStop (s : State) (o : StopOrder) (rest : List StopOrder) : Option Entry × State :=
  match o.scope with
  | .all =>
    let r := stopEntry s o broadcastAddr
    (some r.1, { r.2 with lane := rest })
  | .raw a =>
    let r := stopEntry s o a
    (some r.1, { r.2 with lane := rest })
  | .hoist _ | .group _ =>
    match firstAddressed s o.pendingList with
    | none => (none, { s with lane := rest })
    | some (a, left) =>
      let r := stopEntry s o a
      (some r.1, { r.2 with lane := if left.isEmpty then rest else { o with pendingList := left } :: rest })

/-! ## Selection (R143) -/

/-- The remaining entries of a batch, once one of its entries has been selected (R141, R143). -/
def markBegun (identity : Byte) (e : Entry) : Entry :=
  match e.role with
  | .batch h i b => if i = identity then { e with role := .batch h i true } else { e with role := .batch h i b }
  | .stop | .granted _ | .poll _ | .passThrough => e

/-- Whether an entry belongs to a batch some of whose entries have been selected. -/
def isBegun (e : Entry) : Bool :=
  match e.role with
  | .batch _ _ b => b
  | .stop | .granted _ | .poll _ | .passThrough => false

/-- The Motion Queue head `e` is selected, with `rest` behind it. -/
def takeMotion (s : State) (e : Entry) (rest : List Entry) : Option Entry × State :=
  match e.role with
  | .batch _ i _ => (some e, { s with motionQueue := rest.map (markBegun i) })
  | .stop | .granted _ | .poll _ | .passThrough => (some e, { s with motionQueue := rest })

/-- Candidates 2 to 4 of R143: a batch continuation, the Poll Promote Queue head, the Motion Queue head. -/
def selectBehindLane (s : State) : Option (Option Entry × State) :=
  match s.motionQueue, s.pollPromote with
  | [], [] => none
  | [], p :: ps => some (some p, { s with pollPromote := ps })
  | m :: ms, [] => some (takeMotion s m ms)
  | m :: ms, p :: ps =>
    if isBegun m then some (takeMotion s m ms) else some (some p, { s with pollPromote := ps })

/-- The first candidate that exists (R143): none when there is no candidate; a candidate that gives no frame is an order
that leaves the lane without one (R136). -/
def selectOne (s : State) : Option (Option Entry × State) :=
  match s.lane with
  | o :: rest => some (emitStop s o rest)
  | [] => selectBehindLane s

/-- Whether the D-port Mode keeps a selected frame from NEXT: in HOLD_ONLY a granted or batch MOVE (R38), in ISOLATE
every frame (R39). -/
def modeDiscards (m : PortMode) (e : Entry) : Bool :=
  match m, e.role with
  | .normal, _ => false
  | .isolate, _ => true
  | .holdOnly, .granted _ => true
  | .holdOnly, .batch _ _ _ => true
  | .holdOnly, .stop | .holdOnly, .poll _ | .holdOnly, .passThrough => false

/-- The slot that a granted or batch MOVE carries (R139). -/
def moveSlot (e : Entry) : Option Slot :=
  match e.role with
  | .granted h => some h
  | .batch h _ _ => some h
  | .stop | .poll _ | .passThrough => none

/-- A discard by the D-port Mode: in HOLD_ONLY it raises REFUSE with PORT_MODE (R38); in ISOLATE it raises nothing, and
a POLL counts as having gone ON_WIRE (R39). DEDUCED (log entry 22): the parties the REFUSE names. -/
def discardFrame (s : State) (e : Entry) : State :=
  match s.portMode with
  | .normal => s
  | .isolate => startPollTimer s (pollSlot e)
  | .holdOnly =>
    raiseNotice s .refuse
      { hoist := moveSlot e, group := (moveSlot e).bind (groupOf s), code := reasonCode .portMode,
        detail := kindMove, relatedSeq := e.frame.seq }

/-- Selection goes on until NEXT is full or no candidate is left (R142, R143); at most `fuel` candidates are tried. -/
def fillNext : (fuel : Nat) → State → State
  | 0, s => s
  | fuel + 1, s =>
    match s.nextFrame with
    | some _ => s
    | none =>
      match selectOne s with
      | none => s
      | some (none, s') => fillNext fuel s'
      | some (some e, s') =>
        if modeDiscards s'.portMode e then fillNext fuel (discardFrame s' e)
        else { s' with nextFrame := some e }

/-- How many candidates a selection can try: every slot of every Pending List, every order and every queued frame. -/
def selectionWork (s : State) : Nat :=
  (s.lane.map fun o => o.pendingList.length + 1).sum + s.pollPromote.length + s.motionQueue.length + 1

/-- NEXT filled whenever it is empty and a candidate exists (R142). -/
def fill (s : State) : State := fillNext (selectionWork s) s

/-- NEXT moves to ON_WIRE when ON_WIRE is empty, and a POLL's slot is handed to its timer (R142, R153). -/
def advance (s : State) : State :=
  match s.onWire, s.nextFrame with
  | none, some e => startPollTimer { s with onWire := some e, nextFrame := none } (pollSlot e)
  | none, none | some _, _ => s

/-- The Transmit Stage after an event: fill, advance and fill again (R142). -/
def settleStage (s : State) : State := fill (advance (fill s))

/-! ## The Upstream Arbiter (R177, R178) -/

/-- The pending source of highest level, the lower number first among equals (R177 step 2). -/
def pickNotice (s : State) : Option (Fin 16) :=
  (List.finRange 16).foldl
    (fun best i =>
      match s.notices.get i with
      | none => best
      | some _ =>
        match best with
        | none => some i
        | some j => if noticeLevel s j < noticeLevel s i then some i else some j)
    none

/-- The pending notice of source `i` is sent: its frame takes a Seq and its record is cleared (R178). -/
def sendNotice (s : State) (i : Fin 16) : State :=
  match s.notices.get i with
  | none => s
  | some n =>
    stepSeq { s with uWire := some (noticeFrame (i.val + 1) (noticeLevel s i) n s.seqCounter)
                     notices := s.notices.set i none, lastWasNotice := true } 1

/-- The Relay Queue head is sent (R177 step 3, R180). -/
def sendRelay (s : State) : State :=
  match s.relayQueue with
  | [] => s
  | f :: fs => { s with uWire := some f, relayQueue := fs, lastWasNotice := false }

/-- The Upstream Arbiter's selection, when the U-port transmitter is idle (R177). The selection of a LINE_RESET reply
is left to the event LINE_RESET_TAKES_EFFECT, which is that selection and the reset in one (DESIGN CHOICE, log entry 5). -/
def arbitrate (s : State) : State :=
  match s.uWire with
  | some _ => s
  | none =>
    match s.replySlot with
    | some r =>
      if r.resets then s else { s with uWire := some r.frame, replySlot := none, lastWasNotice := false }
    | none =>
      match pickNotice s with
      | some i => if !s.lastWasNotice || s.relayQueue.isEmpty then sendNotice s i else sendRelay s
      | none => sendRelay s

/-- The close of every event: the Transmit Stage settles (R142) and then an idle U-port selects (R177).
DESIGN CHOICE (log entry 6): this order of the two, at the end of every event. DESIGN CHOICE (log entry 27): each selects
after all admissions, raises and placements of the event, and not at the first of them. -/
def finish (s : State) : State := arbitrate (settleStage s)

end Sys2Proof.Machine
end

