-- ==== Sys2Proof/Machine/Gate.lean ====
section
/-! DEFINITION. The refusal checks shared by MOVE, GMOVE, GO and track steps (R51, R52, R53, R87), the grant of a single
MOVE (R55 to R60), and the CLAMP notice (R59, R90, R121). -/

namespace Sys2Proof.Machine

/-- The line checks 1 to 3, against the epoch stamped on the frame (R51). -/
def lineRefusal (s : State) (epoch : BitVec 16) : Option Reason :=
  if !s.motionEnable then some .lineDisabled
  else if s.portMode ≠ .normal then some .portMode
  else if epoch ≠ s.silence.epoch then some .lineSilent
  else none

/-- The frame checks 4 and 5 (R52). -/
def frameRefusal (f : Frame) : Option Reason :=
  if 127 < (requestedTag f).toNat then some .badTag
  else if requestedSpeed f < 8 then some .badSpeed
  else none

/-- The hoist checks 6 to 9 (R53). DEDUCED (log entry 26): after an OVER SAMPLE, whose HALT has made the hoist TRIPPED (R19),
a MOVE is refused with TRIPPED at check 8, as R62 and the order of R53 say, where a row of R63 names OVERLOAD. -/
def hoistRefusal (s : State) (h : Slot) : Option Reason :=
  if !(cfgAt s h).present then some .notPresent
  else if (cfgAt s h).group.any (armed s) then some .groupLocked
  else if (liveAt s h).state = .offline then some .offline
  else if (liveAt s h).state = .tripped then some .tripped
  else if (liveAt s h).loadCondition = .over then some .overload
  else none

/-- The nine checks on a MOVE to hoist `h`, in order (R50, R71). -/
def moveRefusal (s : State) (f : Frame) (epoch : BitVec 16) (h : Slot) : Option Reason :=
  (lineRefusal s epoch).or ((frameRefusal f).or (hoistRefusal s h))

/-- The granted target Tg (R55). -/
def grantedTarget (c : HoistConfig) (tq : Nat) : Nat := clampNat tq c.softLow c.softHigh

/-- The granted speed Vg (R58). -/
def grantedSpeed (s : State) (h : Slot) (vq : Nat) : Nat := min vq (deratedSpeedOf s h)

/-- The hoist record takes a grant (R9). -/
def takeGrant (g : Grant) (l : HoistLive) : HoistLive := { l with grant := some g, arrived := false, state := .moving }

/-- The CLAMP notice of a grant: nothing when neither the target nor the speed was changed (R59, R90, R121). -/
def raiseClamp (s : State) (target speed : Bool) (detail : Byte) (h : Option Slot) (g : Option GroupNo) (seq : Byte) :
    State :=
  if target || speed then
    raiseNotice s .clamp
      { hoist := h, group := g, code := if target && speed then 0x03#8 else if target then 0x01#8 else 0x02#8,
        detail := detail, relatedSeq := seq }
  else s

/-- The grant of a MOVE that has passed every check: frame, queue, record and notice, in that order (R60). -/
def grantMove (s : State) (f : Frame) (h : Slot) : State :=
  let tg := grantedTarget (cfgAt s h) (requestedTarget f)
  let vg := grantedSpeed s h (requestedSpeed f)
  let entry : Entry := { frame := moveFrame f.dest f.src f.seq tg vg (requestedTag f), role := .granted h }
  let s1 := { s with motionQueue := s.motionQueue ++ [entry] }
  let s2 := changeLive s1 h (takeGrant { target := tg, speed := vg, tag := requestedTag f })
  raiseClamp s2 (tg != requestedTarget f) (vg != requestedSpeed f) kindMove (some h) (groupOf s h) f.seq

/-- The MOVE at the Intake head is taken: decoded, then refused or granted (R48, R50, R54). -/
def gateMove (s : State) (e : IntakeEntry) : State :=
  match slotOfAddr s e.frame.dest with
  | none => refuseFrame s e.frame .unmapped
  | some h =>
    match moveRefusal s e.frame e.epoch h with
    | some r => refuseFrame s e.frame r
    | none => grantMove s e.frame h

/-! ## Group checks (R87) and arithmetic (R88, R89) -/

/-- Whether a member fails check 9 (R87). -/
def memberUnfit (s : State) (h : Slot) : Bool :=
  (addrOfSlot s h).isNone || (liveAt s h).state == .offline || (liveAt s h).state == .tripped
    || (liveAt s h).loadCondition == .over

/-- Lo: the greatest of Soft Low less Offset over the members (R88). -/
def geometryLo (s : State) (g : GroupNo) : Int :=
  greatest ((members s g).map fun h => ((cfgAt s h).softLow : Int) - (cfgAt s h).offset)

/-- Hi: the least of Soft High less Offset over the members (R88). -/
def geometryHi (s : State) (g : GroupNo) : Int :=
  least ((members s g).map fun h => ((cfgAt s h).softHigh : Int) - (cfgAt s h).offset)

/-- Checks 6 and 7 (R87). -/
def groupStateRefusal (s : State) (g : GroupNo) : Option Reason :=
  let l := (groupAt s g).live
  if l.state = .parked ∨ l.state = .tripped then some .groupState
  else if l.state = .holding ∧ l.lastVerdict = .hold then some .groupState
  else none

/-- Check 8: a track is running for the group (R87). -/
def trackRefusal (s : State) (g : GroupNo) : Option Reason :=
  if (groupAt s g).live.track.isSome then some .trackActive else none

/-- Checks 9 and 10 (R87). -/
def memberRefusal (s : State) (g : GroupNo) : Option Reason :=
  if (members s g).any (memberUnfit s) then some .memberState
  else if geometryHi s g < geometryLo s g then some .groupRange
  else none

/-- The ten checks on a GMOVE, in order (R87). -/
def gmoveRefusal (s : State) (f : Frame) (epoch : BitVec 16) (g : GroupNo) : Option Reason :=
  (lineRefusal s epoch).or ((frameRefusal f).or
    ((groupStateRefusal s g).or ((trackRefusal s g).or (memberRefusal s g))))

/-- The checks on a track step: those of R87 without 4, 5 and 8, check 3 against the Track Origin's epoch (R120). -/
def stepRefusal (s : State) (g : GroupNo) (epoch : BitVec 16) : Option Reason :=
  (lineRefusal s epoch).or ((groupStateRefusal s g).or (memberRefusal s g))

/-- The granted base B' (R88). -/
def groupBase (s : State) (g : GroupNo) (b : Nat) : Int := min (max (b : Int) (geometryLo s g)) (geometryHi s g)

/-- Whether a grant to the group is halved: SLOWED, or HOLDING with Last Verdict WARN (R89). -/
def isHalved (l : GroupLive) : Bool := l.state == .slowed || (l.state == .holding && l.lastVerdict == .warn)

/-- The granted speed V of a group move (R89). -/
def groupSpeed (s : State) (g : GroupNo) (vq : Nat) : Nat :=
  let vgrp := ((members s g).map (deratedSpeedOf s)).foldl min vq
  if isHalved (groupAt s g).live then halved vgrp else vgrp

end Sys2Proof.Machine
end

