-- ==== Sys2Proof/Machine/Groups.lean ====
section
/-! DEFINITION. The Group Supervisor and the Track Sequencer: batches (R91 to R93), rewrite waves (R95, R96), track
steps (R119 to R124), completion (R84, R122) and the Group Check (R100 to R112). -/

namespace Sys2Proof.Machine

/-- A change of group state sets Clean Streak to 0 (R77). -/
def enterState (st : GroupState) (l : GroupLive) : GroupLive :=
  { l with state := st, cleanStreak := if l.state = st then l.cleanStreak else 0 }

/-- The state a grant leaves the group in (R93 step 3). -/
def grantedState (l : GroupLive) : GroupState :=
  match l.state with
  | .ready => .moving
  | .moving => .moving
  | .slowed => .slowed
  | .holding => if l.lastVerdict = .warn then .slowed else .moving
  | .parked => .parked
  | .tripped => .tripped

/-! ## Batches (R91 to R93) -/

/-- One group-level move as it becomes a batch: its base, speed and tag, and whose Src and Seq its frames carry. -/
structure BatchPlan where
  group : GroupNo
  base : Int
  speed : Nat
  tag : Byte
  origin : Origin
deriving DecidableEq, Repr

/-- Member `h`'s target: the base plus its Offset (R88). -/
def memberTarget (s : State) (base : Int) (h : Slot) : Nat := (base + (cfgAt s h).offset).toNat

/-- The MOVE frames of a batch in slot order. A console batch keeps the GMOVE's Src and Seq (R91); the part's own takes
one Seq per frame from `seq` on (R96, R121). A member without a line address has no frame formed (R43). -/
def batchEntries (s : State) (p : BatchPlan) : List Slot → (seq : Byte) → List Entry
  | [], _ => []
  | h :: hs, seq =>
    match addrOfSlot s h with
    | none => batchEntries s p hs seq
    | some a =>
      match p.origin with
      | .console src q =>
        { frame := moveFrame a src q (memberTarget s p.base h) p.speed p.tag, role := .batch h s.batchSerial false }
          :: batchEntries s p hs seq
      | .part =>
        { frame := moveFrame a interlockAddr seq (memberTarget s p.base h) p.speed p.tag,
          role := .batch h s.batchSerial false } :: batchEntries s p hs (seq + 1#8)

/-- How many Seq values a batch takes from the sequence counter (R33, R93). -/
def batchSeqs (p : BatchPlan) (entries : List Entry) : Nat :=
  match p.origin with
  | .console _ _ => 0
  | .part => entries.length

/-- The queueing of a batch: one contiguous run at the Motion Queue tail, with the batch serial's value (R91, R92). -/
def queueBatch (s : State) (p : BatchPlan) : State :=
  let entries := batchEntries s p (members s p.group) s.seqCounter
  stepSerial (stepSeq { s with motionQueue := s.motionQueue ++ entries } (batchSeqs p entries))

/-- Every member takes the batch's grant (R93 step 1, R9). -/
def grantMembers (s : State) (p : BatchPlan) : State :=
  changeHoists s fun h r =>
    if isMember s p.group h then
      { r with live := takeGrant { target := memberTarget s p.base h, speed := p.speed, tag := p.tag } r.live }
    else r

/-- The group fields of a batch admission (R93 step 2). -/
def groupTakesGrant (p : BatchPlan) (l : GroupLive) : GroupLive :=
  { l with grant := some { base := p.base, speed := p.speed, tag := p.tag } }

/-- The admission of a batch granted to the group: queue, members, group fields and group state (R91 to R93). -/
def admitBatch (s : State) (p : BatchPlan) : State :=
  changeGroup (grantMembers (queueBatch s p) p) p.group fun l => groupTakesGrant p (enterState (grantedState l) l)

/-- Whether the Motion Queue has a free entry for each member of the group (R48, R140). -/
def fitsBatch (s : State) (g : GroupNo) : Bool := s.motionQueue.length + (members s g).length ≤ 32

/-! ## Rewrite waves (R95, R96) -/

/-- The Granted Speed of a group; a free value when it is absent, which does not arise in MOVING (R95, log entry 4). -/
def groupGrantSpeed (l : GroupLive) : Nat := stored (l.grant.map (·.speed))

/-- The Granted Base of a group; a free value when it is absent, which does not arise while a wave is pending (R95, log
entry 4). -/
def groupGrantBase (l : GroupLive) : Int :=
  match l.grant with
  | some g => g.base
  | none => (Config.absentValue : Int)

/-- A rewrite wave is formed and becomes the youngest pending internal batch (R95, R140). -/
def formWave (s : State) (g : GroupNo) : State :=
  let w : Wave := { tag := s.tagCounter, speed := halved (groupGrantSpeed (groupAt s g).live) }
  let s1 := changeGroup (stepTag s) g fun l => { l with wave := some w }
  { s1 with internalBatches := s1.internalBatches ++ [.wave g] }

/-- The admission of a pending wave: as a batch of the part's own, with the group's base and state left as they were,
and no CLAMP (R96). -/
def admitWave (s : State) (g : GroupNo) : State :=
  match (groupAt s g).live.wave with
  | none => cancelBatch s g
  | some w =>
    let p : BatchPlan :=
      { group := g, base := groupGrantBase (groupAt s g).live, speed := w.speed, tag := w.tag, origin := .part }
    changeGroup (grantMembers (queueBatch (cancelBatch s g) p) p) g fun l =>
      { groupTakesGrant p l with wave := none }

/-! ## Track steps (R119 to R124) -/

/-- The descriptor index after `c` (R123); the one after 127 does not arise on a usable chain (log entry 4). -/
def nextCursor (c : TrackIx) : TrackIx := if h : c.val + 1 < 128 then ⟨c.val + 1, h⟩ else Config.cursorPastEnd

/-- Whether the group's chain is usable (R116). -/
def chainUsable (s : State) (g : GroupNo) : Bool :=
  match (groupAt s g).cfg.trackStart with
  | none => false
  | some i => (List.finRange 128).any fun j => i.val ≤ j.val && (s.trackPool.get j).last

/-- A step that has passed its checks is admitted (R120, R121): it takes a part tag, Dwell Remaining becomes absent, and
CLAMP is raised when its base or speed differs from the descriptor's. -/
def admitStep (s : State) (g : GroupNo) (tr : Track) : State :=
  let d := s.trackPool.get tr.cursor
  let base := groupBase s g d.base
  let speed := groupSpeed s g d.speed
  let s1 := admitBatch (stepTag s) { group := g, base := base, speed := speed, tag := s.tagCounter, origin := .part }
  let s2 := changeGroup s1 g fun l => { l with track := some { tr with dwell := none } }
  raiseClamp s2 (base != (d.base : Int)) (speed != d.speed) kindGo none (some g) tr.originSeq

/-- The member named by a refused step: the lowest-slot member that failed check 9 (R124). -/
def stepCulprit (s : State) (g : GroupNo) (r : Reason) : Option Slot :=
  if r = .memberState then (members s g).find? (memberUnfit s) else none

/-- The TRACK_ERROR notice of a refused step (R119, R124). -/
def raiseTrackError (s : State) (g : GroupNo) (tr : Track) (r : Reason) (h : Option Slot) : State :=
  raiseNotice s .trackError
    { hoist := h, group := some g, code := reasonCode r, detail := BitVec.ofNat 8 tr.cursor.val,
      relatedSeq := tr.originSeq }

/-- A later step is refused: a HOLD order on the group, then TRACK_ERROR (R124). -/
def failStep (s : State) (g : GroupNo) (tr : Track) (r : Reason) : State :=
  let culprit := stepCulprit s g r
  raiseTrackError (admitStop s (partStop .hold (.group g) (some .trackError) tr.originSeq culprit)) g tr r culprit

/-- A due step is taken: it leaves the pending list, and is gated and formed as one event (R120, R123, R124). -/
def takeDueStep (s : State) (g : GroupNo) : State :=
  let s1 := cancelBatch s g
  match (groupAt s g).live.track with
  | none => s1
  | some tr =>
    match stepRefusal s1 g tr.originEpoch with
    | none => admitStep s1 g tr
    | some r => failStep s1 g tr r

/-- A due step that is the oldest pending batch and fits is taken (R123, R140). -/
def takeIfOldest (s : State) (g : GroupNo) : State :=
  if s.internalBatches.head? = some (.step g) ∧ fitsBatch s g then takeDueStep s g else s

/-- The Track Cursor steps and the step at the new cursor is due; it is taken in the same event when it can be (R123). -/
def makeStepDue (s : State) (g : GroupNo) : State :=
  let s1 := changeGroup s g fun l =>
    { l with track := l.track.map fun tr => { tr with cursor := nextCursor tr.cursor, dwell := some 0 } }
  takeIfOldest { s1 with internalBatches := s1.internalBatches ++ [.step g] } g

/-! ## Completion (R84, R122) -/

/-- A member has arrived for the group's Batch Tag (R84, R122). -/
def arrivedForBatch (s : State) (g : GroupNo) (h : Slot) : Bool :=
  (liveAt s h).arrived && ((liveAt s h).grant.map (·.tag)) == ((groupAt s g).live.grant.map (·.tag))

/-- Every member has arrived for the group's Batch Tag. -/
def allArrived (s : State) (g : GroupNo) : Bool := (members s g).all (arrivedForBatch s g)

/-- A batch or a track is in progress: MOVING or SLOWED. -/
def inProgress (l : GroupLive) : Bool := l.state == .moving || l.state == .slowed

/-- The group completes: READY, streak 0, a pending wave discarded, GROUP_READY (R84). -/
def completeGroup (s : State) (g : GroupNo) (seq : Byte) : State :=
  raiseNotice
    (cancelBatch (changeGroup s g fun l => { l with state := .ready, cleanStreak := 0, wave := none }) g)
    .groupReady { hoist := none, group := some g, code := 0x00#8, detail := 0x00#8, relatedSeq := seq }

/-- A track step completes: a pending wave is discarded, and the track ends, dwells or has its next step due (R122).
DESIGN CHOICE (log entry 24): with Dwell 0 the next step is taken here (R123), inside step 5 of R14, so its checks read
the Load Condition that the reporting hoist has before the same SAMPLE's load rule, which then finds it MOVING. -/
def completeStep (s : State) (g : GroupNo) (tr : Track) (seq : Byte) : State :=
  let s1 := cancelBatch (changeGroup s g fun l => { l with wave := none }) g
  let d := s1.trackPool.get tr.cursor
  if d.last then
    raiseNotice (changeGroup s1 g fun l => { l with state := .ready, cleanStreak := 0, track := none }) .trackEnd
      { hoist := none, group := some g, code := 0x00#8, detail := BitVec.ofNat 8 tr.cursor.val, relatedSeq := seq }
  else if d.dwell = 0 then makeStepDue s1 g
  else changeGroup s1 g fun l => { l with track := some { tr with dwell := some d.dwell } }

/-- The arrival of a member of armed group `g` is examined: by the Track Sequencer while a step is in flight (R122), and
for the group's completion while no track is running (R84). -/
def examineArrival (s : State) (g : GroupNo) (seq : Byte) : State :=
  match (groupAt s g).live.track with
  | none => if inProgress (groupAt s g).live && allArrived s g then completeGroup s g seq else s
  | some tr => if tr.dwell.isNone && allArrived s g then completeStep s g tr seq else s

/-! ## The Group Check (R100 to R112) -/

/-- The states in which a group's round is examined (R100, R102). -/
def isChecked (st : GroupState) : Bool :=
  match st with
  | .ready | .moving | .slowed | .holding => true
  | .parked | .tripped => false

/-- The round is complete: every member is Fresh and below the Age Limit (R100). -/
def roundComplete (s : State) (g : GroupNo) : Bool :=
  (members s g).all fun h => (liveAt s h).fresh && (liveAt s h).sampleAge < s.line.ageLimit

/-- What an evaluation works out from its inputs (R101 steps 1 to 4, R108). -/
structure Evaluation where
  skew : Nat
  dmax : Option Nat
  skewPart : Verdict
  sharePart : Verdict
  verdict : Verdict
  skewSlot : Option Slot
  shareSlot : Option Slot
deriving DecidableEq, Repr

/-- The evaluation of group `g` on the members' records as they stand (R101 steps 1 to 4). -/
def evaluationOf (s : State) (g : GroupNo) : Evaluation :=
  let k := (groupAt s g).cfg
  let sk := skewPart k (skewOf s g)
  let sh := sharePart k (dmaxOf s g)
  { skew := skewOf s g, dmax := dmaxOf s g, skewPart := sk, sharePart := sh, verdict := worse sk sh,
    skewSlot := skewCulprit s g, shareSlot := shareCulprit s g }

/-- Steps 5 and 6 of R101: the verdict and the figures are stored, and every member's Fresh becomes no. -/
def storeEvaluation (s : State) (g : GroupNo) (v : Evaluation) : State :=
  let s1 := changeGroup s g fun l =>
    { l with lastVerdict := v.verdict, lastSkew := some v.skew, lastDmax := v.dmax.or l.lastDmax }
  changeHoists s1 fun h r => if isMember s g h then { r with live := { r.live with fresh := false } } else r

/-- The WARN notice (R108, R111). -/
def raiseWarn (s : State) (g : GroupNo) (v : Evaluation) (seq : Byte) : State :=
  let skew := v.skewPart == .warn
  let share := v.sharePart == .warn
  raiseNotice s .warn
    { hoist := if share then v.shareSlot else v.skewSlot, group := some g,
      code := causeCode (if share then .share else .skew),
      detail := if share && skew then 0x03#8 else if share then 0x02#8 else 0x01#8, relatedSeq := seq }

/-- Whether the group is dwelling, a due step included (R77, R117). -/
def isDwelling (l : GroupLive) : Bool := l.track.any fun tr => tr.dwell.isSome

/-- The effect of a WARN verdict on the state (R111, R85). -/
def warnEffect (s : State) (g : GroupNo) : State :=
  match (groupAt s g).live.state with
  | .moving =>
    let s1 := changeGroup s g fun l => { l with state := .slowed, cleanStreak := 0 }
    if isDwelling (groupAt s g).live then s1 else formWave s1 g
  | .slowed => changeGroup s g fun l => { l with cleanStreak := 0 }
  | .ready | .holding | .parked | .tripped => s

/-- The effect of a CLEAN verdict, in SLOWED alone (R112, R85): at the fourth the group returns to MOVING and a pending
wave is discarded. -/
def cleanEffect (s : State) (g : GroupNo) : State :=
  let l := (groupAt s g).live
  if l.state = .slowed then
    if l.cleanStreak + 1 < 4 then changeGroup s g fun l => { l with cleanStreak := l.cleanStreak + 1 }
    else
      let s1 := changeGroup s g fun l => { l with state := .moving, cleanStreak := 0, wave := none }
      { s1 with internalBatches := s1.internalBatches.filter fun b => b != .wave g }
  else s

/-- Step 7 of R101: the effect of the verdict in the group's state (R109 to R112). -/
def verdictEffect (s : State) (g : GroupNo) (v : Evaluation) (seq : Byte) : State :=
  match v.verdict with
  | .trip => admitStop s (partStop .halt (.group g) (some .share) seq v.shareSlot)
  | .hold =>
    if (groupAt s g).live.state = .holding then s
    else admitStop s (partStop .hold (.group g) (some .skew) seq v.skewSlot)
  | .warn => warnEffect (raiseWarn s g v seq) g
  | .clean => cleanEffect s g
  | .none => s

/-- The evaluation of a complete round (R101). -/
def evaluateGroup (s : State) (g : GroupNo) (seq : Byte) : State :=
  verdictEffect (storeEvaluation s g (evaluationOf s g)) g (evaluationOf s g) seq

/-- Step 6 of the application of a SAMPLE (R14, R100): the round is examined when the reporting member's group is in a
checked state and the member is Fresh. -/
def examineRound (s : State) (h : Slot) (seq : Byte) : State :=
  match armedGroupOf s h with
  | none => s
  | some g =>
    if isChecked (groupAt s g).live.state && (liveAt s h).fresh && roundComplete s g then evaluateGroup s g seq else s

end Sys2Proof.Machine
end

