-- ==== Sys2Proof/Machine/Filters.lean ====
section
/-! DEFINITION. The Match Filter Bank: matching by masked CRC (R163), the hit set and its actions (R164, R165), the drop
decision (R166, R167) and the FILTER notice (R168). -/

namespace Sys2Proof.Machine

/-- The direction a frame travels: downstream from the U-port, upstream from the D-port (R162). -/
inductive Direction | down | up
deriving DecidableEq, Repr

/-- Whether a filter's Direction includes a frame's direction (R162). -/
def seesDirection : FilterDirection → Direction → Bool
  | .both, _ => true
  | .down, .down => true
  | .up, .up => true
  | .down, .up => false
  | .up, .down => false

/-- The window positions of a mask in increasing order (R163). -/
def maskPositions (m : BitVec 32) : List Nat := (List.range 32).filter fun j => m.getLsbD j

/-- Condition 2 of R163: every selected byte lies within bytes 0 to 6 + Len. -/
def windowFits (t : Filter) (f : Frame) : Bool := (maskPositions t.mask).all fun j => t.offset + j ≤ 6 + frameLen f

/-- The bytes a filter's window selects from a frame, in increasing position (R163). -/
def selectedBytes (t : Filter) (f : Frame) : List Byte :=
  (maskPositions t.mask).map fun j => (frameHead f).getD (t.offset + j) 0x00#8

/-- Whether a filter matches a frame travelling in a direction (R163). -/
def filterMatches (t : Filter) (f : Frame) (d : Direction) : Bool :=
  t.enabled && seesDirection t.direction d && (!t.kindMatch || f.kind == t.kind) && windowFits t f
    && crc (selectedBytes t f) == t.expected

/-- The hit set of a frame, in increasing filter number (R164). -/
def hitSet (s : State) (f : Frame) (d : Direction) : List FilterNo :=
  allFilters.filter fun i => filterMatches (s.filters.get i) f d

/-- The issuing hoist of a filter order: the slot of the Dest downstream, of the Src upstream (R165). -/
def filterHoist (s : State) (f : Frame) (d : Direction) : Option Slot :=
  match d with
  | .down => slotOfAddr s f.dest
  | .up => slotOfAddr s f.src

/-- The kind and scope of a stop action; none for MARK and DROP (R165). -/
def stopAction (t : Filter) : Option (StopKind × Scope) :=
  match t.action with
  | .holdGroup => some (.hold, .group t.actionGroup)
  | .haltGroup => some (.halt, .group t.actionGroup)
  | .holdAll => some (.hold, .all)
  | .haltAll => some (.halt, .all)
  | .mark | .drop => none

/-- The stop order of a hit filter, admitted when its Action is a stop action (R165); the order is not widened. -/
def filterStop (f : Frame) (d : Direction) (hits : List FilterNo) (s : State) (i : FilterNo) : State :=
  let t := s.filters.get i
  match stopAction t with
  | none => s
  | some (k, sc) =>
    admitStop s {
      kind := k, scope := sc, origin := .part, relatedSeq := f.seq, cause := some .filter,
      hoist := filterHoist s f d, hits := some hits,
      capture := if t.capture then some (captureOf f) else none }

/-- Whether a frame with this hit set is dropped: a hit DROP filter, and neither a HOLD nor a HALT (R164 step 2).
DEDUCED (log entry 14): the exemption holds in both directions. -/
def isDropped (s : State) (f : Frame) (hits : List FilterNo) : Bool :=
  (hits.any fun i => (s.filters.get i).action == .drop) && (stopKindOf f).isNone

/-- Whether a filter takes part in the FILTER notice (R168). -/
def isMarker (t : Filter) : Bool := t.action == .mark || t.action == .drop

/-- The Detail of the FILTER notice (R168). -/
def filterDetail (d : Direction) (dropped : Bool) : Byte :=
  match d, dropped with
  | .down, false => 0x01#8
  | .down, true => 0x02#8
  | .up, false => 0x03#8
  | .up, true => 0x04#8

/-- The Group of the FILTER notice: that of the issuing hoist when it has one (R7); otherwise, downstream, the group the
Dest addresses (R168). -/
def filterGroup (s : State) (f : Frame) (d : Direction) : Option GroupNo :=
  match (filterHoist s f d).bind (groupOf s) with
  | some g => some g
  | none =>
    match d, addrClass f.dest with
    | .down, .group g => some g
    | _, _ => none

/-- The FILTER notice, raised once when the hit set holds a MARK or DROP filter (R168). -/
def filterNotice (s : State) (f : Frame) (d : Direction) (hits : List FilterNo) : State :=
  match hits.find? fun i => isMarker (s.filters.get i) with
  | none => s
  | some i =>
    raiseNotice s .filter
      { hoist := filterHoist s f d, group := filterGroup s f d, code := BitVec.ofNat 8 i.val,
        detail := filterDetail d (isDropped s f hits), relatedSeq := f.seq }

/-- The Filter Bank's whole evaluation of a frame (R164): the stop actions in increasing filter number, then the notice. -/
def filterBank (s : State) (f : Frame) (d : Direction) : State :=
  filterNotice ((hitSet s f d).foldl (filterStop f d (hitSet s f d)) s) f d (hitSet s f d)

/-- Whether the Filter Bank drops a frame that arrives in state `s` (R164 step 2). -/
def filterDrops (s : State) (f : Frame) (d : Direction) : Bool := isDropped s f (hitSet s f d)

end Sys2Proof.Machine
end

