-- ==== Sys2Proof/Machine/Samples.lean ====
section
/-! DEFINITION. The application of a SAMPLE at a hoist's record (R13 to R20, R22): the drive-state rule, the arrival
rule, the uncommanded-motion rule and the load rule. -/

namespace Sys2Proof.Machine

/-- Steps 1 to 4 of R14: the reading is stored, Sample Age is set to 0, Fresh is set for a valid reading, and Poll
Outstanding and the poll timer are cleared (R13, R22, R153). -/
def storeReading (s : State) (h : Slot) (r : Reading) : State :=
  let s1 := changeLive s h fun l =>
    match validDrive r with
    | some d =>
      { l with position := some r.position, load := some r.load, driveState := some d, sampleAge := 0, fresh := true,
               pollOutstanding := false }
    | none => { l with driveState := some .fault, sampleAge := 0, pollOutstanding := false }
  { s1 with pollTimers := s1.pollTimers.set h none }

/-- A stop order issued by a rule of the chapter Hoist Records (R20). -/
def issueHoistStop (s : State) (k : StopKind) (h : Slot) (c : CauseKind) (seq : Byte) : State :=
  issueStop s (partStop k (.hoist h) (some c) seq (some h))

/-- The hoist's state set. -/
def setHoistState (s : State) (h : Slot) (st : HoistState) : State := changeLive s h fun l => { l with state := st }

/-- The distance between two payouts. -/
def distance (a b : Nat) : Nat := (a - b) + (b - a)

/-- A hoist has arrived: Arrived yes, READY, and its armed group is examined (R16). -/
def arrive (s : State) (h : Slot) (seq : Byte) : State :=
  let s1 := changeLive s h fun l => { l with arrived := true, state := .ready }
  match armedGroupOf s h with
  | some g => examineArrival s1 g seq
  | none => s1

/-- A miss: a lone hoist becomes READY with the MISS notice, a member of an armed group issues a HOLD (R16). -/
def missArrival (s : State) (h : Slot) (seq : Byte) : State :=
  match armedGroupOf s h with
  | some _ => issueHoistStop s .hold h .arrivalMiss seq
  | none =>
    raiseNotice (setHoistState s h .ready) .miss
      { hoist := some h, group := groupOf s h, code := 0x00#8, detail := 0x00#8, relatedSeq := seq }

/-- The arrival rule on a MOVING hoist that reports IDLE (R16). -/
def arrivalRule (s : State) (h : Slot) (r : Reading) : State :=
  match (liveAt s h).grant with
  | none => s
  | some g =>
    if r.tagEcho ≠ g.tag then s
    else if distance r.position g.target ≤ s.line.arrivalWindow then arrive s h r.seq
    else missArrival s h r.seq

/-- The uncommanded-motion rule (R17). -/
def uncommandedRule (s : State) (h : Slot) (seq : Byte) : State :=
  match armedGroupOf s h with
  | some _ => issueHoistStop s .halt h .uncommanded seq
  | none => s

/-- The drive-state rule (R15), on the Drive State reported (FAULT for an invalid reading) and the hoist's state. -/
def driveStateRule (s : State) (h : Slot) (r : Reading) (d : DriveState) : State :=
  match d, (liveAt s h).state with
  | _, .tripped => s
  | .halted, .offline | .halted, .ready | .halted, .moving | .halted, .held =>
    issueHoistStop s .halt h .driveHalt r.seq
  | .fault, .offline | .fault, .ready | .fault, .moving | .fault, .held => issueHoistStop s .halt h .driveFault r.seq
  | .idle, .offline => setHoistState s h .ready
  | .idle, .moving => arrivalRule s h r
  | .idle, .ready | .idle, .held => s
  | .moving, .offline => uncommandedRule (setHoistState s h .ready) h r.seq
  | .moving, .ready | .moving, .held => uncommandedRule s h r.seq
  | .moving, .moving => s
  | .held, .offline => setHoistState s h .ready
  | .held, .moving => setHoistState s h .held
  | .held, .ready | .held, .held => s

/-- The action of a load condition in a hoist state (R19): the stop kind and cause, or none. -/
def loadAction (c : LoadCondition) (st : HoistState) : Option (StopKind × CauseKind) :=
  match c, st with
  | .over, .ready | .over, .moving | .over, .held => some (.halt, .overload)
  | .under, .moving => some (.hold, .underload)
  | .over, .offline | .over, .tripped => none
  | .under, .offline | .under, .ready | .under, .held | .under, .tripped => none
  | .unknown, _ | .normal, _ | .derated, _ => none

/-- The load rule: the Load Condition is evaluated and stored, and its action is taken against the state the hoist then
has (R18, R19). -/
def loadRule (s : State) (h : Slot) (r : Reading) : State :=
  let c := loadConditionOf (effectiveLimits s h) r.load
  let s1 := changeLive s h fun l => { l with loadCondition := c }
  match loadAction c (liveAt s h).state with
  | some (k, cause) => issueHoistStop s1 k h cause r.seq
  | none => s1

/-- Step 5 of R14. -/
def stateAndLoad (s : State) (h : Slot) (r : Reading) : State :=
  match validDrive r with
  | some d => loadRule (driveStateRule s h r d) h r
  | none => driveStateRule s h r .fault

/-- The application of a SAMPLE at hoist `h` (R14). -/
def applySample (s : State) (h : Slot) (r : Reading) : State :=
  examineRound (stateAndLoad (storeReading s h r) h r) h r.seq

end Sys2Proof.Machine
end

