-- ==== Sys2Proof/Machine/Arrivals.lean ====
section
/-! DEFINITION. Arrivals at the two ports (R34, R35): U_PORT_ARRIVAL with the Silence Timer reload (R156), the
Classifier (R44 to R47) and console stops (R64, R66); D_PORT_ARRIVAL with the Sample Monitor (R12, R29) and the relay
(R155, R180, R181). -/

namespace Sys2Proof.Machine

/-- The LINE_ERROR notice of a failed reception check (R34). -/
def raiseLineError (s : State) (port detail : Byte) : State :=
  raiseNotice s .lineError { hoist := none, group := none, code := port, detail := detail, relatedSeq := 0x00#8 }

/-! ## U-port -/

/-- The reload of the Silence Timer by a check-valid frame (R156). -/
def reloadSilence (s : State) (f : Frame) : State :=
  { s with silence := { s.silence with state := .running, count := 0, lastSeq := f.seq } }

/-- The stop order of a console HOLD or HALT frame (R64, R66). -/
def consoleStop (s : State) (f : Frame) (k : StopKind) : StopIssue :=
  { kind := k, scope := scopeOfDest s f.dest, origin := .console f.src f.seq, relatedSeq := f.seq,
    cause := if k = .halt then some .consoleHalt else none,
    hoist := match scopeOfDest s f.dest with
      | .hoist h => some h
      | .group _ | .all | .raw _ => none,
    hits := none, capture := if k = .halt then some (captureOf f) else none }

/-- A frame offered to the Intake Buffer: appended with the current epoch, or lost with INTAKE_LOSS (R47). -/
def offerIntake (s : State) (f : Frame) : State :=
  if s.intake.length < 8 then { s with intake := s.intake ++ [{ frame := f, epoch := s.silence.epoch }] }
  else
    raiseNotice s .intakeLoss
      { hoist := (destParties s f.dest).1, group := (destParties s f.dest).2, code := 0x00#8, detail := f.kind,
        relatedSeq := f.seq }

/-- The Classifier's outcome (R44 to R47). -/
def classify (s : State) (f : Frame) : State :=
  match classOf f with
  | .stop k => issueStop s (consoleStop s f k)
  | .refused r => refuseFrame s f r
  | .beat => s
  | .passThrough | .move | .gmove _ | .go _ | .poll | .mgmt => offerIntake s f

/-- A check-valid frame at the U-port: Silence Timer, Filter Bank, Classifier (R35). -/
def takeDownstream (s : State) (f : Frame) : State :=
  let s1 := filterBank (reloadSilence s f) f .down
  if filterDrops s f .down then s1 else classify s1 f

/-- U_PORT_ARRIVAL (R35). -/
def execUPortArrival (content : List Byte) (s : State) : Host.Outcome State Fault Refusal :=
  match receive content with
  | .error detail => .next (finish (raiseLineError s 1#8 detail))
  | .ok f => .next (finish (takeDownstream s f))

/-! ## D-port -/

/-- The Sample Monitor: a SAMPLE of another Len is refused as MALFORMED (R29); one of Len 6 is applied when its Src maps
to a Present hoist (R12). -/
def sampleMonitor (s : State) (f : Frame) : State :=
  if f.kind ≠ kindSample then s
  else if frameLen f ≠ 6 then refuseFrame s f .malformed
  else
    match slotOfAddr s f.src with
    | some h => if (cfgAt s h).present then applySample s h (readingOf f) else s
    | none => s

/-- Whether an answer to an own poll is sunk (R155). -/
def isSunk (s : State) (f : Frame) : Bool :=
  f.kind == kindSample && frameLen f == 6 && f.dest == interlockAddr && s.line.ownSampleRelay == .sink

/-- A frame offered to the Relay Queue: appended, or lost with RELAY_LOSS (R180, R181). -/
def offerRelay (s : State) (f : Frame) : State :=
  if s.relayQueue.length < 16 then { s with relayQueue := s.relayQueue ++ [f] }
  else
    raiseNotice s .relayLoss
      { hoist := slotOfAddr s f.src, group := (slotOfAddr s f.src).bind (groupOf s), code := 0x00#8,
        detail := f.kind, relatedSeq := f.seq }

/-- A check-valid frame at the D-port: Filter Bank, Sample Monitor, relay (R35). -/
def takeUpstream (s : State) (f : Frame) : State :=
  let s1 := sampleMonitor (filterBank s f .up) f
  if filterDrops s f .up || isSunk s f then s1 else offerRelay s1 f

/-- D_PORT_ARRIVAL (R35). -/
def execDPortArrival (content : List Byte) (s : State) : Host.Outcome State Fault Refusal :=
  match receive content with
  | .error detail => .next (finish (raiseLineError s 2#8 detail))
  | .ok f => .next (finish (takeUpstream s f))

end Sys2Proof.Machine
end

