-- ==== Sys2Proof/Machine/Moves.lean ====
section
/-! DEFINITION. The Intake head and the claimants of Motion Queue entries (R48, R49, R140): MOVE (R50), GMOVE (R86), GO
(R118), POLL (R141), PASS_THROUGH_FRAME (R48), and the Scheduler's own OWN_POLL (R152), REWRITE_WAVE_ADMISSION (R96) and
TRACK_STEP (R120). -/

namespace Sys2Proof.Machine

/-! ## Room (R140, R141, R152) -/

/-- Whether a hoist is due for an own poll (R152). -/
def isDue (s : State) (h : Slot) : Bool :=
  (cfgAt s h).present && (addrOfSlot s h).isSome && s.line.sweepInterval ≤ (liveAt s h).sampleAge
    && !(liveAt s h).pollOutstanding

/-- The slots due for an own poll, in increasing slot order (R152). -/
def dueSlots (s : State) : List Slot := allSlots.filter (isDue s)

/-- Whether a POLL to `dest` may pass the Motion Queue: no entry of it with the same Dest, and no batch partly
transmitted (R141). -/
def mayPass (s : State) (dest : LineAddr) : Bool :=
  !(s.motionQueue.any fun e => e.frame.dest == dest) && !(s.motionQueue.any isBegun)

/-- Whether a POLL to `dest` may enter the Poll Promote Queue: room in it, and it may pass the Motion Queue (R141). -/
def canPromote (s : State) (dest : LineAddr) : Bool := s.pollPromote.length < 2 && mayPass s dest

/-- Whether a due own POLL would take a Poll Promote place (R152). -/
def duePromotes (s : State) : Bool := allSlots.any fun h => isDue s h && (addrOfSlot s h).any (canPromote s)

/-- Whether a due own POLL that cannot enter the Poll Promote Queue claims a Motion Queue entry: one that may not pass the
Motion Queue, or one more due than the Poll Promote Queue has places, which the due slots take in increasing order (R140,
R152). -/
def dueClaims (s : State) : Bool :=
  (dueSlots s).any (fun h => !((addrOfSlot s h).any (mayPass s))) || 2 - s.pollPromote.length < (dueSlots s).length

/-- Whether the Intake head is granted `n` Motion Queue entries: no internal batch is pending, no due own POLL claims an
entry before it, and the entries are free (R48, R49, R140). DEDUCED (log entry 20): the case of no entries. -/
def headRoom (s : State) (n : Nat) : Bool :=
  s.internalBatches.isEmpty && (n == 0 || !dueClaims s) && s.motionQueue.length + n ≤ 32

/-- The Intake head is taken whole by its consumer, or waits: `act` answers none when the head is not for this consumer
or its room is not free, and the event then does not take place (R48). DESIGN CHOICE (log entries 8 and 10): the entry
waits for its command, and a command whose event cannot take place changes nothing. -/
def takeHead (s : State) (act : IntakeEntry → State → Option State) : Host.Outcome State Fault Refusal :=
  match s.intake with
  | [] => .next s
  | e :: rest =>
    match act e { s with intake := rest } with
    | some s' => .next (finish s')
    | none => .next s

/-! ## MOVE (R50) -/

/-- A MOVE at the Intake head needs one free entry (R48). -/
def moveTaken (e : IntakeEntry) (s : State) : Option State :=
  if classOf e.frame = .move ∧ headRoom s 1 then some (gateMove s e) else none

/-- MOVE (R50). -/
def execMove (s : State) : Host.Outcome State Fault Refusal := takeHead s moveTaken

/-! ## GMOVE (R86) -/

/-- The grant of a GMOVE that has passed every check: its batch, then CLAMP (R90 to R93). -/
def grantGmove (s : State) (f : Frame) (g : GroupNo) : State :=
  let base := groupBase s g (requestedTarget f)
  let speed := groupSpeed s g (requestedSpeed f)
  let p : BatchPlan :=
    { group := g, base := base, speed := speed, tag := requestedTag f, origin := .console f.src f.seq }
  raiseClamp (admitBatch s p) (base != (requestedTarget f : Int)) (speed != requestedSpeed f) kindGmove none (some g) f.seq

/-- The GMOVE at the Intake head is taken: refused or granted (R86, R87). -/
def gateGmove (s : State) (e : IntakeEntry) (g : GroupNo) : State :=
  match gmoveRefusal s e.frame e.epoch g with
  | some r => refuseFrame s e.frame r
  | none => grantGmove s e.frame g

/-- A GMOVE at the Intake head needs one free entry for each member (R48). -/
def gmoveTaken (e : IntakeEntry) (s : State) : Option State :=
  match classOf e.frame with
  | .gmove g => if headRoom s (members s g).length then some (gateGmove s e g) else none
  | .stop _ | .passThrough | .refused _ | .beat | .move | .go _ | .poll | .mgmt => none

/-- GMOVE (R86). -/
def execGmove (s : State) : Host.Outcome State Fault Refusal := takeHead s gmoveTaken

/-! ## GO (R118) -/

/-- The five checks on a GO, in order (R118). -/
def goRefusal (s : State) (epoch : BitVec 16) (g : GroupNo) : Option Reason :=
  (lineRefusal s epoch).or
    (if (groupAt s g).live.state ≠ .ready then some .groupState
     else if !chainUsable s g then some .noTrack
     else none)

/-- An accepted GO starts the track at `start` with its first step; a refused first step ends the track before it begins
and raises TRACK_ERROR alone (R119). -/
def startTrack (s : State) (e : IntakeEntry) (g : GroupNo) (start : TrackIx) : State :=
  let tr : Track := { cursor := start, dwell := none, originSeq := e.frame.seq, originEpoch := e.epoch }
  match stepRefusal s g e.epoch with
  | none => admitStep s g tr
  | some r => raiseTrackError s g tr r (stepCulprit s g r)

/-- The GO at the Intake head is taken: refused or accepted (R118, R119). -/
def gateGo (s : State) (e : IntakeEntry) (g : GroupNo) : State :=
  match goRefusal s e.epoch g, (groupAt s g).cfg.trackStart with
  | some r, _ => refuseFrame s e.frame r
  | none, some start => startTrack s e g start
  | none, none => refuseFrame s e.frame .noTrack

/-- A GO at the Intake head needs one free entry for each member (R48). -/
def goTaken (e : IntakeEntry) (s : State) : Option State :=
  match classOf e.frame with
  | .go g => if headRoom s (members s g).length then some (gateGo s e g) else none
  | .stop _ | .passThrough | .refused _ | .beat | .move | .gmove _ | .poll | .mgmt => none

/-- GO (R118). -/
def execGo (s : State) : Host.Outcome State Fault Refusal := takeHead s goTaken

/-! ## POLL (R141) -/

/-- A POLL with the slot its Dest maps to at its placement (R141). -/
def pollEntry (s : State) (f : Frame) : Entry := { frame := f, role := .poll (slotOfAddr s f.dest) }

/-- Placing a POLL sets Poll Outstanding of its slot's hoist, when that hoist is Present (R141). -/
def markPolled (s : State) (f : Frame) : State :=
  match slotOfAddr s f.dest with
  | some h => if (cfgAt s h).present then changeLive s h fun l => { l with pollOutstanding := true } else s
  | none => s

/-- A POLL placed in the Poll Promote Queue (R141). -/
def promotePoll (s : State) (f : Frame) : State :=
  markPolled { s with pollPromote := s.pollPromote ++ [pollEntry s f] } f

/-- A POLL placed at the Motion Queue tail (R141). -/
def queuePoll (s : State) (f : Frame) : State :=
  markPolled { s with motionQueue := s.motionQueue ++ [pollEntry s f] } f

/-- A POLL at the Intake head: due own POLLs take Poll Promote places ahead of it (R152), and it falls to the Motion
Queue when it cannot enter the Poll Promote Queue (R141). -/
def pollTaken (e : IntakeEntry) (s : State) : Option State :=
  if classOf e.frame = .poll then
    if canPromote s e.frame.dest then if duePromotes s then none else some (promotePoll s e.frame)
    else if headRoom s 1 then some (queuePoll s e.frame)
    else none
  else none

/-- POLL (R141). -/
def execPoll (s : State) : Host.Outcome State Fault Refusal := takeHead s pollTaken

/-! ## PASS_THROUGH_FRAME (R48) -/

/-- A pass-through frame at the Intake head needs one free entry, and joins the Motion Queue tail unchanged (R48). -/
def passThroughTaken (e : IntakeEntry) (s : State) : Option State :=
  if classOf e.frame = .passThrough ∧ headRoom s 1 then
    some { s with motionQueue := s.motionQueue ++ [{ frame := e.frame, role := .passThrough }] }
  else none

/-- PASS_THROUGH_FRAME (R48). -/
def execPassThroughFrame (s : State) : Host.Outcome State Fault Refusal := takeHead s passThroughTaken

/-! ## OWN_POLL (R152) -/

/-- An own POLL for the slot with line address `a`, when there is a place for it: the Poll Promote Queue first, then a
Motion Queue entry while no internal batch is pending (R140, R141). -/
def placeOwnPoll (s : State) (a : LineAddr) : Option State :=
  let f := ownPollFrame a s.seqCounter
  if canPromote s a then some (promotePoll (stepSeq s 1) f)
  else if s.internalBatches.isEmpty && s.motionQueue.length < 32 then some (queuePoll (stepSeq s 1) f)
  else none

/-- The first due slot, in increasing slot order, for whose own POLL a place is found (R140, R152). -/
def firstOwnPoll (s : State) : Option State :=
  allSlots.findSome? fun h => if isDue s h then (addrOfSlot s h).bind (placeOwnPoll s) else none

/-- OWN_POLL (R152): nothing takes place while no due hoist has a place. -/
def execOwnPoll (s : State) : Host.Outcome State Fault Refusal :=
  match firstOwnPoll s with
  | some s' => .next (finish s')
  | none => .next s

/-! ## REWRITE_WAVE_ADMISSION (R96) and TRACK_STEP (R120) -/

/-- REWRITE_WAVE_ADMISSION (R96): the oldest pending batch, a wave, is admitted once it fits (R140). -/
def execRewriteWaveAdmission (s : State) : Host.Outcome State Fault Refusal :=
  match s.internalBatches with
  | .wave g :: _ => if fitsBatch s g then .next (finish (admitWave s g)) else .next s
  | .step _ :: _ => .next s
  | [] => .next s

/-- TRACK_STEP (R120): the oldest pending batch, a due step, is taken once it fits (R123, R140). -/
def execTrackStep (s : State) : Host.Outcome State Fault Refusal :=
  match s.internalBatches with
  | .step g :: _ => if fitsBatch s g then .next (finish (takeDueStep s g)) else .next s
  | .wave _ :: _ => .next s
  | [] => .next s

/-! ## Transmit completions (R142, R177) -/

/-- D_PORT_TRANSMIT_COMPLETION (R142): ON_WIRE empties, NEXT advances and is filled again. -/
def execDPortTransmitCompletion (s : State) : Host.Outcome State Fault Refusal :=
  match s.onWire with
  | some _ => .next (finish { s with onWire := none })
  | none => .next s

/-- U_PORT_TRANSMIT_COMPLETION (R177): the transmitter is idle and the Upstream Arbiter selects. -/
def execUPortTransmitCompletion (s : State) : Host.Outcome State Fault Refusal :=
  match s.uWire with
  | some _ => .next (finish { s with uWire := none })
  | none => .next s

end Sys2Proof.Machine
end

