-- ==== Sys2Proof/Machine/Expiries.lean ====
section
/-! DEFINITION. The expiries of the counts: STALE_EXPIRY (R150), POLL_TIMEOUT (R153), SILENCE_TIMER_EXPIRY (R157) and
DWELL_EXPIRY (R123). Each command is the step of its count that reaches the limit, and nothing takes place while that
step is not the count's next one (DESIGN CHOICE, log entry 2). -/

namespace Sys2Proof.Machine

/-- The slot a command names. -/
def namedSlot (n : Nat) : Option Slot := if h : n < 64 then some ⟨n, h⟩ else none

/-- The group a command names. -/
def namedGroup (n : Nat) : Option GroupNo := if h : n < 16 then some ⟨n, h⟩ else none

/-! ## Stale expiry (R150) -/

/-- The Sample Age of a Present hoist steps next from below the Age Limit to it (R150). -/
def staleDue (s : State) (h : Slot) : Bool := (cfgAt s h).present && (liveAt s h).sampleAge + 1 == s.line.ageLimit

/-- The STALE notice, with the hoist's state and Poll Outstanding as they were at the expiry (R150). -/
def raiseStale (s : State) (h : Slot) (l : HoistLive) : State :=
  raiseNotice s .stale
    { hoist := some h, group := groupOf s h, code := hoistStateCode l.state,
      detail := boolByte l.pollOutstanding, relatedSeq := 0x00#8 }

/-- The state change and the order of a stale expiry, before its notice (R150). -/
def staleStop (s : State) (h : Slot) : State :=
  match (liveAt s h).state with
  | .offline | .tripped => s
  | .moving => issueHoistStop s .halt h .stale 0x00#8
  | .ready | .held =>
    let s1 := setHoistState s h .offline
    match armedGroupOf s h with
    | some _ => issueHoistStop s1 .hold h .stale 0x00#8
    | none => s1

/-- The stale expiry of a Present hoist: nothing while OFFLINE; otherwise state change, order and STALE notice (R150). -/
def staleExpire (s : State) (h : Slot) : State :=
  if (liveAt s h).state = .offline then s else raiseStale (staleStop s h) h (liveAt s h)

/-- STALE_EXPIRY (R150): the Sample Age of a Present hoist steps to the Age Limit. Nothing takes place for a hoist that
is not Present or whose next step does not reach the limit. -/
def execStaleExpiry (slot : Nat) (s : State) : Host.Outcome State Fault Refusal :=
  match namedSlot slot with
  | none => .fault (.noSuchSlot slot)
  | some h =>
    if staleDue s h then
      .next (finish (staleExpire (changeLive s h fun l => { l with sampleAge := s.line.ageLimit }) h))
    else .next s

/-! ## Poll timeout (R153) -/

/-- The poll timer's count steps next to the Poll Timeout (R153). -/
def pollDue (s : State) (h : Slot) : Bool := (s.pollTimers.get h).any fun n => s.line.pollTimeout ≤ n + 1

/-- A poll timer ends: it becomes absent and Poll Outstanding is cleared (R153). -/
def endPollTimer (s : State) (h : Slot) : State :=
  let s1 := changeLive s h fun l => { l with pollOutstanding := false }
  { s1 with pollTimers := s1.pollTimers.set h none }

/-- POLL_TIMEOUT (R153): the slot's poll timer reaches the Poll Timeout. Nothing takes place while the timer is absent
or its next step does not reach the limit. -/
def execPollTimeout (slot : Nat) (s : State) : Host.Outcome State Fault Refusal :=
  match namedSlot slot with
  | none => .fault (.noSuchSlot slot)
  | some h => if pollDue s h then .next (finish (endPollTimer s h)) else .next s

/-! ## Silence Timer expiry (R157) -/

/-- The stop kind of the Silence Action (R157). -/
def silenceKind : SilenceAction → StopKind
  | .holdAll => .hold
  | .haltAll => .halt

/-- The expiry of the Silence Timer, in the sequence of R157. -/
def silenceExpire (s : State) : State :=
  let epoch := s.silence.epoch + 1#16
  let seq := s.silence.lastSeq
  let k := silenceKind s.line.silenceAction
  let s1 := { s with silence := { s.silence with state := .expired, epoch := epoch } }
  raiseNotice (admitStop s1 (partStop k .all (some .silence) seq none)) .silence
    { hoist := none, group := none, code := stopKindByte k, detail := lowByte epoch, relatedSeq := seq }

/-- The Silence Count at an expiry by its own step: the Silence Limit (R157). -/
def reachSilenceLimit (s : State) : State :=
  { s with silence := { s.silence with count := max s.silence.count s.line.silenceLimit } }

/-- The Silence Count of a RUNNING timer steps next to the Silence Limit (R157). -/
def silenceDue (s : State) : Bool := s.silence.state == .running && s.line.silenceLimit ≤ s.silence.count + 1

/-- SILENCE_TIMER_EXPIRY (R157): the Silence Count of a RUNNING timer reaches the Silence Limit. Nothing takes place while
its next step does not reach the limit, as after an arrival has returned the Count to 0 (R159). -/
def execSilenceTimerExpiry (s : State) : Host.Outcome State Fault Refusal :=
  if silenceDue s then .next (finish (silenceExpire (reachSilenceLimit s))) else .next s

/-! ## Dwell expiry (R123) -/

/-- The group's Dwell Remaining steps next to 0: the dwell's last millisecond (R123). -/
def dwellDue (s : State) (g : GroupNo) : Bool := ((groupAt s g).live.track.bind (·.dwell)) == some 1

/-- DWELL_EXPIRY (R123): Dwell Remaining reaches 0. Nothing takes place while no dwell runs or its next step does not
reach 0. -/
def execDwellExpiry (group : Nat) (s : State) : Host.Outcome State Fault Refusal :=
  match namedGroup group with
  | none => .fault (.noSuchGroup group)
  | some g => if dwellDue s g then .next (finish (makeStepDue s g)) else .next s

end Sys2Proof.Machine
end

