-- ==== Sys2Proof/Machine/Records.lean ====
section
/-! DEFINITION. The table records in the layouts of R194, and WRITE: form and merge (R186), validation (R3, R41, R75,
R115, R148, R161), protection (R42, R76, R115, R187) and commit (R5, R6, R42, R76, R148, R176). -/

namespace Sys2Proof.Machine

/-! ## Records as fields in their widths (R194) -/

/-- A limit source as a number: enumerations number their values in the order listed, from 0 (R194). -/
def limitSourceNumber : LimitSource → Nat
  | .own => 0 | .group => 1

/-- A filter direction as a number (R194). -/
def directionNumber : FilterDirection → Nat
  | .down => 0 | .up => 1 | .both => 2

/-- A filter action as a number (R194). -/
def actionNumber : FilterAction → Nat
  | .mark => 0 | .drop => 1 | .holdGroup => 2 | .haltGroup => 3 | .holdAll => 4 | .haltAll => 5

/-- A Silence Action as a number (R194). -/
def silenceActionNumber : SilenceAction → Nat
  | .holdAll => 0 | .haltAll => 1

/-- Own-Sample Relay as a number (R194). -/
def relayNumber : OwnSampleRelay → Nat
  | .relay => 0 | .sink => 1

/-- The configured fields of a hoist record (R194). -/
def hoistFields (c : HoistConfig) : List (List Byte) :=
  [[boolByte c.present], [groupByte c.group], natBytes 1 (limitSourceNumber c.limitSource), natBytes 2 c.softLow,
   natBytes 2 c.softHigh, natBytes 2 c.speedCeiling, natBytes 2 c.underLimit, natBytes 2 c.derateStart,
   natBytes 2 c.overLimit, natBytes 2 c.weight, intBytes 2 c.offset]

/-- The byte of an index that may be NONE, which reads 0xFF (R194). -/
def trackByte : Option TrackIx → Byte
  | some i => BitVec.ofNat 8 i.val
  | none => 0xFF#8

/-- The configured fields of a group record (R194). -/
def groupFields (c : GroupConfig) : List (List Byte) :=
  [natBytes 2 c.speedCeiling, natBytes 2 c.skewWarn, natBytes 2 c.skewLimit, natBytes 2 c.shareWarn,
   natBytes 2 c.shareTolerance, natBytes 2 c.shareFloor, natBytes 2 c.underLimit, natBytes 2 c.derateStart,
   natBytes 2 c.overLimit, [trackByte c.trackStart]]

/-- The fields of a map entry (R194). -/
def mapFields (e : MapEntry) : List (List Byte) :=
  [[boolByte e.enabled], [highByte e.base, lowByte e.base], natBytes 1 e.spanExp, natBytes 1 e.slotBase.val]

/-- The fields of a filter record (R194). -/
def filterFields (t : Filter) : List (List Byte) :=
  [[boolByte t.enabled], natBytes 1 (directionNumber t.direction), [boolByte t.kindMatch], [t.kind],
   natBytes 1 t.offset, natBytes 4 t.mask.toNat, [highByte t.expected, lowByte t.expected],
   natBytes 1 (actionNumber t.action), natBytes 1 t.actionGroup.val, [boolByte t.capture]]

/-- The fields of a step descriptor (R194). -/
def trackFields (d : TrackStep) : List (List Byte) :=
  [natBytes 2 d.base, natBytes 2 d.speed, natBytes 2 d.dwell, [boolByte d.last]]

/-- The fields of the line configuration record (R194). -/
def lineFields (c : LineConfig) : List (List Byte) :=
  [natBytes 2 c.sweepInterval, natBytes 1 c.pollTimeout, natBytes 2 c.ageLimit, natBytes 2 c.silenceLimit,
   natBytes 1 (silenceActionNumber c.silenceAction), natBytes 1 c.arrivalWindow, natBytes 1 (relayNumber c.ownSampleRelay),
   [boolByte c.recoverClearsCause], c.noticeLevels.cells.map fun n => BitVec.ofNat 8 n]

/-! ## Form and merge (R186 steps 1 and 2) -/

/-- The selected fields, from field number `i` on, take their bytes from the Values; the others keep theirs. None when
the Values are too short or too long (R186). -/
def mergeFrom (mask : BitVec 16) : (i : Nat) → (fields : List (List Byte)) → (values : List Byte) →
    Option (List (List Byte))
  | _, [], [] => some []
  | _, [], _ :: _ => none
  | i, x :: xs, values =>
    if mask.getLsbD i then
      if values.length < x.length then none
      else (mergeFrom mask (i + 1) xs (values.drop x.length)).map fun r => values.take x.length :: r
    else (mergeFrom mask (i + 1) xs values).map fun r => x :: r

/-- Form and merge: none (MALFORMED) when the mask selects a field the record lacks, or the Values length differs from
the sum of the selected widths (R186). -/
def mergeFields (mask : BitVec 16) (fields : List (List Byte)) (values : List Byte) : Option (List (List Byte)) :=
  if 2 ^ fields.length ≤ mask.toNat then none else mergeFrom mask 0 fields values

/-- The number that field `i` of a merged copy holds. -/
def fieldNat (raw : List (List Byte)) (i : Nat) : Nat := bytesNat (raw.getD i [])

/-- The signed number that field `i` of a merged copy holds. -/
def fieldInt (raw : List (List Byte)) (i : Nat) : Int := bytesInt (raw.getD i [])

/-! ## Validation (R186 step 3) -/

/-- The first check that fails, as its field number and reason; each check is written as its failure. -/
def firstFailure : List (Bool × Nat × Reason) → Option (Nat × Reason)
  | [] => none
  | (fails, i, r) :: rest => if fails then some (i, r) else firstFailure rest

/-- A number outside `lo` .. `hi`. -/
def outside (n lo hi : Nat) : Bool := n < lo || hi < n

/-- A group number that a field byte names, with 0xFF for NONE. -/
def groupOfNat (n : Nat) : Option GroupNo := if h : n < 16 then some ⟨n, h⟩ else none

/-- A descriptor index that a field byte names, with 0xFF for NONE. -/
def trackOfNat (n : Nat) : Option TrackIx := if h : n < 128 then some ⟨n, h⟩ else none

/-- A merged hoist record (R2). -/
def hoistOfFields (raw : List (List Byte)) : HoistConfig :=
  { present := fieldNat raw 0 == 1, group := groupOfNat (fieldNat raw 1),
    limitSource := if fieldNat raw 2 = 1 then .group else .own, softLow := fieldNat raw 3, softHigh := fieldNat raw 4,
    speedCeiling := fieldNat raw 5, underLimit := fieldNat raw 6, derateStart := fieldNat raw 7,
    overLimit := fieldNat raw 8, weight := fieldNat raw 9, offset := fieldInt raw 10 }

/-- GROUP_FULL: the merged record names a group that has 16 other members, and the write changes Group to it or changes
Present from no to yes (R3). DEDUCED (log entry 15): so too for a merged record with Present no. -/
def groupFull (s : State) (h : Slot) (c : HoistConfig) : Bool :=
  match c.group with
  | none => false
  | some g =>
    16 ≤ ((members s g).filter fun x => x != h).length
      && ((cfgAt s h).group != some g || (!(cfgAt s h).present && c.present))

/-- The checks of R3 on a merged hoist record. -/
def validateHoist (s : State) (h : Slot) (raw : List (List Byte)) : Option (Nat × Reason) :=
  firstFailure
    [(outside (fieldNat raw 0) 0 1, 0, .badValue),
     (outside (fieldNat raw 1) 0 15 && fieldNat raw 1 != 255, 1, .badValue),
     (groupFull s h (hoistOfFields raw), 1, .groupFull),
     (outside (fieldNat raw 2) 0 1, 2, .badValue),
     (outside (fieldNat raw 3) 0 65000, 3, .badValue),
     (outside (fieldNat raw 4) 0 65000, 4, .badValue),
     (fieldNat raw 4 < fieldNat raw 3, 4, .badOrder),
     (outside (fieldNat raw 5) 10 600, 5, .badValue),
     (outside (fieldNat raw 6) 0 7998, 6, .badValue),
     (outside (fieldNat raw 7) 1 7999, 7, .badValue),
     (fieldNat raw 7 ≤ fieldNat raw 6, 7, .badOrder),
     (outside (fieldNat raw 8) 2 8000, 8, .badValue),
     (fieldNat raw 8 ≤ fieldNat raw 7, 8, .badOrder),
     (outside (fieldNat raw 9) 0 1024, 9, .badValue),
     (decide (fieldInt raw 10 < -2000) || decide (2000 < fieldInt raw 10), 10, .badValue)]

/-- A merged group record (R74). -/
def groupOfFields (raw : List (List Byte)) : GroupConfig :=
  { speedCeiling := fieldNat raw 0, skewWarn := fieldNat raw 1, skewLimit := fieldNat raw 2,
    shareWarn := fieldNat raw 3, shareTolerance := fieldNat raw 4, shareFloor := fieldNat raw 5,
    underLimit := fieldNat raw 6, derateStart := fieldNat raw 7, overLimit := fieldNat raw 8,
    trackStart := trackOfNat (fieldNat raw 9) }

/-- The checks of R75 on a merged group record. -/
def validateGroup (raw : List (List Byte)) : Option (Nat × Reason) :=
  firstFailure
    [(outside (fieldNat raw 0) 10 600, 0, .badValue),
     (outside (fieldNat raw 1) 1 2000, 1, .badValue),
     (outside (fieldNat raw 2) 1 4000, 2, .badValue),
     (fieldNat raw 2 ≤ fieldNat raw 1, 2, .badOrder),
     (outside (fieldNat raw 3) 1 1023, 3, .badValue),
     (outside (fieldNat raw 4) 2 1024, 4, .badValue),
     (fieldNat raw 4 ≤ fieldNat raw 3, 4, .badOrder),
     (outside (fieldNat raw 5) 0 64000, 5, .badValue),
     (outside (fieldNat raw 6) 0 7998, 6, .badValue),
     (outside (fieldNat raw 7) 1 7999, 7, .badValue),
     (fieldNat raw 7 ≤ fieldNat raw 6, 7, .badOrder),
     (outside (fieldNat raw 8) 2 8000, 8, .badValue),
     (fieldNat raw 8 ≤ fieldNat raw 7, 8, .badOrder),
     (outside (fieldNat raw 9) 0 127 && fieldNat raw 9 != 255, 9, .badValue)]

/-- A merged map entry (R40); a Slot Base outside 0..63 has been refused before it is formed. -/
def mapOfFields (raw : List (List Byte)) : MapEntry :=
  { enabled := fieldNat raw 0 == 1, base := BitVec.ofNat 16 (fieldNat raw 1), spanExp := fieldNat raw 2,
    slotBase := Fin.ofNat 64 (fieldNat raw 3) }

/-- Whether two ranges, each a first value and a length, share a value. -/
def rangesMeet (a n b m : Nat) : Bool := a < b + m && b < a + n

/-- MAP_OVERLAP: the merged entry is enabled and shares an address or a slot with another enabled entry (R41). -/
def mapOverlaps (s : State) (i : MapNo) (e : MapEntry) : Bool :=
  e.enabled && allMapEntries.any fun j =>
    j != i && (s.addressMap.get j).enabled &&
      (rangesMeet e.base.toNat (spanOf e) (s.addressMap.get j).base.toNat (spanOf (s.addressMap.get j)) ||
       rangesMeet e.slotBase.val (spanOf e) (s.addressMap.get j).slotBase.val (spanOf (s.addressMap.get j)))

/-- The checks of R41 on a merged map entry. -/
def validateMap (s : State) (i : MapNo) (raw : List (List Byte)) : Option (Nat × Reason) :=
  firstFailure
    [(outside (fieldNat raw 0) 0 1, 0, .badValue),
     (outside (fieldNat raw 1) 0x0001 0xEFFF, 1, .badValue),
     (outside (fieldNat raw 2) 0 6, 2, .badValue),
     (fieldNat raw 1 % 2 ^ fieldNat raw 2 != 0, 2, .badValue),
     (0xEFFF < fieldNat raw 1 + 2 ^ fieldNat raw 2 - 1, 2, .badValue),
     (outside (fieldNat raw 3) 0 63, 3, .badValue),
     (63 < fieldNat raw 3 + 2 ^ fieldNat raw 2 - 1, 3, .badValue),
     (mapOverlaps s i (mapOfFields raw), 3, .mapOverlap)]

/-- The filter direction numbered `n` (R194). -/
def directionOfNat (n : Nat) : FilterDirection := if n = 0 then .down else if n = 1 then .up else .both

/-- The filter action numbered `n` (R194). -/
def actionOfNat (n : Nat) : FilterAction :=
  if n = 0 then .mark else if n = 1 then .drop else if n = 2 then .holdGroup else if n = 3 then .haltGroup
  else if n = 4 then .holdAll else .haltAll

/-- A merged filter record (R160). -/
def filterOfFields (raw : List (List Byte)) : Filter :=
  { enabled := fieldNat raw 0 == 1, direction := directionOfNat (fieldNat raw 1), kindMatch := fieldNat raw 2 == 1,
    kind := BitVec.ofNat 8 (fieldNat raw 3), offset := fieldNat raw 4, mask := BitVec.ofNat 32 (fieldNat raw 5),
    expected := BitVec.ofNat 16 (fieldNat raw 6), action := actionOfNat (fieldNat raw 7),
    actionGroup := Fin.ofNat 16 (fieldNat raw 8), capture := fieldNat raw 9 == 1 }

/-- The checks of R161 on a merged filter record; fields 3, 5 and 6 hold every value their bytes can carry. -/
def validateFilter (raw : List (List Byte)) : Option (Nat × Reason) :=
  firstFailure
    [(outside (fieldNat raw 0) 0 1, 0, .badValue),
     (outside (fieldNat raw 1) 0 2, 1, .badValue),
     (outside (fieldNat raw 2) 0 1, 2, .badValue),
     (outside (fieldNat raw 4) 0 46, 4, .badValue),
     (outside (fieldNat raw 7) 0 5, 7, .badValue),
     (outside (fieldNat raw 8) 0 15, 8, .badValue),
     (outside (fieldNat raw 9) 0 1, 9, .badValue)]

/-- A merged descriptor (R114). -/
def trackOfFields (raw : List (List Byte)) : TrackStep :=
  { base := fieldNat raw 0, speed := fieldNat raw 1, dwell := fieldNat raw 2, last := fieldNat raw 3 == 1 }

/-- The checks of R115 on a merged descriptor. -/
def validateTrack (raw : List (List Byte)) : Option (Nat × Reason) :=
  firstFailure
    [(outside (fieldNat raw 0) 0 65000, 0, .badValue),
     (outside (fieldNat raw 1) 10 600, 1, .badValue),
     (outside (fieldNat raw 2) 0 60000, 2, .badValue),
     (outside (fieldNat raw 3) 0 1, 3, .badValue)]

/-- A merged line configuration record (R147). -/
def lineOfFields (raw : List (List Byte)) : LineConfig :=
  { sweepInterval := fieldNat raw 0, pollTimeout := fieldNat raw 1, ageLimit := fieldNat raw 2,
    silenceLimit := fieldNat raw 3, silenceAction := if fieldNat raw 4 = 1 then .haltAll else .holdAll,
    arrivalWindow := fieldNat raw 5, ownSampleRelay := if fieldNat raw 6 = 1 then .sink else .relay,
    recoverClearsCause := fieldNat raw 7 == 1,
    noticeLevels := Table.build fun i => ((raw.getD 8 []).getD i.val 0#8).toNat }

/-- The checks of R148 on a merged line configuration record. -/
def validateLine (raw : List (List Byte)) : Option (Nat × Reason) :=
  firstFailure
    [(outside (fieldNat raw 0) 5 1000, 0, .badValue),
     (outside (fieldNat raw 1) 2 200, 1, .badValue),
     (outside (fieldNat raw 2) 10 2000, 2, .badValue),
     (fieldNat raw 2 ≤ fieldNat raw 0 + fieldNat raw 1, 2, .badOrder),
     (outside (fieldNat raw 3) 50 5000, 3, .badValue),
     (outside (fieldNat raw 4) 0 1, 4, .badValue),
     (outside (fieldNat raw 5) 0 50, 5, .badValue),
     (outside (fieldNat raw 6) 0 1, 6, .badValue),
     (outside (fieldNat raw 7) 0 1, 7, .badValue),
     ((raw.getD 8 []).any fun b => 7 < b.toNat, 8, .badValue)]

/-! ## Protection (R186 step 4) -/

/-- A configuration with Present yes that names a group not PARKED (R187, R42). -/
def namesArmed (s : State) (c : HoistConfig) : Bool := c.present && c.group.any (armed s)

/-- The protection of a hoist record (R187). -/
def hoistProtected (s : State) (h : Slot) (c : HoistConfig) : Bool :=
  (liveAt s h).state == .moving || namesArmed s (cfgAt s h) || namesArmed s c

/-- The protection of a group record: any state but PARKED (R76). -/
def groupProtected (s : State) (g : GroupNo) : Bool := armed s g

/-- The protection of a map entry: over its old range if it was enabled and its new range if it will be (R42). -/
def mapProtected (s : State) (i : MapNo) (e : MapEntry) : Bool :=
  allSlots.any fun h =>
    (((s.addressMap.get i).enabled && entryHasSlot (s.addressMap.get i) h) || (e.enabled && entryHasSlot e h))
      && ((liveAt s h).state == .moving || namesArmed s (cfgAt s h))

/-- Whether any group's track is running (R115). -/
def anyTrackRuns (s : State) : Bool := allGroups.any fun g => (groupAt s g).live.track.isSome

/-! ## Commit (R186 step 5) -/

/-- Whether two limits have the same load window. -/
def sameWindow (a b : Limits) : Bool :=
  a.underLimit == b.underLimit && a.derateStart == b.derateStart && a.overLimit == b.overLimit

/-- The Load Condition evaluated again from the stored Load; no action is taken (R6). -/
def reevaluate (w : Limits) (l : HoistLive) : HoistLive :=
  match l.load with
  | some load => { l with loadCondition := loadConditionOf w load }
  | none => l

/-- The commit of a hoist record: Present yes to no resets the live part and the poll timer (R5, R153); a Present hoist
whose effective window the write has changed is evaluated again (R6). -/
def commitHoist (s : State) (h : Slot) (c : HoistConfig) : State :=
  let gone := (cfgAt s h).present && !c.present
  let live := if gone then HoistLive.reset else liveAt s h
  let changed := !sameWindow (effectiveLimits s h) (limitsOf s.groups c)
  let s1 := putHoist s h
    { cfg := c, live := if c.present && changed then reevaluate (limitsOf s.groups c) live else live }
  if gone then { s1 with pollTimers := s1.pollTimers.set h none } else s1

/-- The commit of a group record: when its load window changes, every Present hoist that names the group with Limit
Source GROUP is evaluated again (R76). -/
def commitGroup (s : State) (g : GroupNo) (c : GroupConfig) : State :=
  let k := (groupAt s g).cfg
  let s1 := putGroup s g { groupAt s g with cfg := c }
  if c.underLimit = k.underLimit ∧ c.derateStart = k.derateStart ∧ c.overLimit = k.overLimit then s1
  else
    changeHoists s1 fun _ r =>
      if r.cfg.present && r.cfg.group == some g && r.cfg.limitSource == .group then
        { r with live := reevaluate (limitsOf s1.groups r.cfg) r.live }
      else r

/-- The commit of a map entry (R42). -/
def commitMap (s : State) (i : MapNo) (e : MapEntry) : State := { s with addressMap := s.addressMap.set i e }

/-- The commit of a filter record (R161). -/
def commitFilter (s : State) (i : FilterNo) (t : Filter) : State := { s with filters := s.filters.set i t }

/-- The commit of a descriptor (R115). -/
def commitTrack (s : State) (i : TrackIx) (d : TrackStep) : State := { s with trackPool := s.trackPool.set i d }

/-- A pending source whose new level is 0 is withdrawn (R176). -/
def withdrawNotices (s : State) : State :=
  { s with notices := Table.build fun i => if noticeLevel s i = 0 then none else s.notices.get i }

/-- A changed Poll Timeout ends every running poll timer whose count is at or above it (R148). -/
def endLateTimers (s : State) (old : Nat) : State :=
  if s.line.pollTimeout = old then s
  else
    (allSlots.filter fun h => (s.pollTimers.get h).any fun n => s.line.pollTimeout ≤ n).foldl endPollTimer s

/-- A lowered Age Limit expires every Present hoist whose age lies below the old limit and at or above the new one, in
slot order (R148, R150). -/
def expireLateHoists (s : State) (old : Nat) : State :=
  (allSlots.filter fun h =>
      (cfgAt s h).present && (liveAt s h).sampleAge < old && s.line.ageLimit ≤ (liveAt s h).sampleAge).foldl staleExpire s

/-- A lowered Silence Limit at or below the count of a RUNNING timer expires it (R148, R157). -/
def expireLateSilence (s : State) (old : Nat) : State :=
  if s.line.silenceLimit < old ∧ s.silence.state = .running ∧ s.line.silenceLimit ≤ s.silence.count then
    silenceExpire s
  else s

/-- The commit of the line configuration record with the effects of R148, taken in field order (DESIGN CHOICE, log entry 7); `levels`
says whether the write selects Notice Levels. -/
def commitLine (s : State) (c : LineConfig) (levels : Bool) : State :=
  let s1 := { s with line := c }
  let s2 := endLateTimers s1 s.line.pollTimeout
  let s3 := expireLateHoists s2 s.line.ageLimit
  let s4 := expireLateSilence s3 s.line.silenceLimit
  if levels then withdrawNotices s4 else s4

end Sys2Proof.Machine
end

