-- ==== Sys2Proof/Machine/Management.lean ====
section
/-! DEFINITION. The Management Agent (chapter Management Frames): the taking of an MGMT frame and its one MREPLY (R182 to
R184), and each operation: READ (R185), WRITE (R186), READ_LIVE (R188), ARM (R78, R79), PARK (R80), RECOVER (R191),
CLEAR_CAUSE and READ_CAUSE (R172, R173, R189), SET_IDENTITY (R183), SET_MOTION (R68, R69), SET_PORT_MODE (R190),
LINE_RESET (R192) and an unknown Operation (R184). -/

namespace Sys2Proof.Machine

/-! ## Taking an MGMT frame (R182 to R184) -/

/-- What an operation comes to: the state it leaves, the reason when it is refused, and the reply's Values. -/
structure MgmtResult where
  state : State
  reason : Option Reason
  values : List Byte
deriving DecidableEq, Repr

/-- An operation carried out, with no Values in its reply. -/
def done (s : State) : MgmtResult := { state := s, reason := none, values := [] }

/-- An operation carried out that changes nothing and returns Values. -/
def returns (s : State) (values : List Byte) : MgmtResult := { state := s, reason := none, values := values }

/-- An operation refused: it changes nothing (R182). -/
def refuses (s : State) (r : Reason) : MgmtResult := { state := s, reason := some r, values := [] }

/-- The Rig Identity check on every MGMT frame the Agent takes (R183). -/
def wrongRig (s : State) (f : Frame) : Bool :=
  match s.rigIdentity with
  | some v => mgmtIdentity f != v
  | none => false

/-- The MREPLY is placed in the Reply Slot; a DONE reply to LINE_RESET is marked as the one whose selection resets the
line (R182, R192). -/
def placeReply (f : Frame) (r : MgmtResult) : State :=
  { r.state with replySlot := some { frame := replyFrame f r.reason r.values
                                     resets := r.reason.isNone && mgmtOp f == opLineReset } }

/-- An MGMT frame is answered: the Rig Identity check, then the operation, then its MREPLY (R182, R183). -/
def answer (act : State → Frame → MgmtResult) (s : State) (f : Frame) : State :=
  placeReply f (if wrongRig s f then refuses s .wrongRig else act s f)

/-- An MGMT frame at the Intake head whose Operation byte `accepts` holds of is taken when the Reply Slot is empty (R48,
R182). -/
def mgmtTaken (accepts : Byte → Bool) (act : State → Frame → MgmtResult) (e : IntakeEntry) (s : State) : Option State :=
  if classOf e.frame = .mgmt ∧ s.replySlot.isNone ∧ accepts (mgmtOp e.frame) then some (answer act s e.frame) else none

/-! ## Table and index (R184) -/

/-- One record of the part's tables. -/
inductive RecordId
  | hoist (h : Slot)
  | group (g : GroupNo)
  | map (i : MapNo)
  | filter (i : FilterNo)
  | track (i : TrackIx)
  | line
  | identity
deriving DecidableEq, Repr

/-- The index `n` of a table of `size` records, or BAD_INDEX (R184 order 3). -/
def indexIn (size n : Nat) : Except Reason (Fin size) := if h : n < size then .ok ⟨n, h⟩ else .error .badIndex

/-- The record a READ names: BAD_TABLE, then BAD_INDEX (R184, R185, R193). -/
def recordOf (f : Frame) : Except Reason RecordId :=
  match tableOf (mgmtTable f) with
  | some .hoist => (indexIn 64 (mgmtIndex f)).map .hoist
  | some .group => (indexIn 16 (mgmtIndex f)).map .group
  | some .map => (indexIn 16 (mgmtIndex f)).map .map
  | some .filter => (indexIn 16 (mgmtIndex f)).map .filter
  | some .track => (indexIn 128 (mgmtIndex f)).map .track
  | some .line =>
    if mgmtIndex f = 0 then .ok .line else if mgmtIndex f = 1 then .ok .identity else .error .badIndex
  | some .all | none => .error .badTable

/-! ## READ (R185) -/

/-- The part identity: Family Code, Revision, Rig Identity and Identity Set (R185). -/
def identityBytes (s : State) : List Byte :=
  [0x36#8, 0x01#8] ++ natBytes 4 (s.rigIdentity.getD 0#32).toNat ++ [boolByte s.rigIdentity.isSome]

/-- The configured part of a record in the layout of R194 (R185). -/
def recordBytes (s : State) : RecordId → List Byte
  | .hoist h => (hoistFields (cfgAt s h)).flatten
  | .group g => (groupFields (groupAt s g).cfg).flatten
  | .map i => (mapFields (s.addressMap.get i)).flatten
  | .filter i => (filterFields (s.filters.get i)).flatten
  | .track i => (trackFields (s.trackPool.get i)).flatten
  | .line => (lineFields s.line).flatten
  | .identity => identityBytes s

/-- The operation READ (R185). -/
def readOp (s : State) (f : Frame) : MgmtResult :=
  match recordOf f with
  | .ok id => returns s (recordBytes s id)
  | .error r => refuses s r

/-- READ (R185). -/
def execRead (s : State) : Host.Outcome State Fault Refusal := takeHead s (mgmtTaken (· == opRead) readOp)

/-! ## WRITE (R186) -/

/-- The five steps of a WRITE over one record: `present` its fields, `validate` and `isProtected` its checks, `commit`
its commit (R186). A refusal at validation returns the failing field's number. -/
def writeRecord (s : State) (f : Frame) (present : List (List Byte))
    (validate : List (List Byte) → Option (Nat × Reason)) (protection : List (List Byte) → Option Reason)
    (commit : List (List Byte) → State) : MgmtResult :=
  match mergeFields (mgmtMask f) present (mgmtValues f) with
  | none => refuses s .malformed
  | some raw =>
    match validate raw, protection raw with
    | some (i, r), _ => { state := s, reason := some r, values := [BitVec.ofNat 8 i] }
    | none, some r => refuses s r
    | none, none => done (commit raw)

/-- A protection that refuses with a reason when it holds. -/
def refusesWhen (p : Bool) (r : Reason) : Option Reason := if p then some r else none

/-- The operation WRITE (R186); the part identity cannot be written. -/
def writeOp (s : State) (f : Frame) : MgmtResult :=
  match recordOf f with
  | .error r => refuses s r
  | .ok .identity => refuses s .badIndex
  | .ok (.hoist h) =>
    writeRecord s f (hoistFields (cfgAt s h)) (validateHoist s h)
      (fun raw => refusesWhen (hoistProtected s h (hoistOfFields raw)) .isProtected)
      (fun raw => commitHoist s h (hoistOfFields raw))
  | .ok (.group g) =>
    writeRecord s f (groupFields (groupAt s g).cfg) validateGroup
      (fun _ => refusesWhen (groupProtected s g) .isProtected) (fun raw => commitGroup s g (groupOfFields raw))
  | .ok (.map i) =>
    writeRecord s f (mapFields (s.addressMap.get i)) (validateMap s i)
      (fun raw => refusesWhen (mapProtected s i (mapOfFields raw)) .isProtected)
      (fun raw => commitMap s i (mapOfFields raw))
  | .ok (.filter i) =>
    writeRecord s f (filterFields (s.filters.get i)) validateFilter (fun _ => none)
      (fun raw => commitFilter s i (filterOfFields raw))
  | .ok (.track i) =>
    writeRecord s f (trackFields (s.trackPool.get i)) validateTrack
      (fun _ => refusesWhen (anyTrackRuns s) .trackActive) (fun raw => commitTrack s i (trackOfFields raw))
  | .ok .line =>
    writeRecord s f (lineFields s.line) validateLine (fun _ => none)
      (fun raw => commitLine s (lineOfFields raw) ((mgmtMask f).getLsbD 8))

/-- WRITE (R186). -/
def execWrite (s : State) : Host.Outcome State Fault Refusal := takeHead s (mgmtTaken (· == opWrite) writeOp)

/-! ## READ_LIVE (R188, R194) -/

/-- A one-byte field that reads 0xFF when absent (R194). -/
def optByte (v : Option Nat) : Byte := BitVec.ofNat 8 (v.getD 0xFF)

/-- A two-byte field that reads 0xFFFF when absent (R194). -/
def optWord (v : Option Nat) : List Byte := natBytes 2 (v.getD 0xFFFF)

/-- The live part of a hoist in the layout of R194. -/
def hoistLiveBytes (l : HoistLive) : List Byte :=
  [hoistStateCode l.state] ++ optWord l.position ++ optWord l.load
    ++ [optByte (l.driveState.map fun d => (driveStateCode d).toNat)] ++ natBytes 2 l.sampleAge
    ++ [loadConditionCode l.loadCondition] ++ optWord (l.grant.map (·.target)) ++ optWord (l.grant.map (·.speed))
    ++ [(l.grant.map (·.tag)).getD 0x00#8, boolByte l.arrived, boolByte l.fresh, boolByte l.pollOutstanding,
        optCauseCode l.lastStopCause]

/-- The live part of a group in the layout of R194, with its member count (R188). -/
def groupLiveBytes (s : State) (g : GroupNo) : List Byte :=
  let l := (groupAt s g).live
  [groupStateCode l.state, verdictCode l.lastVerdict, BitVec.ofNat 8 l.cleanStreak, optCauseCode l.tripCause]
    ++ intBytes 4 ((l.grant.map (·.base)).getD 0x7FFFFFFF) ++ optWord (l.grant.map (·.speed))
    ++ [(l.grant.map (·.tag)).getD 0x00#8, boolByte l.wave.isSome, optByte (l.wave.map fun w => w.tag.toNat)]
    ++ optWord (l.wave.map (·.speed)) ++ natBytes 4 (l.lastSkew.getD 0xFFFFFFFF) ++ optWord l.lastDmax
    ++ [optByte (l.track.map fun t => t.cursor.val)] ++ optWord (l.track.bind (·.dwell))
    ++ [BitVec.ofNat 8 (members s g).length]

/-- The operation READ_LIVE (R188). -/
def readLiveOp (s : State) (f : Frame) : MgmtResult :=
  match tableOf (mgmtTable f) with
  | some .hoist =>
    match indexIn 64 (mgmtIndex f) with
    | .ok h => returns s (hoistLiveBytes (liveAt s h))
    | .error r => refuses s r
  | some .group =>
    match indexIn 16 (mgmtIndex f) with
    | .ok g => returns s (groupLiveBytes s g)
    | .error r => refuses s r
  | some .all | some .map | some .filter | some .track | some .line | none => refuses s .badTable

/-- READ_LIVE (R188). -/
def execReadLive (s : State) : Host.Outcome State Fault Refusal := takeHead s (mgmtTaken (· == opReadLive) readLiveOp)

/-! ## ARM (R78, R79) -/

/-- Whether a MOVE addressed to `a` stands in the Motion Queue or in either position of the Transmit Stage (R78). -/
def moveQueuedFor (s : State) (a : LineAddr) : Bool :=
  (s.motionQueue ++ s.nextFrame.toList ++ s.onWire.toList).any fun e => e.frame.kind == kindMove && e.frame.dest == a

/-- Whether a member fails check 3 of ARM (R78). -/
def memberNotReady (s : State) (h : Slot) : Bool :=
  (match addrOfSlot s h with
   | none => true
   | some a => moveQueuedFor s a)
    || !((liveAt s h).state == .ready || (liveAt s h).state == .held)

/-- The five checks of ARM, in order (R78). -/
def armRefusal (s : State) (g : GroupNo) : Option Reason :=
  if armed s g then some .groupState
  else if (members s g).length < 2 ∨ 16 < (members s g).length then some .memberCount
  else if (members s g).any (memberNotReady s) then some .memberState
  else if ((members s g).map fun h => (cfgAt s h).weight).sum ≠ 1024 then some .weights
  else if (groupAt s g).cfg.skewWarn < skewOf s g then some .skewed
  else none

/-- An accepted ARM (R79). -/
def armGroup (s : State) (g : GroupNo) : State :=
  let s1 := changeGroup s g fun _ => { GroupLive.reset with state := .ready, lastSkew := some (skewOf s g) }
  changeHoists s1 fun h r => if isMember s g h then { r with live := { r.live with fresh := false } } else r

/-- The operation ARM (R78, R79). -/
def armOp (s : State) (f : Frame) : MgmtResult :=
  match indexIn 16 (mgmtIndex f) with
  | .error r => refuses s r
  | .ok g =>
    match armRefusal s g with
    | some r => refuses s r
    | none => done (armGroup s g)

/-- ARM (R78). -/
def execArm (s : State) : Host.Outcome State Fault Refusal := takeHead s (mgmtTaken (· == opArm) armOp)

/-! ## PARK (R80) -/

/-- The checks of PARK (R80). -/
def parkRefusal (s : State) (g : GroupNo) : Option Reason :=
  let st := (groupAt s g).live.state
  if ¬(st = .ready ∨ st = .holding) then some .groupState
  else if (members s g).any fun h => (liveAt s h).driveState == some .moving then some .busy
  else none

/-- The operation PARK: every live field but Trip Cause takes its reset value (R80). -/
def parkOp (s : State) (f : Frame) : MgmtResult :=
  match indexIn 16 (mgmtIndex f) with
  | .error r => refuses s r
  | .ok g =>
    match parkRefusal s g with
    | some r => refuses s r
    | none => done (changeGroup s g fun l => { GroupLive.reset with tripCause := l.tripCause })

/-- PARK (R80). -/
def execPark (s : State) : Host.Outcome State Fault Refusal := takeHead s (mgmtTaken (· == opPark) parkOp)

/-! ## RECOVER (R191, R11, R83) -/

/-- The hoist recovery test (R191). -/
def passesRecovery (s : State) (h : Slot) : Bool :=
  (liveAt s h).state == .tripped && (liveAt s h).sampleAge < s.line.ageLimit
    && ((liveAt s h).driveState == some .idle || (liveAt s h).driveState == some .moving
        || (liveAt s h).driveState == some .held)

/-- A recovered hoist: READY, its grant cleared, Arrived no (R11). -/
def recoverLive (l : HoistLive) : HoistLive := { l with state := .ready, grant := none, arrived := false }

/-- A recovered group: HOLDING, Last Verdict NONE, streak 0, its grant cleared (R83). -/
def recoverGroupLive (l : GroupLive) : GroupLive :=
  { l with state := .holding, lastVerdict := .none, cleanStreak := 0, grant := none }

/-- Hoists and groups recovered together (R11, R83). -/
def recoverSet (s : State) (hoist : Slot → Bool) (group : GroupNo → Bool) : State :=
  changeGroups (changeHoists s fun h r => if hoist h then { r with live := recoverLive r.live } else r)
    fun g r => if group g then { r with live := recoverGroupLive r.live } else r

/-- Whether a group is TRIPPED. -/
def groupTripped (s : State) (g : GroupNo) : Bool := (groupAt s g).live.state == .tripped

/-- A TRIPPED Present hoist in no group or in a PARKED group (R191). -/
def loneTripped (s : State) (h : Slot) : Bool :=
  (cfgAt s h).present && (liveAt s h).state == .tripped && (armedGroupOf s h).isNone

/-- A member of a TRIPPED group. -/
def inTrippedGroup (s : State) (h : Slot) : Bool := allGroups.any fun g => groupTripped s g && isMember s g h

/-- The hoists that RECOVER of all examines (R191). -/
def examinedByAll (s : State) (h : Slot) : Bool := loneTripped s h || inTrippedGroup s h

/-- An accepted RECOVER empties the Cause Record when Recover Clears Cause is yes (R172, R191). -/
def clearOnRecover (s : State) : State := if s.line.recoverClearsCause then { s with causeRecord := none } else s

/-- RECOVER of hoist `h` (R191). -/
def recoverHoistOp (s : State) (h : Slot) : MgmtResult :=
  if (armedGroupOf s h).isSome then refuses s .groupLocked
  else if !passesRecovery s h then refuses s .notClear
  else done (clearOnRecover (recoverSet s (fun x => x == h) fun _ => false))

/-- RECOVER of group `g` (R83, R191). -/
def recoverGroupOp (s : State) (g : GroupNo) : MgmtResult :=
  if !groupTripped s g then refuses s .groupState
  else if !((members s g).all (passesRecovery s)) then refuses s .notClear
  else done (clearOnRecover (recoverSet s (isMember s g) fun x => x == g))

/-- RECOVER of all (R191). -/
def recoverAllOp (s : State) : MgmtResult :=
  if allSlots.any fun h => examinedByAll s h && !passesRecovery s h then refuses s .notClear
  else done (clearOnRecover (recoverSet s (examinedByAll s) (groupTripped s)))

/-- The operation RECOVER (R191). -/
def recoverOp (s : State) (f : Frame) : MgmtResult :=
  match tableOf (mgmtTable f) with
  | some .all => recoverAllOp s
  | some .hoist =>
    match indexIn 64 (mgmtIndex f) with
    | .ok h => recoverHoistOp s h
    | .error r => refuses s r
  | some .group =>
    match indexIn 16 (mgmtIndex f) with
    | .ok g => recoverGroupOp s g
    | .error r => refuses s r
  | some .map | some .filter | some .track | some .line | none => refuses s .badTable

/-- RECOVER (R191). -/
def execRecover (s : State) : Host.Outcome State Fault Refusal := takeHead s (mgmtTaken (· == opRecover) recoverOp)

/-! ## CLEAR_CAUSE and READ_CAUSE (R172, R173, R189) -/

/-- The operation CLEAR_CAUSE (R172). -/
def clearCauseOp (s : State) (_f : Frame) : MgmtResult := done { s with causeRecord := none }

/-- CLEAR_CAUSE (R189). -/
def execClearCause (s : State) : Host.Outcome State Fault Refusal :=
  takeHead s (mgmtTaken (· == opClearCause) clearCauseOp)

/-- A set of filters as two bytes: bit n for filter n (R194). -/
def hitsNumber (hits : List FilterNo) : Nat := (hits.map fun i => 2 ^ i.val).sum

/-- A set of cause kinds as two bytes: bit k - 1 for cause code k (R194). -/
def laterNumber (later : List CauseKind) : Nat := (later.map fun c => 2 ^ (causeNumber c - 1)).sum

/-- The cause summary in the layout of R194 (R173). DEDUCED (log entry 13): an absent Filter Hits reads 0xFFFF. -/
def causeSummary : Option CauseRecord → List Byte
  | none => 0x01#8 :: List.replicate 12 0x00#8
  | some r =>
    [0x00#8, causeCode r.first] ++ natBytes 4 r.time.toNat ++ [slotByte r.hoist, groupByte r.group]
      ++ optWord (r.filterHits.map hitsNumber) ++ [BitVec.ofNat 8 (r.capture.getD []).length]
      ++ natBytes 2 (laterNumber r.later)

/-- The capture in the layout of R194: its length and its bytes, length 0 when there is none (R173). -/
def causeCapture (r : Option CauseRecord) : List Byte :=
  let bytes := (r.bind (·.capture)).getD []
  BitVec.ofNat 8 bytes.length :: bytes

/-- The operation READ_CAUSE (R173, R189). -/
def readCauseOp (s : State) (f : Frame) : MgmtResult :=
  if mgmtIndex f = 0 then returns s (causeSummary s.causeRecord)
  else if mgmtIndex f = 1 then returns s (causeCapture s.causeRecord)
  else refuses s .badIndex

/-- READ_CAUSE (R173). -/
def execReadCause (s : State) : Host.Outcome State Fault Refusal :=
  takeHead s (mgmtTaken (· == opReadCause) readCauseOp)

/-! ## SET_IDENTITY (R183) -/

/-- The operation SET_IDENTITY (R183). -/
def setIdentityOp (s : State) (f : Frame) : MgmtResult :=
  if (mgmtValues f).length ≠ 4 then refuses s .malformed
  else if s.rigIdentity.isSome then refuses s .writeOnce
  else done { s with rigIdentity := some (BitVec.ofNat 32 (bytesNat (mgmtValues f))) }

/-- SET_IDENTITY (R183). -/
def execSetIdentity (s : State) : Host.Outcome State Fault Refusal :=
  takeHead s (mgmtTaken (· == opSetIdentity) setIdentityOp)

/-! ## SET_MOTION (R68, R69) -/

/-- Whether any hoist is MOVING (R69, R39). -/
def anyHoistMoving (s : State) : Bool := allSlots.any fun h => (liveAt s h).state == .moving

/-- Whether any group is MOVING or SLOWED (R69). -/
def anyGroupMoving (s : State) : Bool := allGroups.any fun g => inProgress (groupAt s g).live

/-- Every running track is aborted and every due step cancelled (R69, R125). -/
def abortTracks (s : State) : State :=
  { changeGroups s fun _ r => { r with live := { r.live with track := none } } with
    internalBatches := s.internalBatches.filter fun b =>
      match b with
      | .wave _ => true
      | .step _ => false }

/-- The HOLD ALL without a cause of a motion-off (R69) and of a line reset (R138). -/
def holdAllStop (seq : Byte) : StopIssue := partStop .hold .all none seq none

/-- Line Motion Enable goes from on to off (R69). -/
def motionOff (s : State) (seq : Byte) : State :=
  let s1 := { s with motionEnable := false }
  abortTracks (if anyHoistMoving s || anyGroupMoving s then admitStop s1 (holdAllStop seq) else s1)

/-- The operation SET_MOTION (R68). -/
def setMotionOp (s : State) (f : Frame) : MgmtResult :=
  if mgmtIndex f = 0 then done (if s.motionEnable then motionOff s f.seq else s)
  else if mgmtIndex f = 1 then
    if s.rigIdentity.isNone then refuses s .noIdentity else done { s with motionEnable := true }
  else refuses s .badIndex

/-- SET_MOTION (R68). -/
def execSetMotion (s : State) : Host.Outcome State Fault Refusal :=
  takeHead s (mgmtTaken (· == opSetMotion) setMotionOp)

/-! ## SET_PORT_MODE (R37 to R39, R190) -/

/-- The D-port Mode an Index names (R190). -/
def modeOfIndex (n : Nat) : Option PortMode :=
  if n = 0 then some .normal else if n = 1 then some .holdOnly else if n = 2 then some .isolate else none

/-- A change of mode acts on the frame in NEXT (R38, R39). -/
def changeMode (s : State) (m : PortMode) : State :=
  let s1 := { s with portMode := m }
  match s.nextFrame with
  | some e => if modeDiscards m e then discardFrame { s1 with nextFrame := none } e else s1
  | none => s1

/-- The operation SET_PORT_MODE (R190): DONE without a change for the mode in force, BUSY for ISOLATE while a hoist is
MOVING. DESIGN CHOICE (log entry 25): where both apply, ISOLATE in force and a hoist MOVING, the answer is DONE. -/
def setPortModeOp (s : State) (f : Frame) : MgmtResult :=
  match modeOfIndex (mgmtIndex f) with
  | none => refuses s .badIndex
  | some m =>
    if m = s.portMode then done s
    else if m = .isolate ∧ anyHoistMoving s then refuses s .busy
    else done (changeMode s m)

/-- SET_PORT_MODE (R190). -/
def execSetPortMode (s : State) : Host.Outcome State Fault Refusal :=
  takeHead s (mgmtTaken (· == opSetPortMode) setPortModeOp)

/-! ## LINE_RESET (R192) and an unknown Operation (R184) -/

/-- The operation LINE_RESET is answered DONE and changes nothing else in its event (R192). -/
def lineResetOp (s : State) (_f : Frame) : MgmtResult := done s

/-- LINE_RESET (R192). -/
def execLineReset (s : State) : Host.Outcome State Fault Refusal :=
  takeHead s (mgmtTaken (· == opLineReset) lineResetOp)

/-- An Operation outside the codes of R193 is refused with MALFORMED (R184). -/
def badOperationOp (s : State) (_f : Frame) : MgmtResult := refuses s .malformed

/-- MGMT_BAD_OPERATION (R184). -/
def execMgmtBadOperation (s : State) : Host.Outcome State Fault Refusal :=
  takeHead s (mgmtTaken (fun op => !opKnown op) badOperationOp)

end Sys2Proof.Machine
end

