-- ==== Sys2Proof/Machine/Resets.lean ====
section
/-! DEFINITION. POWER_ON_RESET (R138, R192) and LINE_RESET_TAKES_EFFECT (R179, R192). -/

namespace Sys2Proof.Machine

/-- POWER_ON_RESET (R138): every value returns to its power-on value, and no order is admitted. The commands that wait
outside the part go on waiting (DESIGN CHOICE, log entry 17). -/
def execPowerOnReset (s : State) : Host.Outcome State Fault Refusal := .next { State.reset with pending := s.pending }

/-- The emptying of a line reset: the left column of the table of R192. Configuration, the Cause Record, the Rig
Identity, the D-port Mode, the Line Clock and the frames on both wires are kept. -/
def emptyForReset (s : State) : State :=
  { s with
    hoists := Table.build fun h => { hoistAt s h with live := HoistLive.reset }
    groups := Table.build fun g => { groupAt s g with live := GroupLive.reset }
    motionEnable := false, tagCounter := 128#8, seqCounter := 0#8, batchSerial := 0#8
    intake := [], lane := [], pollPromote := [], motionQueue := [], internalBatches := [], nextFrame := none
    pollTimers := Table.fill 64 none, silence := SilenceTimer.reset, notices := Table.fill 16 none
    relayQueue := [], replySlot := none, lastWasNotice := false }

/-- The line reset: the emptying, then the HOLD ALL of R138, whose Related Seq is the LINE_RESET frame's Seq. -/
def resetLine (s : State) (seq : Byte) : State := admitStop (emptyForReset s) (holdAllStop seq)

/-- LINE_RESET_TAKES_EFFECT (R179): an idle U-port selects the LINE_RESET reply, whose transmission goes on whole, and
the reset takes place. Nothing takes place while there is no such reply to select. -/
def execLineResetTakesEffect (s : State) : Host.Outcome State Fault Refusal :=
  match s.replySlot, s.uWire with
  | some r, none =>
    if r.resets then .next (finish (resetLine { s with uWire := some r.frame } r.frame.seq)) else .next s
  | some _, some _ | none, _ => .next s

end Sys2Proof.Machine
end

