-- ==== Sys2Proof/Machine/Dispatch.lean ====
section
/-! DEFINITION. The one match over the commands: each arm calls its command's meaning. -/

namespace Sys2Proof.Machine

def exec (i : Instr) (s : State) : Host.Outcome State Fault Refusal :=
  match i with
  | .powerOnReset => Sys2Proof.Machine.execPowerOnReset s
  | .uPortArrival content => Sys2Proof.Machine.execUPortArrival content s
  | .dPortArrival content => Sys2Proof.Machine.execDPortArrival content s
  | .move => Sys2Proof.Machine.execMove s
  | .gmove => Sys2Proof.Machine.execGmove s
  | .go => Sys2Proof.Machine.execGo s
  | .poll => Sys2Proof.Machine.execPoll s
  | .passThroughFrame => Sys2Proof.Machine.execPassThroughFrame s
  | .read => Sys2Proof.Machine.execRead s
  | .write => Sys2Proof.Machine.execWrite s
  | .readLive => Sys2Proof.Machine.execReadLive s
  | .arm => Sys2Proof.Machine.execArm s
  | .park => Sys2Proof.Machine.execPark s
  | .recover => Sys2Proof.Machine.execRecover s
  | .clearCause => Sys2Proof.Machine.execClearCause s
  | .readCause => Sys2Proof.Machine.execReadCause s
  | .setIdentity => Sys2Proof.Machine.execSetIdentity s
  | .setMotion => Sys2Proof.Machine.execSetMotion s
  | .setPortMode => Sys2Proof.Machine.execSetPortMode s
  | .lineReset => Sys2Proof.Machine.execLineReset s
  | .lineResetTakesEffect => Sys2Proof.Machine.execLineResetTakesEffect s
  | .dPortTransmitCompletion => Sys2Proof.Machine.execDPortTransmitCompletion s
  | .uPortTransmitCompletion => Sys2Proof.Machine.execUPortTransmitCompletion s
  | .staleExpiry slot => Sys2Proof.Machine.execStaleExpiry slot s
  | .pollTimeout slot => Sys2Proof.Machine.execPollTimeout slot s
  | .silenceTimerExpiry => Sys2Proof.Machine.execSilenceTimerExpiry s
  | .dwellExpiry group => Sys2Proof.Machine.execDwellExpiry group s
  | .trackStep => Sys2Proof.Machine.execTrackStep s
  | .rewriteWaveAdmission => Sys2Proof.Machine.execRewriteWaveAdmission s
  | .ownPoll => Sys2Proof.Machine.execOwnPoll s
  | .mgmtBadOperation => Sys2Proof.Machine.execMgmtBadOperation s

end Sys2Proof.Machine
end

