-- ==== Sys2Proof/Machine/Tick.lean ====
section
/-! DEFINITION. One millisecond of the Line Clock (R146), which a step takes when no command waits (DESIGN CHOICE, log
entry 1): the clock and every running count step by one, and the counts that reach their limits expire. -/

namespace Sys2Proof.Machine

/-- A count that reaches its limit in the coming millisecond. -/
inductive Expiry
  | stale (h : Slot)
  | pollTimeout (h : Slot)
  | dwell (g : GroupNo)
  | silence
deriving DecidableEq, Repr

/-- The number by which the free rank knows an expiry. -/
def expiryNumber : Expiry → Nat
  | .stale h => h.val
  | .pollTimeout h => 64 + h.val
  | .dwell g => 128 + g.val
  | .silence => 144

/-- The expiries of the coming millisecond. -/
def expiriesDue (s : State) : List Expiry :=
  (allSlots.filter (staleDue s)).map .stale ++ (allSlots.filter (pollDue s)).map .pollTimeout
    ++ (allGroups.filter (dwellDue s)).map .dwell ++ (if silenceDue s then [.silence] else [])

/-- An expiry put among others in the order of their free ranks (DESIGN CHOICE, log entry 3). -/
def rankInsert (t : BitVec 32) (x : Expiry) : List Expiry → List Expiry
  | [] => [x]
  | y :: ys =>
    if Config.tickRank t (expiryNumber x) ≤ Config.tickRank t (expiryNumber y) then x :: y :: ys
    else y :: rankInsert t x ys

/-- Expiries in the order of their free ranks: R146 orders no count against another (DESIGN CHOICE, log entry 3). -/
def rankSort (t : BitVec 32) : List Expiry → List Expiry
  | [] => []
  | x :: xs => rankInsert t x (rankSort t xs)

/-- A hoist's Sample Age after the millisecond: one more while Present and below 65535; the step to the Age Limit is left
to the expiry (R149). -/
def tickAge (s : State) (h : Slot) : Nat :=
  if (cfgAt s h).present && !staleDue s h && (liveAt s h).sampleAge < 65535 then (liveAt s h).sampleAge + 1
  else (liveAt s h).sampleAge

/-- Dwell Remaining after the millisecond: one less while it lies above 1 (R123). -/
def tickDwell (n : Nat) : Nat := if 1 < n then n - 1 else n

/-- The Line Clock and every running count step by one, short of the expiries (R146, R149, R153, R157, R123). -/
def stepCounts (s : State) : State :=
  { s with
    lineClock := s.lineClock + 1#32
    hoists := Table.build fun h => { hoistAt s h with live := { liveAt s h with sampleAge := tickAge s h } }
    pollTimers := Table.build fun h =>
      if pollDue s h then s.pollTimers.get h else (s.pollTimers.get h).map fun n => n + 1
    groups := Table.build fun g =>
      { groupAt s g with
        live := { (groupAt s g).live with
          track := (groupAt s g).live.track.map fun t => { t with dwell := t.dwell.map tickDwell } } }
    silence :=
      if s.silence.state = .running ∧ ¬ silenceDue s then { s.silence with count := s.silence.count + 1 }
      else s.silence }

/-- The state an outcome carries; an expiry found in a tick always has a next state. -/
def nextOr (s : State) : Host.Outcome State Fault Refusal → State
  | .next t => t
  | .fault _ | .refused _ => s

/-- One expiry taken as an event of its own. -/
def runExpiry (s : State) : Expiry → State
  | .stale h => nextOr s (execStaleExpiry h.val s)
  | .pollTimeout h => nextOr s (execPollTimeout h.val s)
  | .dwell g => nextOr s (execDwellExpiry g.val s)
  | .silence => nextOr s (execSilenceTimerExpiry s)

/-- One millisecond of the Line Clock (R146). -/
def tick (s : State) : State := (rankSort s.lineClock (expiriesDue s)).foldl runExpiry (stepCounts s)

end Sys2Proof.Machine
end

