-- ==== Sys2Proof/Safety.lean ====
section
/-! DEFINITION. What counts as a sound state of the part, in the terms the statements use: the capacities of its queues,
the order of its Stop Lane, the records of absent hoists, the Address Map, the pending internal batches, and the readings that
a movable hoist holds; and the shared shapes of the statements' premises and conclusions. -/

namespace Sys2Proof.Machine

/-! ## Invariants -/

/-- No queue holds more than its place allows: Intake Buffer 8 (R47), Stop Lane 4 (R128), Poll Promote Queue 2 (R141),
Motion Queue 32 (R139), Relay Queue 16 (R180). -/
abbrev WithinCapacity (s : State) : Prop :=
  s.intake.length ≤ 8 ∧ s.lane.length ≤ 4 ∧ s.pollPromote.length ≤ 2 ∧ s.motionQueue.length ≤ 32 ∧
    s.relayQueue.length ≤ 16

/-- Every HALT order of the Stop Lane stands before every HOLD order (R129). -/
abbrev HaltsFirst (lane : List StopOrder) : Prop := lane.Pairwise fun x y => ¬(x.kind = .hold ∧ y.kind = .halt)

/-- Whether a scope names slots, to which its order sends one frame each (R128, R136). -/
def namesSlots : Scope → Bool
  | .hoist _ | .group _ => true
  | .all | .raw _ => false

/-- The Pending List of an order: increasing without duplicates for HOIST and GROUP, empty for ALL and RAW (R128). -/
abbrev PendingListSound (o : StopOrder) : Prop :=
  o.pendingList.Pairwise (· < ·) ∧ (namesSlots o.scope = false → o.pendingList = [])

/-- The Stop Lane is in its order and each of its orders has a sound Pending List (R128, R129). -/
abbrev LaneSound (s : State) : Prop := HaltsFirst s.lane ∧ ∀ o ∈ s.lane, PendingListSound o

/-- A hoist that is not Present keeps its live fields at their reset values and has no poll timer (R5, R8, R153). -/
abbrev AbsentAtReset (s : State) : Prop :=
  ∀ h : Slot, (cfgAt s h).present = false → liveAt s h = HoistLive.reset ∧ s.pollTimers.get h = none

/-- The tag counter holds a part tag (R32). -/
abbrev TagCounterSound (s : State) : Prop := 128 ≤ s.tagCounter.toNat

/-- The address range and the slot range of a map entry lie within the device addresses and the slots (R41). -/
abbrev EntryInRange (e : MapEntry) : Prop :=
  1 ≤ e.base.toNat ∧ e.base.toNat + 2 ^ e.spanExp ≤ 0xF000 ∧ e.slotBase.val + 2 ^ e.spanExp ≤ 64

/-- Two map entries share no address and no slot (R41). -/
abbrev EntriesApart (x y : MapEntry) : Prop :=
  (x.base.toNat + 2 ^ x.spanExp ≤ y.base.toNat ∨ y.base.toNat + 2 ^ y.spanExp ≤ x.base.toNat) ∧
  (x.slotBase.val + 2 ^ x.spanExp ≤ y.slotBase.val ∨ y.slotBase.val + 2 ^ y.spanExp ≤ x.slotBase.val)

/-- Every enabled map entry is in range, and every two of them are apart (R41, R43). -/
abbrev MapSound (s : State) : Prop :=
  ∀ i, (s.addressMap.get i).enabled = true → EntryInRange (s.addressMap.get i) ∧
    ∀ j, j ≠ i → (s.addressMap.get j).enabled = true → EntriesApart (s.addressMap.get i) (s.addressMap.get j)

/-- Address `a` and slot `h` stand at the same place of an enabled entry's ranges (R43). -/
abbrev MapsTo (s : State) (a : LineAddr) (h : Slot) : Prop :=
  ∃ i, (s.addressMap.get i).enabled = true ∧ ∃ n, n < 2 ^ (s.addressMap.get i).spanExp ∧
    a.toNat = (s.addressMap.get i).base.toNat + n ∧ h.val = (s.addressMap.get i).slotBase.val + n

/-- What a group's live part and the list of pending internal batches say of each other: the list holds a group's wave
exactly while Wave Pending is yes, and its step exactly while the step is due (R77, R117, R123); a wave is pending only in
SLOWED and not while dwelling (R85, R95), and a track runs only in MOVING or SLOWED (R117). -/
abbrev GroupBatchesSound (s : State) (g : GroupNo) : Prop :=
  (InternalBatch.wave g ∈ s.internalBatches ↔ (groupAt s g).live.wave.isSome = true) ∧
  (InternalBatch.step g ∈ s.internalBatches ↔ ((groupAt s g).live.track.bind (·.dwell)) = some 0) ∧
  ((groupAt s g).live.wave.isSome = true → (groupAt s g).live.state = .slowed ∧ isDwelling (groupAt s g).live = false) ∧
  ((groupAt s g).live.track.isSome = true → inProgress (groupAt s g).live = true)

/-- The pending internal batches agree with the groups, and no batch stands in the list twice (R140). -/
abbrev BatchesSound (s : State) : Prop := s.internalBatches.Nodup ∧ ∀ g, GroupBatchesSound s g

/-- A hoist state from which a move may be granted (R53 check 8). -/
abbrev isMovable (st : HoistState) : Bool := st == .ready || st == .held || st == .moving

/-- A hoist holds a stored Position and a stored Load. -/
abbrev HasReading (l : HoistLive) : Prop := l.position.isSome = true ∧ l.load.isSome = true

/-- The readings of one hoist: a movable hoist, a Fresh one and one whose Drive State is not FAULT hold a Position and a
Load (R22, R57), and a MOVING one holds a grant (R16). -/
abbrev HoistReadingsSound (l : HoistLive) : Prop :=
  (isMovable l.state = true → HasReading l) ∧
  (l.fresh = true → HasReading l) ∧
  (l.driveState ≠ none → l.driveState ≠ some .fault → HasReading l) ∧
  (l.state = .moving → l.grant.isSome = true)

/-- Every hoist's readings are sound, and every member of a READY, MOVING or SLOWED group is movable (R16, R57, R89,
R101). -/
abbrev ReadingsSound (s : State) : Prop :=
  (∀ h, HoistReadingsSound (liveAt s h)) ∧
  ∀ g, ((groupAt s g).live.state = .ready ∨ inProgress (groupAt s g).live = true) →
    ∀ h ∈ members s g, isMovable (liveAt s h).state = true

/-! ## Shapes of premises -/

/-- The line checks pass for a frame stamped `epoch` (R51). -/
abbrev LineOpen (s : State) (epoch : BitVec 16) : Prop :=
  s.motionEnable = true ∧ s.portMode = .normal ∧ epoch = s.silence.epoch

/-- The frame `f`, stamped `epoch`, stands at the Intake head with `rest` behind it (R47). -/
abbrev AtHead (s : State) (f : Frame) (epoch : BitVec 16) (rest : List IntakeEntry) : Prop :=
  s.intake = { frame := f, epoch := epoch } :: rest

/-- The Intake head is granted `n` Motion Queue entries: no internal batch is pending, no due own POLL claims an entry
before it, and `n` entries are free (R48, R49, R140). A head that needs none waits for no POLL (log entry 20). -/
abbrev RoomFor (s : State) (n : Nat) : Prop :=
  s.internalBatches = [] ∧ (n = 0 ∨ dueClaims s = false) ∧ s.motionQueue.length + n ≤ 32

/-- An MGMT frame stands at the Intake head and the Reply Slot is empty (R182). -/
abbrev MgmtAtHead (s : State) (f : Frame) (epoch : BitVec 16) (rest : List IntakeEntry) : Prop :=
  AtHead s f epoch rest ∧ f.kind = 0x2E#8 ∧ f.dest = 0xFFFE#16 ∧ 9 ≤ f.payload.length ∧ f.payload.length ≤ 40 ∧
    s.replySlot = none

/-- The Rig Identity check passes (R183). -/
abbrev IdentityPasses (s : State) (f : Frame) : Prop := s.rigIdentity = none ∨ s.rigIdentity = some (mgmtIdentity f)

/-- An MGMT frame with Operation `op` that the Agent takes and the Rig Identity check lets pass (R182, R183). -/
abbrev MgmtTakes (s : State) (f : Frame) (epoch : BitVec 16) (rest : List IntakeEntry) (op : Byte) : Prop :=
  MgmtAtHead s f epoch rest ∧ mgmtOp f = op ∧ IdentityPasses s f

/-- No filter is enabled (R160). -/
abbrev NoFilterEnabled (s : State) : Prop := ∀ i : FilterNo, (s.filters.get i).enabled = false

/-- A DROP filter matches frame `f` travelling in direction `d`, and the frame is neither a HOLD nor a HALT (R164 step 2). -/
abbrev IsDroppedBy (s : State) (f : Frame) (d : Direction) : Prop :=
  (∃ i, filterMatches (s.filters.get i) f d = true ∧ (s.filters.get i).action = .drop) ∧ f.kind ≠ 0x23#8 ∧ f.kind ≠ 0x24#8

/-- One validation check of a WRITE: whether it fails, the number of its field and the reason code (R186). -/
abbrev FailedCheck := Bool × Nat × Byte

/-- The management commands with the Operation each carries out; MGMT_BAD_OPERATION takes every other code (R184, R193). -/
def operationOf : Instr → Option (Byte → Bool)
  | .read => some (· == 0x01#8)
  | .write => some (· == 0x02#8)
  | .readLive => some (· == 0x03#8)
  | .arm => some (· == 0x04#8)
  | .park => some (· == 0x05#8)
  | .recover => some (· == 0x06#8)
  | .clearCause => some (· == 0x07#8)
  | .readCause => some (· == 0x08#8)
  | .setIdentity => some (· == 0x09#8)
  | .setMotion => some (· == 0x0A#8)
  | .setPortMode => some (· == 0x0B#8)
  | .lineReset => some (· == 0x0C#8)
  | .mgmtBadOperation => some fun op => op == 0x00#8 || decide (0x0C#8 < op)
  | .powerOnReset | .uPortArrival _ | .dPortArrival _ | .move | .gmove | .go | .poll | .passThroughFrame
  | .lineResetTakesEffect | .dPortTransmitCompletion | .uPortTransmitCompletion | .staleExpiry _ | .pollTimeout _
  | .silenceTimerExpiry | .dwellExpiry _ | .trackStep | .rewriteWaveAdmission | .ownPoll => none

/-! ## Shapes of conclusions -/

/-- The group that a notice names for a hoist: none for one that is not Present (R7). -/
abbrev ownGroup (s : State) (h : Slot) : Option GroupNo :=
  if (cfgAt s h).present = true then (cfgAt s h).group else none

/-- The reply that answers an MGMT frame DONE with `values` (R182, R193). -/
abbrev doneReply (f : Frame) (values : List Byte) : Frame :=
  { kind := 0x4F#8, dest := f.src, src := 0xFFFE#16, seq := f.seq,
    payload := [0x00#8, 0x00#8, payloadByte f 4, payloadByte f 6] ++ values }

/-- The reply that answers an MGMT frame REFUSED with a reason code (R182, R193). -/
abbrev refusedReply (f : Frame) (code : Byte) (values : List Byte) : Frame :=
  { kind := 0x4F#8, dest := f.src, src := 0xFFFE#16, seq := f.seq,
    payload := [0x01#8, code, payloadByte f 4, payloadByte f 6] ++ values }

/-- `s` after an MGMT frame has been taken and its reply placed, with nothing else changed (R182). -/
abbrev answeredWith (s : State) (rest : List IntakeEntry) (reply : Frame) : State :=
  { s with intake := rest, replySlot := some { frame := reply, resets := false } }

/-- The state effect of a stop order on a hoist, as the table of R10 lists it. -/
abbrev hoistUnderStop : StopKind → HoistState → HoistState
  | .hold, .ready => .held
  | .hold, .moving => .held
  | .hold, .held => .held
  | .hold, .offline => .offline
  | .hold, .tripped => .tripped
  | .halt, _ => .tripped

/-- The state effect of a stop order on an armed group, as the table of R81 lists it. -/
abbrev groupUnderStop : StopKind → GroupState → GroupState
  | .hold, .tripped => .tripped
  | .hold, .parked => .parked
  | .hold, .ready => .holding
  | .hold, .moving => .holding
  | .hold, .slowed => .holding
  | .hold, .holding => .holding
  | .halt, .parked => .parked
  | .halt, .ready => .tripped
  | .halt, .moving => .tripped
  | .halt, .slowed => .tripped
  | .halt, .holding => .tripped
  | .halt, .tripped => .tripped

/-- Whether an entry is a granted or batch MOVE for hoist `h` (R135, R139). -/
abbrev isMoveFor (e : Entry) (h : Slot) : Prop := moveSlot e = some h

/-- The entries behind a selected entry `e` in the Motion Queue: those of its batch are marked as begun (R92, R141). -/
abbrev behindSelected (e : Entry) (rest : List Entry) : List Entry :=
  rest.map fun x => match e.role, x.role with
    | .batch _ i _, .batch h j _ => if j = i then { x with role := .batch h j true } else x
    | _, _ => x

/-- A number of two bytes, most significant first (R194). -/
abbrev twoBytes (n : Nat) : List Byte := [BitVec.ofNat 8 (n / 256), BitVec.ofNat 8 n]

/-- A number of four bytes, most significant first (R194). -/
abbrev fourBytes (n : Nat) : List Byte :=
  [BitVec.ofNat 8 (n / 16777216), BitVec.ofNat 8 (n / 65536), BitVec.ofNat 8 (n / 256), BitVec.ofNat 8 n]

/-- The two-byte field of a frame's payload at bytes `n` and `n + 1`, as a number (R27). -/
abbrev fieldAt (f : Frame) (n : Nat) : Nat := (payloadByte f n ++ payloadByte f (n + 1)).toNat

/-- The MOVE frame of R27, byte by byte. -/
abbrev moveTo (dest src : LineAddr) (seq : Byte) (target speed : Nat) (tag : Byte) : Frame :=
  { kind := 0x21#8, dest := dest, src := src, seq := seq, payload := twoBytes target ++ twoBytes speed ++ [tag] }

/-- The REFUSE notice of a frame with a device or group Dest (R45, R54). -/
abbrev refusedWith (s : State) (h : Option Slot) (g : Option GroupNo) (code kind seq : Byte) : State :=
  raiseNotice s .refuse { hoist := h, group := g, code := code, detail := kind, relatedSeq := seq }

/-- CLAMP, raised when a grant changed the target or the speed that was asked for; Code 1 for the target, 2 for the speed
and 3 for both (R59, R90, R121). -/
abbrev afterClamp (s : State) (target speed : Bool) (kind : Byte) (h : Option Slot) (g : Option GroupNo) (seq : Byte) :
    State :=
  if target = false ∧ speed = false then s
  else raiseNotice s .clamp
    { hoist := h, group := g, code := if target = false then 2#8 else if speed = false then 1#8 else 3#8, detail := kind,
      relatedSeq := seq }

/-- The D-port has nothing to select: an empty ON_WIRE leaves NEXT empty, and an empty NEXT leaves the lane and both queues
empty (R142). -/
abbrev DPortSettled (s : State) : Prop :=
  (s.onWire = none → s.nextFrame = none) ∧
  (s.nextFrame = none → s.lane = [] ∧ s.pollPromote = [] ∧ s.motionQueue = [])

/-! ## Group moves -/

/-- `x` is the greatest of `xs`. -/
abbrev IsGreatestOf (x : Int) (xs : List Int) : Prop := x ∈ xs ∧ ∀ y ∈ xs, y ≤ x

/-- `x` is the least of `xs`. -/
abbrev IsLeastOf (x : Int) (xs : List Int) : Prop := x ∈ xs ∧ ∀ y ∈ xs, x ≤ y

/-- `lo` and `hi` are the Lo and Hi of the group's geometry (R88). -/
abbrev SpanOf (s : State) (g : GroupNo) (lo hi : Int) : Prop :=
  IsGreatestOf lo ((members s g).map fun h => ((cfgAt s h).softLow : Int) - (cfgAt s h).offset) ∧
  IsLeastOf hi ((members s g).map fun h => ((cfgAt s h).softHigh : Int) - (cfgAt s h).offset)

/-- Every member has its line address `addr` (R43). -/
abbrev AddressedBy (s : State) (g : GroupNo) (addr : Slot → LineAddr) : Prop :=
  ∀ h ∈ members s g, addrOfSlot s h = some (addr h)

/-- No member fails check 9 of R87. -/
abbrev MembersFit (s : State) (g : GroupNo) : Prop :=
  ∀ h ∈ members s g, isMovable (liveAt s h).state = true ∧ (liveAt s h).loadCondition ≠ .over

/-- `v` is Vgrp: the least of the speed asked for and every member's Vd, from the stored loads `load` (R57, R89). -/
abbrev SlowestOf (s : State) (g : GroupNo) (load : Slot → Nat) (vq v : Nat) : Prop :=
  (∀ h ∈ members s g, (liveAt s h).load = some (load h)) ∧
  IsLeastOf (v : Int) ((vq : Int) :: (members s g).map fun h => (deratedSpeed (effectiveLimits s h) (load h) : Int))

/-- The batch frames of the part's own, one per member in slot order with one Seq each, in the Motion Queue form
(R91, R92, R96, R121). -/
abbrev ownBatch (s : State) (g : GroupNo) (addr : Slot → LineAddr) (gr : GroupGrant) : List Entry :=
  (members s g).mapIdx fun i h =>
    { frame := moveTo (addr h) 0xFFFE#16 (s.seqCounter + BitVec.ofNat 8 i) (gr.base + (cfgAt s h).offset).toNat gr.speed
        gr.tag
      role := .batch h s.batchSerial false }

/-- The batch `entries` with the group's grant `gr` has been queued and every member has taken its grant; `u` differs from
`s` in the Motion Queue, the batch serial and the members' records (R91, R92, R93 step 1). -/
abbrev BatchGranted (s u : State) (g : GroupNo) (entries : List Entry) (gr : GroupGrant) : Prop :=
  u.motionQueue = s.motionQueue ++ entries ∧ u.batchSerial = s.batchSerial + 1#8 ∧
  ∀ h, hoistAt u h =
    if h ∈ members s g then
      { hoistAt s h with live := { liveAt s h with
          state := .moving, arrived := false
          grant := some { target := (gr.base + (cfgAt s h).offset).toNat, speed := gr.speed, tag := gr.tag } } }
    else hoistAt s h

/-- Only group `g` differs between `s` and `u`, and its record is `r` in `u`. -/
abbrev OnlyGroup (s u : State) (g : GroupNo) (r : Group) : Prop :=
  groupAt u g = r ∧ ∀ k, k ≠ g → groupAt u k = groupAt s k

/-- Only hoist `h` differs between `s` and `u`, and its record is `r` in `u`. -/
abbrev OnlyHoist (s u : State) (h : Slot) (r : Hoist) : Prop :=
  hoistAt u h = r ∧ ∀ k, k ≠ h → hoistAt u k = hoistAt s k

/-- An order of origin PART with no hit set and no capture (R128, R134). -/
abbrev partOrder (k : StopKind) (sc : Scope) (cause : Option CauseKind) (seq : Byte) (h : Option Slot) : StopIssue :=
  { kind := k, scope := sc, origin := .part, relatedSeq := seq, cause := cause, hoist := h, hits := none,
    capture := none }

/-! ## Expiries at a commit -/

/-- The stale expiry of hoist `h`, by its state as it then stands: the state change, the order and the STALE notice of the
table of R150. -/
abbrev afterStale (s : State) (h : Slot) : State :=
  let stale : State → State := fun u => raiseNotice u .stale
    { hoist := some h, group := ownGroup s h, code := hoistStateCode (liveAt s h).state,
      detail := boolByte (liveAt s h).pollOutstanding, relatedSeq := 0x00#8 }
  let order : StopKind → StopIssue := fun k => partOrder k (.hoist h) (some .stale) 0x00#8 (some h)
  let gone := changeLive s h fun l => { l with state := .offline }
  match (liveAt s h).state with
  | .offline => s
  | .tripped => stale s
  | .moving => stale (issueStop s (order .halt))
  | .ready => stale (if armedGroupOf s h = none then gone else issueStop gone (order .hold))
  | .held => stale (if armedGroupOf s h = none then gone else issueStop gone (order .hold))

/-- The expiry of the Silence Timer, its Count kept: the next epoch, the Silence Action's order on ALL, and the SILENCE
notice (R157). -/
abbrev afterSilence (s : State) : State :=
  let isHalt := s.line.silenceAction = .haltAll
  let expired : State := { s with silence := { s.silence with state := .expired, epoch := s.silence.epoch + 1#16 } }
  raiseNotice
    (admitStop expired (partOrder (if isHalt then .halt else .hold) .all (some .silence) s.silence.lastSeq none)) .silence
    { hoist := none, group := none, code := if isHalt then 0x24#8 else 0x23#8,
      detail := (s.silence.epoch + 1#16).extractLsb' 0 8, relatedSeq := s.silence.lastSeq }

end Sys2Proof.Machine
end

