-- ==== Sys2Proof/Certificates/Slice0/Obligations.lean ====
section
/-! DEFINITION. The statements about the model that the provers settle, one `def Obligations.<Name> : Prop` each. An event
is stated as `exec c s = .next (finish u)`: `u` is the state the event's own blocks leave, told field by field with its frame,
and `finish` lets the two transmitters take what they can, once and at the end of the event (log entries 6 and 27), which
touches only the fields that FinishTouchesOnlyTransmitters lists. -/

open Sys2Proof Sys2Proof.Machine

/-! ## The step -/

/-- A step runs the command at the front of the queue on the state with the queue's rest. -/
def Obligations.StepRunsFrontCommand : Prop :=
  ∀ (c : Instr) (rest : List Instr) (s : State), s.pending = c :: rest → step s = exec c { s with pending := rest }

/-- The step on an empty queue is one millisecond of the Line Clock (log entry 1, a choice of the model). The clock and every
running count short of its last step step by one, and nothing else changes; then each command whose count steps in this
millisecond to its limit is executed once, in an order that the model leaves open (log entry 3) (R123, R146, R149, R153,
R157). -/
def Obligations.IdleStepCountsOneMillisecond : Prop :=
  ∀ s : State, s.pending = [] →
    let dueNow : Instr → Prop := fun c =>
      (∃ h : Slot, c = .staleExpiry h.val ∧ (cfgAt s h).present = true ∧ (liveAt s h).sampleAge + 1 = s.line.ageLimit) ∨
      (∃ (h : Slot) (n : Nat), c = .pollTimeout h.val ∧ s.pollTimers.get h = some n ∧ s.line.pollTimeout ≤ n + 1) ∨
      (∃ (g : GroupNo) (tr : Track), c = .dwellExpiry g.val ∧ (groupAt s g).live.track = some tr ∧ tr.dwell = some 1) ∨
      (c = .silenceTimerExpiry ∧ s.silence.state = .running ∧ s.line.silenceLimit ≤ s.silence.count + 1)
    ∃ (u : State) (order : List Instr), order.Nodup ∧ (∀ c, c ∈ order ↔ dueNow c) ∧
      step s = .next (order.foldl (fun v c => nextOr v (exec c v)) u) ∧
      u.lineClock = s.lineClock + 1#32 ∧
      (∀ h, hoistAt u h = { hoistAt s h with live := { liveAt s h with
        sampleAge :=
          if (cfgAt s h).present = true ∧ (liveAt s h).sampleAge + 1 ≠ s.line.ageLimit ∧ (liveAt s h).sampleAge < 65535
          then (liveAt s h).sampleAge + 1 else (liveAt s h).sampleAge } }) ∧
      (∀ h, u.pollTimers.get h = (s.pollTimers.get h).map fun n => if n + 1 < s.line.pollTimeout then n + 1 else n) ∧
      (∀ g, groupAt u g = { groupAt s g with live := { (groupAt s g).live with
        track := (groupAt s g).live.track.map fun tr =>
          { tr with dwell := tr.dwell.map fun d => if 2 ≤ d then d - 1 else d } } }) ∧
      u.silence = (if s.silence.state = .running ∧ s.silence.count + 1 < s.line.silenceLimit then
        { s.silence with count := s.silence.count + 1 } else s.silence) ∧
      { u with lineClock := s.lineClock, hoists := s.hoists, pollTimers := s.pollTimers, groups := s.groups,
               silence := s.silence } = s

/-- No command changes the queue of the commands that wait behind it. -/
def Obligations.ExecKeepsWaitingQueue : Prop :=
  ∀ (c : Instr) (s t : State), exec c s = .next t → t.pending = s.pending

/-- The close of an event changes nothing but the transmitters' own fields: the Stop Lane and the two downstream queues,
the Transmit Stage with the poll timers it starts, the sequence counter, the pending notices, and the U-port's candidates
(R136, R142, R143, R153, R177, R178). -/
def Obligations.FinishTouchesOnlyTransmitters : Prop :=
  ∀ s : State,
    { finish s with
      lane := s.lane, pollPromote := s.pollPromote, motionQueue := s.motionQueue, nextFrame := s.nextFrame,
      onWire := s.onWire, pollTimers := s.pollTimers, seqCounter := s.seqCounter, notices := s.notices,
      relayQueue := s.relayQueue, replySlot := s.replySlot, uWire := s.uWire, lastWasNotice := s.lastWasNotice } = s

/-- Once an event has closed, an empty NEXT means that no candidate is left for it, an empty ON_WIRE means that NEXT is empty
too, and an idle U-port means that no reply, no notice and no relayed frame waits (R142, R177). The reply to a LINE_RESET
alone may wait at an idle U-port: its selection is a command of its own, which is the choice of log entry 5. -/
def Obligations.NoCandidateWaitsForIdleTransmitter : Prop :=
  ∀ s : State,
    ((finish s).onWire = none → (finish s).nextFrame = none) ∧
    ((finish s).nextFrame = none →
      (finish s).lane = [] ∧ (finish s).pollPromote = [] ∧ (finish s).motionQueue = []) ∧
    ((finish s).uWire = none →
      (∀ r, (finish s).replySlot = some r → r.resets = true) ∧
      ((finish s).replySlot = none → (∀ i, (finish s).notices.get i = none) ∧ (finish s).relayQueue = []))

/-! ## Invariants that every step keeps -/

/-- The state after power-on reset meets every invariant stated below. -/
def Obligations.ResetMeetsEveryInvariant : Prop :=
  WithinCapacity State.reset ∧ LaneSound State.reset ∧ AbsentAtReset State.reset ∧ TagCounterSound State.reset ∧
    MapSound State.reset ∧ BatchesSound State.reset ∧ ReadingsSound State.reset

/-- No step takes a queue beyond its capacity (R47, R128, R139, R141, R180). -/
def Obligations.QueuesStayWithinCapacity : Prop :=
  ∀ s t : State, WithinCapacity s → step s = .next t → WithinCapacity t

/-- Every step keeps the order of the Stop Lane and the form of its Pending Lists (R128, R129). -/
def Obligations.StopLaneStaysSound : Prop :=
  ∀ s t : State, LaneSound s → step s = .next t → LaneSound t

/-- Every step keeps the live fields of an absent hoist at their reset values and its poll timer absent (R5, R8, R153). -/
def Obligations.AbsentHoistsStayAtReset : Prop :=
  ∀ s t : State, AbsentAtReset s → step s = .next t → AbsentAtReset t

/-- Every step keeps the tag counter within the part tags 128..255, keeps the enabled map entries in range and apart, and
keeps a Rig Identity once set until power-on reset (R32, R41, R183). With such a map the two directions of decoding read the
enabled entries as R43 says, and so each undoes the other. -/
def Obligations.PartTagsIdentityAndMapAreKept : Prop :=
  (∀ s t : State, TagCounterSound s → step s = .next t → TagCounterSound t) ∧
  (∀ s t : State, MapSound s → step s = .next t → MapSound t) ∧
  (∀ (s t : State) (v : BitVec 32), s.rigIdentity = some v → step s = .next t →
    t.rigIdentity = some v ∨ s.pending.head? = some .powerOnReset) ∧
  ∀ s : State, MapSound s → ∀ (a : LineAddr) (h : Slot),
    (slotOfAddr s a = some h ↔ MapsTo s a h) ∧ (addrOfSlot s h = some a ↔ MapsTo s a h)

/-- Every step keeps the pending internal batches in agreement with the groups' waves and due steps, at most one per group
(R77, R82, R97, R117, R123, R140). -/
def Obligations.InternalBatchesAgreeWithGroups : Prop :=
  ∀ s t : State, BatchesSound s → step s = .next t → BatchesSound t

/-- In every state the machine comes to, a hoist that may be moved or evaluated holds a stored Position and Load, a MOVING
one a grant, and no member of a READY, MOVING or SLOWED group is OFFLINE or TRIPPED (R16, R57, R89, R101). -/
def Obligations.MovableHoistsHoldReadings : Prop :=
  ∀ s t : State, ReadingsSound s → BatchesSound s → AbsentAtReset s → step s = .next t → ReadingsSound t

/-- An empty Cause Record is written from the first recorded stop, and a later one only joins Later Causes; the admission
raises HOLD or TRIP for an order of the part and neither for a console's. Once the record holds a cause, every field but
Later Causes stays as it was and Later Causes only grows, until a CLEAR_CAUSE, a RECOVER or a power-on reset (R134, R170,
R171). -/
def Obligations.FirstCauseIsWrittenAndLatched : Prop :=
  (∀ (s : State) (o : StopIssue), laneAfter s o ≠ none →
    let group := match o.scope with | .group g => some g | _ => none
    (o.cause = none → (admitStop s o).causeRecord = s.causeRecord) ∧
    (∀ c, o.cause = some c → s.causeRecord = none → (admitStop s o).causeRecord = some
      { first := c, time := s.lineClock, hoist := o.hoist, group := group,
        filterHits := if c = .filter then o.hits else none, capture := o.capture, later := [] }) ∧
    (∀ c r, o.cause = some c → s.causeRecord = some r → ∃ later,
      (admitStop s o).causeRecord = some { r with later := later } ∧ ∀ x, x ∈ later ↔ x = c ∨ x ∈ r.later) ∧
    ((∃ src seq, o.origin = .console src seq) → (admitStop s o).notices = s.notices) ∧
    (o.origin = .part → (admitStop s o).notices =
      (raiseNotice s (if o.kind = .halt then .trip else .hold)
        { hoist := o.hoist, group := group, code := match o.cause with | some c => causeCode c | none => 0x00#8,
          detail := 0x00#8, relatedSeq := o.relatedSeq }).notices)) ∧
  ∀ (s t : State) (r : CauseRecord), s.causeRecord = some r → step s = .next t →
    (∃ r', t.causeRecord = some r' ∧ r'.first = r.first ∧ r'.time = r.time ∧ r'.hoist = r.hoist ∧
        r'.group = r.group ∧ r'.filterHits = r.filterHits ∧ r'.capture = r.capture ∧ ∀ c ∈ r.later, c ∈ r'.later) ∨
    (t.causeRecord = none ∧
      (s.pending.head? = some .clearCause ∨ s.pending.head? = some .recover ∨ s.pending.head? = some .powerOnReset))

/-- While a group stays armed, no step changes its member list, its record, its members' records or their line addresses
(R42, R76, R79, R103, R187). -/
def Obligations.ArmedGroupKeepsItsRecords : Prop :=
  ∀ (s t : State) (g : GroupNo), step s = .next t → armed s g = true → armed t g = true →
    members t g = members s g ∧ (groupAt t g).cfg = (groupAt s g).cfg ∧
      ∀ h ∈ members s g, cfgAt t h = cfgAt s h ∧ addrOfSlot t h = addrOfSlot s h

/-! ## Stop orders -/

/-- The Stop Lane after an admission, by the steps of R131. A HALT ALL is left alone. Otherwise an order of the lane that covers
the admitted one with a kind at least as strong takes its missing slots, the first such order in lane order, and keeps its
place and all else, as every other order does. Otherwise the orders that the admitted one covers and that are no stronger are
removed, every other order keeps its place, and the admitted one enters with every slot its scope names, last of its kind and
every HALT before every HOLD; this takes an order removed or fewer than four orders in the lane, and a full lane collapses
(FullLaneCollapses). ALL covers every scope, another scope itself, and GROUP its members' HOIST scopes. Whatever the step, some
order of the lane then covers the admitted one with a kind at least as strong, and will send to every slot it names (R46, R129,
R130, R131, R132, R133). -/
def Obligations.LaneTakesAdmittedOrder : Prop :=
  (∀ (s : State) (x y : Scope), scopeCovers s x y = true ↔
    x = .all ∨ x = y ∨ ∃ g h, x = .group g ∧ y = .hoist h ∧ h ∈ members s g) ∧
  (∀ k j : StopKind, atLeastAsStrong k j = true ↔ k = .halt ∨ j = .hold) ∧
  (∀ (s : State) (o : StopIssue),
    let slots : List Slot := match o.scope with
      | .hoist h => [h]
      | .group g => members s g
      | .all => []
      | .raw _ => []
    let entering : StopOrder := { kind := o.kind, scope := o.scope, pendingList := slots, origin := o.origin,
                                  relatedSeq := o.relatedSeq, cause := o.cause }
    let absorbs : StopOrder → Prop := fun x =>
      scopeCovers s x.scope o.scope = true ∧ atLeastAsStrong x.kind o.kind = true
    let isReplaced : StopOrder → Bool := fun x => scopeCovers s o.scope x.scope && atLeastAsStrong o.kind x.kind
    let kept := s.lane.filter fun x => !isReplaced x
    (o.kind = .halt → o.scope = .all → (admitStop s o).lane = [entering]) ∧
    (¬(o.kind = .halt ∧ o.scope = .all) →
      (∀ before x behind, s.lane = before ++ x :: behind → absorbs x → (∀ y ∈ before, ¬absorbs y) →
        (admitStop s o).lane = before ++ { x with
          pendingList := if namesSlots x.scope = true then (List.finRange 64).filter (fun h => h ∈ x.pendingList ∨ h ∈ slots)
            else x.pendingList } :: behind) ∧
      ((∀ x ∈ s.lane, ¬absorbs x) → (∃ x ∈ s.lane, isReplaced x = true) ∨ s.lane.length < 4 →
        (admitStop s o).lane = if o.kind = .halt then
            kept.filter (fun x => x.kind == .halt) ++ entering :: kept.filter (fun x => x.kind == .hold)
          else kept ++ [entering]))) ∧
  ∀ (s : State) (o : StopIssue), ∃ x ∈ (admitStop s o).lane,
    scopeCovers (admitStop s o) x.scope o.scope = true ∧ atLeastAsStrong x.kind o.kind = true ∧
      (namesSlots x.scope = true → ∀ h ∈ scopeSlots s o.scope, h ∈ x.pendingList)

/-- A stop order that is issued on one member of an armed group stops the whole truss: it leaves the group HOLDING or
TRIPPED, and no member of it READY or MOVING; a HALT leaves the group and every member TRIPPED (R10, R21, R81, R98). -/
def Obligations.StopOnMemberStopsTruss : Prop :=
  ∀ (s : State) (o : StopIssue) (h : Slot) (g : GroupNo), o.scope = .hoist h → armedGroupOf s h = some g →
    ((groupAt (issueStop s o) g).live.state = .holding ∨ (groupAt (issueStop s o) g).live.state = .tripped) ∧
    (∀ m ∈ members s g, (liveAt (issueStop s o) m).state ≠ .ready ∧ (liveAt (issueStop s o) m).state ≠ .moving) ∧
    (o.kind = .halt → (groupAt (issueStop s o) g).live.state = .tripped ∧
      ∀ m ∈ members s g, (liveAt (issueStop s o) m).state = .tripped)

/-- The admission of a stop order removes exactly the MOVEs it reaches from the Motion Queue and from NEXT, by the rows of
R135: by their slot for HOIST and GROUP, by the Kind for ALL, pass-through MOVEs with them, and by Kind and Dest for RAW; a
collapse reaches every MOVE. Every other entry stays where it is, and so no granted or batch MOVE for a covered hoist is left
in either place. But for these two, the lane, the hoists, the groups with their pending batches, the Cause Record and the
notices, the admission changes nothing: no POLL of the Poll Promote Queue, no frame on a wire, no counter (R133, R134, R135). -/
def Obligations.PurgeLeavesNoCoveredMove : Prop :=
  ∀ (s : State) (o : StopIssue),
    let isMove : Entry → Bool := fun e => e.frame.kind == 0x21#8
    let reached : Entry → Bool := fun e =>
      match o.scope with
      | .hoist h => moveSlot e == some h
      | .group g => (members s g).any fun h => moveSlot e == some h
      | .all => isMove e
      | .raw a => isMove e && e.frame.dest == a
    let gone : Entry → Bool := fun e => reached e || ((laneAfter s o).isNone && isMove e)
    (admitStop s o).motionQueue = s.motionQueue.filter (fun e => !gone e) ∧
    (∀ e, s.nextFrame = some e → (admitStop s o).nextFrame = if gone e = true then none else some e) ∧
    (s.nextFrame = none → (admitStop s o).nextFrame = none) ∧
    { admitStop s o with lane := s.lane, hoists := s.hoists, groups := s.groups, internalBatches := s.internalBatches,
                         motionQueue := s.motionQueue, nextFrame := s.nextFrame, causeRecord := s.causeRecord,
                         notices := s.notices } = s ∧
    (admitStop s o).onWire = s.onWire ∧ (admitStop s o).pollPromote = s.pollPromote ∧
    (∀ e, e ∈ (admitStop s o).motionQueue ∨ (admitStop s o).nextFrame = some e → e.frame.kind = 0x21#8 →
      ∀ h, isMoveFor e h → coversHoist s o.scope h = false) ∧
    (∀ e ∈ s.motionQueue, e.frame.kind ≠ 0x21#8 → moveSlot e = none → e ∈ (admitStop s o).motionQueue)

/-- The admission of a stop order that does not collapse the lane changes the state of each Present hoist it covers by the
table of R10, and its Last Stop Cause when the order is recorded; every other field and every other hoist is unchanged
(R10, R134). -/
def Obligations.AdmissionActsOnHoists : Prop :=
  ∀ (s : State) (o : StopIssue), laneAfter s o ≠ none → ∀ h,
    hoistAt (admitStop s o) h =
      if coversHoist s o.scope h = true then
        { hoistAt s h with live := { liveAt s h with
            state := hoistUnderStop o.kind (liveAt s h).state
            lastStopCause := if o.cause = none then (liveAt s h).lastStopCause else o.cause } }
      else hoistAt s h

/-- The admission of a stop order that does not collapse the lane acts on each armed group it covers by the tables of R81
and R82: state, wave, track, streak and cause; every other field and every other group is unchanged, and the pending
internal batches of the armed groups it covers, and those alone, are cancelled (R81, R82, R99, R125). -/
def Obligations.AdmissionActsOnGroups : Prop :=
  ∀ (s : State) (o : StopIssue), laneAfter s o ≠ none →
    (∀ g, groupAt (admitStop s o) g =
      if coversGroup o.scope g = true ∧ (groupAt s g).live.state ≠ .parked then
        { groupAt s g with live := { (groupAt s g).live with
            state := groupUnderStop o.kind (groupAt s g).live.state
            wave := none, track := none, cleanStreak := 0
            tripCause := if o.cause = none then (groupAt s g).live.tripCause else o.cause } }
      else groupAt s g) ∧
    ∀ b, b ∈ (admitStop s o).internalBatches ↔
      b ∈ s.internalBatches ∧ ¬(coversGroup o.scope (batchGroup b) = true ∧ armed s (batchGroup b) = true)

/-- A stop order that must enter a full lane collapses it: one HALT ALL of the part with cause STOP_OVERFLOW is left in the
lane, every Present hoist is TRIPPED with that Last Stop Cause, every armed group is TRIPPED with that Trip Cause, and no
MOVE is left in the Motion Queue or in NEXT; an absent hoist and a PARKED group keep their state. The Cause Record takes the
order's own cause first and STOP_OVERFLOW, without a Hoist and a Group, after it; of notices the order raises its own, when
it is the part's, and the collapse STOP_OVERFLOW but no TRIP (R131 step 5, R133, R134, R171). -/
def Obligations.FullLaneCollapses : Prop :=
  ∀ (s : State) (o : StopIssue), s.lane.length = 4 → ¬(o.kind = .halt ∧ o.scope = .all) →
    (∀ x ∈ s.lane, scopeCovers s x.scope o.scope = true → atLeastAsStrong x.kind o.kind = false) →
    (∀ x ∈ s.lane, scopeCovers s o.scope x.scope = true → atLeastAsStrong o.kind x.kind = false) →
    let t := admitStop s o
    let group := match o.scope with | .group g => some g | _ => none
    let own : State := match o.origin with
      | .console _ _ => s
      | .part => raiseNotice s (if o.kind = .halt then .trip else .hold)
          { hoist := o.hoist, group := group, code := match o.cause with | some c => causeCode c | none => 0x00#8,
            detail := 0x00#8, relatedSeq := o.relatedSeq }
    t.lane = [{ kind := .halt, scope := .all, pendingList := [], origin := .part, relatedSeq := o.relatedSeq,
                cause := some .stopOverflow }] ∧
    (∀ h, (cfgAt s h).present = true →
      (liveAt t h).state = .tripped ∧ (liveAt t h).lastStopCause = some .stopOverflow) ∧
    (∀ h, (cfgAt s h).present = false → hoistAt t h = hoistAt s h) ∧
    (∀ g, armed s g = true →
      (groupAt t g).live.state = .tripped ∧ (groupAt t g).live.tripCause = some .stopOverflow) ∧
    (∀ g, armed s g = false → groupAt t g = groupAt s g) ∧
    (∀ e, e ∈ t.motionQueue ∨ t.nextFrame = some e → e.frame.kind ≠ 0x21#8) ∧
    (s.causeRecord = none → o.cause = none → t.causeRecord = some
      { first := .stopOverflow, time := s.lineClock, hoist := none, group := none, filterHits := none, capture := none,
        later := [] }) ∧
    (s.causeRecord = none → ∀ c, o.cause = some c → t.causeRecord = some
      { first := c, time := s.lineClock, hoist := o.hoist, group := group,
        filterHits := if c = .filter then o.hits else none, capture := o.capture, later := [.stopOverflow] }) ∧
    (∀ r, s.causeRecord = some r → ∃ later, t.causeRecord = some { r with later := later } ∧
      ∀ c, c ∈ later ↔ c = .stopOverflow ∨ o.cause = some c ∨ c ∈ r.later) ∧
    t.notices = (raiseNotice own .stopOverflow
      { hoist := none, group := none, code := 0x0D#8, detail := stopKindByte o.kind,
        relatedSeq := o.relatedSeq }).notices

/-- A raise at level 0 is ignored; at level 1..7 the source becomes pending with the new payload and the Line Clock, with
Repeat set exactly when it was pending already; no other source and no other state is touched (R175). -/
def Obligations.NoticeRaiseKeepsLatest : Prop :=
  ∀ (s : State) (src : NoticeSource) (p : NoticePayload),
    (noticeLevel s (sourceIndex src) = 0 → raiseNotice s src p = s) ∧
    (noticeLevel s (sourceIndex src) ≠ 0 →
      (raiseNotice s src p).notices.get (sourceIndex src) =
        some { repeated := (s.notices.get (sourceIndex src)).isSome, hoist := p.hoist, group := p.group, code := p.code,
               detail := p.detail, relatedSeq := p.relatedSeq, time := s.lineClock } ∧
      (∀ i, i ≠ sourceIndex src → (raiseNotice s src p).notices.get i = s.notices.get i) ∧
      { raiseNotice s src p with notices := s.notices } = s)

/-! ## Frames and records as bytes -/

/-- The content that the part sends for a frame is Kind, Dest, Src, Seq and Len, the fields of two bytes with the most
significant first, then the payload and the Check over all of these. The Check starts at 0xFFFF, and each byte is combined
with its high half and shifted through eight times, with 0x1021 combined in where a 1 leaves at the top. That content is
received as that frame, and only such content is received (R23, R24, R34, R36). -/
def Obligations.FrameContentRoundTrip : Prop :=
  (∀ f : Frame, f.payload.length ≤ 40 →
    let checked := [f.kind, f.dest.extractLsb' 8 8, f.dest.extractLsb' 0 8, f.src.extractLsb' 8 8, f.src.extractLsb' 0 8,
      f.seq, BitVec.ofNat 8 f.payload.length] ++ f.payload
    frameContent f = checked ++ [(crc checked).extractLsb' 8 8, (crc checked).extractLsb' 0 8]) ∧
  crc [] = 0xFFFF#16 ∧
  (∀ (bs : List Byte) (b : Byte),
    let shift : BitVec 16 → BitVec 16 := fun r => if r.getLsbD 15 = true then (r <<< 1) ^^^ 0x1021#16 else r <<< 1
    crc (bs ++ [b]) = (List.range 8).foldl (fun r _ => shift r) (crc bs ^^^ (b ++ 0x00#8))) ∧
  (∀ f : Frame, f.payload.length ≤ 40 → receive (frameContent f) = .ok f) ∧
  ∀ (bytes : List Byte) (f : Frame), receive bytes = .ok f → bytes = frameContent f ∧ f.payload.length ≤ 40

/-- A frame that fails a reception check is discarded at its port and raises LINE_ERROR with the port as Code and the first
failing check as Detail; nothing else changes. A frame that passes all four is received (R34). -/
def Obligations.ReceptionErrorRaisesLineError : Prop :=
  ∀ (bytes : List Byte) (s : State) (len : Nat), len = (bytes.getD 6 0x00#8).toNat →
    let failed : Option Byte :=
      if bytes.length < 7 then some 3#8
      else if 40 < len then some 2#8
      else if bytes.length ≠ 9 + len then some 3#8
      else if crc (bytes.take (7 + len)) ≠ bytes.getD (7 + len) 0x00#8 ++ bytes.getD (8 + len) 0x00#8 then some 1#8
      else none
    (∀ d, failed = some d →
      exec (.uPortArrival bytes) s = .next (finish (raiseNotice s .lineError
        { hoist := none, group := none, code := 1#8, detail := d, relatedSeq := 0x00#8 })) ∧
      exec (.dPortArrival bytes) s = .next (finish (raiseNotice s .lineError
        { hoist := none, group := none, code := 2#8, detail := d, relatedSeq := 0x00#8 }))) ∧
    (failed = none → ∃ f, receive bytes = .ok f)

/-- A record written from its own bytes is the same record: for every table, decoding the fields of a record whose values
lie in their ranges gives the record back, so that no field's bytes are dropped or crossed (R186, R194). -/
def Obligations.RecordFieldsRoundTrip : Prop :=
  (∀ c : HoistConfig, c.softLow ≤ 65000 → c.softHigh ≤ 65000 → c.speedCeiling ≤ 600 → c.underLimit ≤ 7998 →
    c.derateStart ≤ 7999 → c.overLimit ≤ 8000 → c.weight ≤ 1024 → -2000 ≤ c.offset → c.offset ≤ 2000 →
    hoistOfFields (hoistFields c) = c) ∧
  (∀ c : GroupConfig, c.speedCeiling ≤ 600 → c.skewWarn ≤ 2000 → c.skewLimit ≤ 4000 → c.shareWarn ≤ 1023 →
    c.shareTolerance ≤ 1024 → c.shareFloor ≤ 64000 → c.underLimit ≤ 7998 → c.derateStart ≤ 7999 →
    c.overLimit ≤ 8000 → groupOfFields (groupFields c) = c) ∧
  (∀ e : MapEntry, e.spanExp ≤ 6 → mapOfFields (mapFields e) = e) ∧
  (∀ t : Filter, t.offset ≤ 46 → filterOfFields (filterFields t) = t) ∧
  (∀ d : TrackStep, d.base ≤ 65000 → d.speed ≤ 600 → d.dwell ≤ 60000 → trackOfFields (trackFields d) = d) ∧
  (∀ c : LineConfig, c.sweepInterval ≤ 1000 → c.pollTimeout ≤ 200 → c.ageLimit ≤ 2000 → c.silenceLimit ≤ 5000 →
    c.arrivalWindow ≤ 50 → (∀ i, c.noticeLevels.get i ≤ 7) → lineOfFields (lineFields c) = c)

/-! ## Arrivals -/

/-- The Classifier routes each frame by its kind, length and Dest as the outcome table of R44 lists. -/
def Obligations.ClassifierRoutesByKindAndDest : Prop :=
  ∀ f : Frame,
    (f.kind = 0x23#8 → classOf f = .stop .hold) ∧
    (f.kind = 0x24#8 → classOf f = .stop .halt) ∧
    (f.kind ≠ 0x23#8 → f.kind ≠ 0x24#8 →
      (0xF010 ≤ f.dest.toNat ∧ f.dest.toNat ≤ 0xFFFD → classOf f = .passThrough) ∧
      (f.kind ∉ [0x21#8, 0x22#8, 0x25#8, 0x26#8, 0x27#8, 0x2E#8] → classOf f = .passThrough) ∧
      (¬(0xF010 ≤ f.dest.toNat ∧ f.dest.toNat ≤ 0xFFFD) →
        (f.kind = 0x21#8 ∨ f.kind = 0x22#8 → f.payload.length ≠ 5 → classOf f = .refused .malformed) ∧
        (f.kind = 0x25#8 ∨ f.kind = 0x26#8 → f.payload.length ≠ 0 → classOf f = .refused .malformed) ∧
        (f.kind = 0x2E#8 → f.payload.length < 9 ∨ 40 < f.payload.length → classOf f = .refused .malformed) ∧
        (f.kind = 0x21#8 → f.payload.length = 5 →
          classOf f = if 1 ≤ f.dest.toNat ∧ f.dest.toNat ≤ 0xEFFF then .move else .refused .badDest) ∧
        (f.kind = 0x25#8 → f.payload.length = 0 →
          classOf f = if 1 ≤ f.dest.toNat ∧ f.dest.toNat ≤ 0xEFFF then .poll else .refused .badDest) ∧
        (f.kind = 0x27#8 → classOf f = if f.dest = 0xFFFE#16 then .beat else .refused .badDest) ∧
        (f.kind = 0x2E#8 → 9 ≤ f.payload.length → f.payload.length ≤ 40 →
          classOf f = if f.dest = 0xFFFE#16 then .mgmt else .refused .badDest) ∧
        (f.kind = 0x22#8 → f.payload.length = 5 →
          (∀ g : GroupNo, f.dest = 0xF000#16 + BitVec.ofNat 16 g.val → classOf f = .gmove g) ∧
          ((∀ g : GroupNo, f.dest ≠ 0xF000#16 + BitVec.ofNat 16 g.val) → classOf f = .refused .badDest)) ∧
        (f.kind = 0x26#8 → f.payload.length = 0 →
          (∀ g : GroupNo, f.dest = 0xF000#16 + BitVec.ofNat 16 g.val → classOf f = .go g) ∧
          ((∀ g : GroupNo, f.dest ≠ 0xF000#16 + BitVec.ofNat 16 g.val) → classOf f = .refused .badDest))))

/-- U_PORT_ARRIVAL reloads the Silence Timer and passes the Filter Bank. A frame that a filter drops goes no further; any other
reaches the Classifier, as the Filter Bank has left the state: one that waits joins the Intake tail with the current epoch,
and is lost with INTAKE_LOSS when eight frames are held; one refused at classification raises REFUSE; a BEAT is consumed.
Nothing else changes. The notices name the slot that the Dest maps to with its group, and a hoist that is not Present has no
group (R7, R35, R44, R45, R47, R156, R164, R166). -/
def Obligations.UPortFrameIsRouted : Prop :=
  ∀ (s : State) (f : Frame), f.payload.length ≤ 40 →
    let reloaded : State := { s with silence := { s.silence with state := .running, count := 0, lastSeq := f.seq } }
    let filtered := filterBank reloaded f .down
    let leaves : State → Prop := fun u => exec (.uPortArrival (frameContent f)) s = .next (finish u)
    let hoist := slotOfAddr s f.dest
    let group : Option GroupNo :=
      if 0xF000 ≤ f.dest.toNat ∧ f.dest.toNat ≤ 0xF00F then some (Fin.ofNat 16 (f.dest.toNat - 0xF000))
      else hoist.bind (ownGroup s)
    let waits := classOf f = .passThrough ∨ classOf f = .move ∨ (∃ g, classOf f = .gmove g) ∨ (∃ g, classOf f = .go g) ∨
      classOf f = .poll ∨ classOf f = .mgmt
    (NoFilterEnabled s → filtered = reloaded) ∧
    filtered.intake = s.intake ∧ filtered.silence = reloaded.silence ∧
    (IsDroppedBy s f .down → leaves filtered) ∧
    (¬IsDroppedBy s f .down →
      (waits → s.intake.length < 8 →
        leaves { filtered with intake := s.intake ++ [{ frame := f, epoch := s.silence.epoch }] }) ∧
      (waits → 8 ≤ s.intake.length → leaves (raiseNotice filtered .intakeLoss
        { hoist := hoist, group := group, code := 0x00#8, detail := f.kind, relatedSeq := f.seq })) ∧
      (∀ r, classOf f = .refused r → leaves (raiseNotice filtered .refuse
        { hoist := hoist, group := group, code := reasonCode r, detail := f.kind, relatedSeq := f.seq })) ∧
      (classOf f = .beat → leaves filtered))

/-- U_PORT_ARRIVAL of a HOLD or HALT: the Silence Timer is reloaded, the Filter Bank takes its actions and never drops the
frame, and then a stop order of the scope that the Dest gives is issued at once, with the frame's Src and Seq; a HALT carries
the cause CONSOLE_HALT and a capture (R35, R46, R64, R66, R164, R166). -/
def Obligations.ConsoleStopIsAdmitted : Prop :=
  ∀ (s : State) (f : Frame), f.payload.length ≤ 40 → f.kind = 0x23#8 ∨ f.kind = 0x24#8 →
    let reloaded : State := { s with silence := { s.silence with state := .running, count := 0, lastSeq := f.seq } }
    let filtered := filterBank reloaded f .down
    let scope : Scope :=
      if f.dest = 0xFFFF#16 ∨ f.dest = 0xFFFE#16 then .all
      else if 0xF000 ≤ f.dest.toNat ∧ f.dest.toNat ≤ 0xF00F then .group (Fin.ofNat 16 (f.dest.toNat - 0xF000))
      else match slotOfAddr s f.dest with
        | some h => .hoist h
        | none => .raw f.dest
    (NoFilterEnabled s → filtered = reloaded) ∧
    exec (.uPortArrival (frameContent f)) s = .next (finish (issueStop filtered
      { kind := if f.kind = 0x24#8 then .halt else .hold
        scope := scope
        origin := .console f.src f.seq
        relatedSeq := f.seq
        cause := if f.kind = 0x24#8 then some .consoleHalt else none
        hoist := if 0xF000 ≤ f.dest.toNat then none else slotOfAddr s f.dest
        hits := none
        capture := if f.kind = 0x24#8 then some ((frameContent f).take 32) else none }))

/-- A filter matches a frame exactly when it is enabled for the frame's direction, its Kind agrees, every selected byte lies
within bytes 0 to 6 + Len, and the CRC of the selected bytes in increasing position is its Expected value. The filters that
match are the hit set: their stop actions are admitted one after another in increasing number, each with the whole hit set
and with the capture when its Capture is yes, and then FILTER is raised once for the lowest MARK or DROP filter; an empty hit
set does nothing (R162, R163, R164, R165, R168). FILTER names the group of the issuing hoist, and a hoist that is not Present
has none (R7). That a HOLD or HALT under DROP is reported as not dropped upstream too is log entry 14. -/
def Obligations.FiltersMatchAndAct : Prop :=
  (∀ (t : Filter) (f : Frame) (d : Direction),
    filterMatches t f d = true ↔
      t.enabled = true ∧
      (t.direction = .both ∨ (t.direction = .down ∧ d = .down) ∨ (t.direction = .up ∧ d = .up)) ∧
      (t.kindMatch = true → f.kind = t.kind) ∧
      (∀ j : Fin 32, t.mask.getLsbD j.val = true → t.offset + j.val < (frameHead f).length) ∧
      crc ((List.finRange 32).filterMap fun j =>
        if t.mask.getLsbD j.val then some ((frameHead f).getD (t.offset + j.val) 0x00#8) else none) = t.expected) ∧
  ∀ (s : State) (f : Frame) (d : Direction),
    let hits := (List.finRange 16).filter fun i => filterMatches (s.filters.get i) f d
    let hoist := slotOfAddr s (if d = .down then f.dest else f.src)
    let act : State → FilterNo → State := fun u i =>
      let t := s.filters.get i
      let admitted : StopKind → Scope → State := fun k sc => admitStop u
        { kind := k, scope := sc, origin := .part, relatedSeq := f.seq, cause := some .filter, hoist := hoist,
          hits := some hits, capture := if t.capture = true then some ((frameContent f).take 32) else none }
      match t.action with
      | .mark => u
      | .drop => u
      | .holdGroup => admitted .hold (.group t.actionGroup)
      | .haltGroup => admitted .halt (.group t.actionGroup)
      | .holdAll => admitted .hold .all
      | .haltAll => admitted .halt .all
    let stopped := hits.foldl act s
    let isMarker : FilterNo → Prop := fun i => (s.filters.get i).action = .mark ∨ (s.filters.get i).action = .drop
    let dropping := hits.any fun i => (s.filters.get i).action == .drop
    (hits = [] → filterBank s f d = s) ∧
    ((∀ i ∈ hits, ¬isMarker i) → filterBank s f d = stopped) ∧
    ∀ i ∈ hits, isMarker i → (∀ j ∈ hits, isMarker j → i ≤ j) → filterBank s f d = raiseNotice stopped .filter
      { hoist := hoist
        group := match hoist.bind (ownGroup s) with
          | some g => some g
          | none =>
            if d = .down ∧ 0xF000 ≤ f.dest.toNat ∧ f.dest.toNat ≤ 0xF00F then
              some (Fin.ofNat 16 (f.dest.toNat - 0xF000)) else none
        code := BitVec.ofNat 8 i.val
        detail := (if d = .down then 0x01#8 else 0x03#8) +
          (if dropping = true ∧ f.kind ≠ 0x23#8 ∧ f.kind ≠ 0x24#8 then 0x01#8 else 0x00#8)
        relatedSeq := f.seq }

/-- D_PORT_ARRIVAL of a frame of a kind other than SAMPLE passes the Filter Bank; unless a filter drops it, it joins the Relay
Queue, or is lost with RELAY_LOSS when sixteen frames are held, with no group for a hoist that is not Present. Nothing else
changes (R7, R26, R35, R164, R167, R180, R181). That an upstream HOLD or HALT which a DROP filter matches is relayed is the
choice of log entry 14. -/
def Obligations.DPortFrameIsRelayed : Prop :=
  ∀ (s : State) (f : Frame), f.payload.length ≤ 40 → f.kind ≠ 0x41#8 →
    let filtered := filterBank s f .up
    let leaves : State → Prop := fun u => exec (.dPortArrival (frameContent f)) s = .next (finish u)
    (NoFilterEnabled s → filtered = s) ∧
    (IsDroppedBy s f .up → leaves filtered) ∧
    (¬IsDroppedBy s f .up →
      (s.relayQueue.length < 16 → leaves { filtered with relayQueue := s.relayQueue ++ [f] }) ∧
      (16 ≤ s.relayQueue.length → leaves (raiseNotice filtered .relayLoss
        { hoist := slotOfAddr s f.src, group := (slotOfAddr s f.src).bind (ownGroup s), code := 0x00#8,
          detail := f.kind, relatedSeq := f.seq })))

/-- D_PORT_ARRIVAL of a SAMPLE: after the Filter Bank, one of Len 6 whose Src maps to a Present hoist is applied to that hoist;
one from elsewhere is not; one of another Len raises REFUSE with MALFORMED. Then it is relayed, unless a filter drops it or it
answers an own poll under SINK. The application stores the reading, runs the drive-state rule and, for a valid reading, the
load rule, and examines the round: a valid reading is stored with Sample Age 0, Fresh yes and Poll Outstanding no, and the
poll timer ended; an invalid one stores FAULT and keeps Position, Load and Fresh. A notice names no group for a hoist that is
not Present (R7, R12, R13, R14, R22, R29, R153, R155, R167, R180). -/
def Obligations.SampleIsAppliedAndRelayed : Prop :=
  (∀ (s : State) (f : Frame), f.kind = 0x41#8 → f.payload.length ≤ 40 →
    let filtered := filterBank s f .up
    let reading : Reading := { position := fieldAt f 0, load := fieldAt f 2, driveCode := payloadByte f 4,
                               tagEcho := payloadByte f 5, seq := f.seq }
    let isKept := IsDroppedBy s f .up ∨
      (f.payload.length = 6 ∧ f.dest = 0xFFFE#16 ∧ s.line.ownSampleRelay = .sink)
    let monitored : State → Prop := fun m =>
      let leaves : State → Prop := fun u => exec (.dPortArrival (frameContent f)) s = .next (finish u)
      (isKept → leaves m) ∧
      (¬isKept → s.relayQueue.length < 16 → leaves { m with relayQueue := s.relayQueue ++ [f] }) ∧
      (¬isKept → 16 ≤ s.relayQueue.length → leaves (raiseNotice m .relayLoss
        { hoist := slotOfAddr s f.src, group := (slotOfAddr s f.src).bind (ownGroup s), code := 0x00#8,
          detail := 0x41#8, relatedSeq := f.seq }))
    (NoFilterEnabled s → filtered = s) ∧
    (f.payload.length ≠ 6 → monitored (raiseNotice filtered .refuse
      { hoist := slotOfAddr s f.dest
        group :=
          if 0xF000 ≤ f.dest.toNat ∧ f.dest.toNat ≤ 0xF00F then some (Fin.ofNat 16 (f.dest.toNat - 0xF000))
          else (slotOfAddr s f.dest).bind (ownGroup s)
        code := 1#8, detail := 0x41#8, relatedSeq := f.seq })) ∧
    (f.payload.length = 6 → (∀ h, slotOfAddr s f.src = some h → (cfgAt s h).present = false) → monitored filtered) ∧
    (f.payload.length = 6 → ∀ h, slotOfAddr s f.src = some h → (cfgAt s h).present = true →
      monitored (applySample filtered h reading) ∧
      ∃ u, exec (.dPortArrival (frameContent f)) s = .next (finish u) ∧
        (liveAt u h).sampleAge = 0 ∧ (liveAt u h).pollOutstanding = false ∧ u.pollTimers.get h = none ∧
        (∀ d, driveStateOf reading.driveCode = some d → reading.position ≤ 65000 → reading.load ≤ 8000 →
          (liveAt u h).position = some reading.position ∧ (liveAt u h).load = some reading.load ∧
          (liveAt u h).driveState = some d) ∧
        (driveStateOf reading.driveCode = none ∨ 65000 < reading.position ∨ 8000 < reading.load →
          (liveAt u h).position = (liveAt s h).position ∧ (liveAt u h).load = (liveAt s h).load ∧
          (liveAt u h).driveState = some .fault))) ∧
  ∀ (s : State) (h : Slot) (r : Reading), ∃ v,
    (∀ k, v.pollTimers.get k = if k = h then none else s.pollTimers.get k) ∧
    { v with hoists := s.hoists, pollTimers := s.pollTimers } = s ∧
    (∀ d, driveStateOf r.driveCode = some d → r.position ≤ 65000 → r.load ≤ 8000 →
      OnlyHoist s v h { hoistAt s h with live := { liveAt s h with
        position := some r.position, load := some r.load, driveState := some d, sampleAge := 0, fresh := true,
        pollOutstanding := false } } ∧
      applySample s h r = examineRound (loadRule (driveStateRule v h r d) h r) h r.seq) ∧
    (driveStateOf r.driveCode = none ∨ 65000 < r.position ∨ 8000 < r.load →
      OnlyHoist s v h { hoistAt s h with live := { liveAt s h with
        driveState := some .fault, sampleAge := 0, pollOutstanding := false } } ∧
      applySample s h r = examineRound (driveStateRule v h r .fault) h r.seq)

/-- Every applied SAMPLE with a valid reading evaluates and stores the Load Condition from the reported load and the
effective limits as they stand at the SAMPLE, by the rows of R18; then, against the state that the drive-state rule has
left, OVER halts a READY, MOVING or HELD hoist with cause OVERLOAD, UNDER holds a MOVING one with cause UNDERLOAD, and every
other condition and state takes no action (R18, R19). -/
def Obligations.LoadConditionFollowsWindow : Prop :=
  ∀ (s : State) (h : Slot) (r : Reading) (d : DriveState), validDrive r = some d →
    let w := effectiveLimits s h
    let condition : LoadCondition :=
      if w.overLimit ≤ r.load then .over
      else if w.derateStart < r.load then .derated
      else if r.load < w.underLimit then .under
      else .normal
    let ruled := driveStateRule (storeReading s h r) h r d
    let kept := changeLive ruled h fun l => { l with loadCondition := condition }
    let st := (liveAt ruled h).state
    let isOver := condition = .over ∧ (st = .ready ∨ st = .moving ∨ st = .held)
    let isUnder := condition = .under ∧ st = .moving
    (liveAt (applySample s h r) h).loadCondition = condition ∧
    (isOver → stateAndLoad (storeReading s h r) h r =
      issueStop kept (partOrder .halt (.hoist h) (some .overload) r.seq (some h))) ∧
    (isUnder → stateAndLoad (storeReading s h r) h r =
      issueStop kept (partOrder .hold (.hoist h) (some .underload) r.seq (some h))) ∧
    (¬isOver → ¬isUnder → stateAndLoad (storeReading s h r) h r = kept)

/-- The drive-state rule on a Present hoist, by the table of R15: HALTED and FAULT issue a HALT from every state but TRIPPED;
IDLE and HELD make an OFFLINE hoist READY, IDLE hands a MOVING one to the arrival rule and HELD makes it HELD; MOVING makes an
OFFLINE hoist READY, leaves a MOVING one, and from every other state is uncommanded motion of a member of an armed group,
which is halted. The states that follow from the orders come with it (R10, R15, R17, R20). -/
def Obligations.DriveStateRuleTable : Prop :=
  ∀ (s : State) (h : Slot) (r : Reading) (d : DriveState), (cfgAt s h).present = true →
    let before := (liveAt s h).state
    let next := driveStateRule s h r d
    let after := (liveAt next h).state
    let halted : State → CauseKind → State := fun u c =>
      issueStop u (partOrder .halt (.hoist h) (some c) r.seq (some h))
    let became : HoistState → State := fun st => changeLive s h fun l => { l with state := st }
    let uncommanded : State → State := fun u => if armedGroupOf s h = none then u else halted u .uncommanded
    (before = .tripped → next = s) ∧
    (before ≠ .tripped → d = .halted → next = halted s .driveHalt) ∧
    (before ≠ .tripped → d = .fault → next = halted s .driveFault) ∧
    (before = .offline → (d = .idle ∨ d = .held → next = became .ready) ∧
      (d = .moving → next = uncommanded (became .ready))) ∧
    (before = .ready ∨ before = .held → (d = .idle ∨ d = .held → next = s) ∧ (d = .moving → next = uncommanded s)) ∧
    (before = .moving → (d = .idle → next = arrivalRule s h r) ∧ (d = .moving → next = s) ∧
      (d = .held → next = became .held)) ∧
    (d = .halted ∨ d = .fault → after = .tripped) ∧
    (before = .offline → (d = .idle ∨ d = .held) ∨ (d = .moving ∧ armedGroupOf s h = none) → after = .ready) ∧
    (before = .ready ∨ before = .held → (d = .idle ∨ d = .held) ∨ (d = .moving ∧ armedGroupOf s h = none) →
      after = before) ∧
    (before = .offline ∨ before = .ready ∨ before = .held → d = .moving → armedGroupOf s h ≠ none → after = .tripped ∧
      ((liveAt next h).lastStopCause = some .uncommanded ∨ (liveAt next h).lastStopCause = some .stopOverflow)) ∧
    (before ≠ .tripped → d = .halted → (liveAt next h).lastStopCause = some .driveHalt ∨
      (liveAt next h).lastStopCause = some .stopOverflow) ∧
    (before ≠ .tripped → d = .fault → (liveAt next h).lastStopCause = some .driveFault ∨
      (liveAt next h).lastStopCause = some .stopOverflow)

/-- The arrival rule on a MOVING hoist that reports IDLE: a report with another tag completes nothing. One with the grant's
tag within the Arrival Window is an arrival: Arrived yes, READY, and a member of an armed group is handed to the examination
of its group. One outside the window is a miss: outside every armed group the hoist becomes READY and MISS is raised, a
member of an armed group issues a HOLD with cause ARRIVAL_MISS (R16). -/
def Obligations.ArrivalOrMiss : Prop :=
  ∀ (s : State) (h : Slot) (r : Reading) (g : Grant), (liveAt s h).grant = some g →
    let near := (r.position : Int) - g.target ≤ s.line.arrivalWindow ∧ (g.target : Int) - r.position ≤ s.line.arrivalWindow
    let arrived := changeLive s h fun l => { l with arrived := true, state := .ready }
    (r.tagEcho ≠ g.tag → arrivalRule s h r = s) ∧
    (r.tagEcho = g.tag → near → ∀ k, armedGroupOf s h = some k → arrivalRule s h r = examineArrival arrived k r.seq) ∧
    (r.tagEcho = g.tag → ¬near → armedGroupOf s h ≠ none →
      arrivalRule s h r = issueStop s (partOrder .hold (.hoist h) (some .arrivalMiss) r.seq (some h))) ∧
    (armedGroupOf s h = none → r.tagEcho = g.tag → near →
      (liveAt (arrivalRule s h r) h) = { liveAt s h with arrived := true, state := .ready } ∧
      (∀ k, k ≠ h → hoistAt (arrivalRule s h r) k = hoistAt s k) ∧
      { arrivalRule s h r with hoists := s.hoists } = s) ∧
    (armedGroupOf s h = none → r.tagEcho = g.tag → ¬near →
      (liveAt (arrivalRule s h r) h) = { liveAt s h with state := .ready } ∧
      (∀ k, k ≠ h → hoistAt (arrivalRule s h r) k = hoistAt s k) ∧
      (arrivalRule s h r).notices = (raiseNotice s .miss
        { hoist := some h, group := ownGroup s h, code := 0x00#8, detail := 0x00#8, relatedSeq := r.seq }).notices ∧
      { arrivalRule s h r with hoists := s.hoists, notices := s.notices } = s)

/-- An examined arrival completes a MOVING or SLOWED group with no track exactly when every member has arrived for the
Batch Tag: it becomes READY with streak 0, a pending wave is discarded and GROUP_READY is raised; otherwise nothing
changes. Of a running track it completes the step: at a descriptor with End yes the track ends, the group is READY and
TRACK_END is raised; at one with End no and a Dwell above 0 the group dwells and keeps its state and streak; either way the
group's own pending batch is cancelled and nothing else changes; at one with End no and Dwell 0 the next step is due at once,
behind the batches that wait, and taken in the same event when none waits and it fits (R84, R97, R122, R123). That it is taken before the load rule of the same SAMPLE is the choice of log entry 24. -/
def Obligations.LastArrivalCompletes : Prop :=
  (∀ (s : State) (g : GroupNo) (seq : Byte), (groupAt s g).live.track = none →
    let complete := inProgress (groupAt s g).live = true ∧ ∀ h ∈ members s g,
      (liveAt s h).arrived = true ∧ (liveAt s h).grant.map (·.tag) = (groupAt s g).live.grant.map (·.tag)
    (¬complete → examineArrival s g seq = s) ∧
    (complete →
      (groupAt (examineArrival s g seq) g) =
        { groupAt s g with live := { (groupAt s g).live with state := .ready, cleanStreak := 0, wave := none } } ∧
      (∀ k, k ≠ g → groupAt (examineArrival s g seq) k = groupAt s k) ∧
      (examineArrival s g seq).notices = (raiseNotice s .groupReady
        { hoist := none, group := some g, code := 0x00#8, detail := 0x00#8, relatedSeq := seq }).notices ∧
      (examineArrival s g seq).internalBatches = s.internalBatches.filter (fun b => batchGroup b != g) ∧
      { examineArrival s g seq with
        groups := s.groups, notices := s.notices, internalBatches := s.internalBatches } = s)) ∧
  ∀ (s : State) (g : GroupNo) (seq : Byte) (tr : Track), (groupAt s g).live.track = some tr →
    let complete := tr.dwell = none ∧ ∀ h ∈ members s g,
      (liveAt s h).arrived = true ∧ (liveAt s h).grant.map (·.tag) = (groupAt s g).live.grant.map (·.tag)
    let d := s.trackPool.get tr.cursor
    let left := s.internalBatches.filter fun b => batchGroup b != g
    let fits := left = [] ∧ s.motionQueue.length + (members s g).length ≤ 32
    (¬complete → examineArrival s g seq = s) ∧
    (complete → d.last = true →
      OnlyGroup s (examineArrival s g seq) g { groupAt s g with live := { (groupAt s g).live with
        state := .ready, cleanStreak := 0, wave := none, track := none } } ∧
      (examineArrival s g seq).notices = (raiseNotice s .trackEnd
        { hoist := none, group := some g, code := 0x00#8, detail := BitVec.ofNat 8 tr.cursor.val,
          relatedSeq := seq }).notices ∧
      { examineArrival s g seq with groups := s.groups, notices := s.notices } = { s with internalBatches := left }) ∧
    (complete → d.last = false → d.dwell ≠ 0 →
      OnlyGroup s (examineArrival s g seq) g { groupAt s g with live := { (groupAt s g).live with
        wave := none, track := some { tr with dwell := some d.dwell } } } ∧
      { examineArrival s g seq with groups := s.groups } = { s with internalBatches := left }) ∧
    (complete → d.last = false → d.dwell = 0 → ∀ cursor : TrackIx, cursor.val = tr.cursor.val + 1 →
      let due : State := { changeGroup s g (fun l =>
          { l with wave := none, track := some { tr with cursor := cursor, dwell := some 0 } }) with
        internalBatches := left ++ [.step g] }
      (¬fits → examineArrival s g seq = due) ∧
      (fits → exec .trackStep due = .next (finish (examineArrival s g seq))))

/-! ## The Group Check -/

/-- The verdict of an evaluation is the worse of its skew part and its share part, each taken from its two limits. The skew is
the greatest less the least Position minus Offset of the members; Dmax is the greatest difference of a member's share from its
Weight; each part names the member at its greatest value, at a tie the one at the lower slot. Shares sum to at most 1024 and
each lies in 0..1024 (R104, R105, R106, R107, R108). -/
def Obligations.VerdictIsWorseOfParts : Prop :=
  (∀ loads : List Nat, 1 ≤ loads.sum →
    (loads.map fun l => l * 1024 / loads.sum).sum ≤ 1024 ∧ ∀ l ∈ loads, l * 1024 / loads.sum ≤ 1024) ∧
  ∀ (s : State) (g : GroupNo) (position load : Slot → Nat) (top bottom : Int),
    (∀ h ∈ members s g, (liveAt s h).position = some (position h) ∧ (liveAt s h).load = some (load h)) →
    let height : Slot → Int := fun h => (position h : Int) - (cfgAt s h).offset
    IsGreatestOf top ((members s g).map height) → IsLeastOf bottom ((members s g).map height) →
    let k := (groupAt s g).cfg
    let total := ((members s g).map load).sum
    let deviation : Slot → Int := fun h =>
      let share : Int := (load h * 1024 / total : Nat)
      max (share - (cfgAt s h).weight) ((cfgAt s h).weight - share)
    let isNamed : Option Slot → (Slot → Int) → Int → Prop := fun named f greatest => ∃ h ∈ members s g,
      named = some h ∧ f h = greatest ∧ ∀ m ∈ members s g, f m = greatest → h ≤ m
    let computed := k.shareFloor ≤ total ∧ 1 ≤ total
    let v := evaluationOf s g
    (v.skew : Int) = top - bottom ∧ isNamed v.skewSlot height top ∧
    (computed → ∃ d, v.dmax = some d ∧ IsGreatestOf (d : Int) ((members s g).map deviation) ∧
      isNamed v.shareSlot deviation d ∧
      (v.verdict = .trip ↔ k.shareTolerance < d) ∧
      (v.verdict = .hold ↔ ¬k.shareTolerance < d ∧ k.skewLimit < top - bottom) ∧
      (v.verdict = .warn ↔
        ¬k.shareTolerance < d ∧ ¬k.skewLimit < top - bottom ∧ (k.skewWarn < top - bottom ∨ k.shareWarn < d)) ∧
      (v.verdict = .clean ↔
        ¬k.shareTolerance < d ∧ ¬k.skewLimit < top - bottom ∧ ¬k.skewWarn < top - bottom ∧ ¬k.shareWarn < d)) ∧
    (¬computed → v.dmax = none ∧
      (v.verdict = .hold ↔ k.skewLimit < top - bottom) ∧
      (v.verdict = .warn ↔ ¬k.skewLimit < top - bottom ∧ k.skewWarn < top - bottom) ∧
      (v.verdict = .clean ↔ ¬k.skewLimit < top - bottom ∧ ¬k.skewWarn < top - bottom))

/-- The round of an applied SAMPLE is evaluated exactly when the reporting hoist is a Fresh member of a group in READY, MOVING,
SLOWED or HOLDING all of whose members are Fresh and below the Age Limit. An evaluation stores its verdict, its skew and its
Dmax and clears every member's Fresh; then TRIP admits a HALT on the group with cause SHARE, and HOLD a HOLD with cause SKEW
but none in HOLDING, each naming its member and the SAMPLE's Seq; WARN raises the notice, slows a MOVING group, with a wave at
half speed and a part tag when it is not dwelling, and sets the streak of a SLOWED one to 0; CLEAN adds one to the streak of a
SLOWED group, and the fourth returns it to MOVING and discards its wave; nothing else changes (R95, R100, R101, R102, R108, R109, R110,
R111, R112). -/
def Obligations.EvaluationStoresAndActs : Prop :=
  (∀ (s : State) (h : Slot) (seq : Byte),
    let evaluates : GroupNo → Prop := fun g =>
      ((groupAt s g).live.state = .ready ∨ (groupAt s g).live.state = .moving ∨ (groupAt s g).live.state = .slowed ∨
        (groupAt s g).live.state = .holding) ∧
      (liveAt s h).fresh = true ∧ ∀ m ∈ members s g, (liveAt s m).fresh = true ∧ (liveAt s m).sampleAge < s.line.ageLimit
    (∀ g, armedGroupOf s h = some g → evaluates g → examineRound s h seq = evaluateGroup s g seq) ∧
    ((∀ g, armedGroupOf s h = some g → ¬evaluates g) → examineRound s h seq = s)) ∧
  ∀ (s : State) (g : GroupNo) (seq : Byte),
    let v := evaluationOf s g
    let t := evaluateGroup s g seq
    let l := (groupAt s g).live
    let k := (groupAt s g).cfg
    let isShare := v.dmax.any fun d => decide (k.shareWarn < d)
    let warned : State → State := fun u => raiseNotice u .warn
      { hoist := if isShare = true then v.shareSlot else v.skewSlot, group := some g
        code := if isShare = true then 4#8 else 3#8
        detail := if isShare = false then 1#8 else if k.skewWarn < v.skew then 3#8 else 2#8
        relatedSeq := seq }
    (∃ u, (∀ h, hoistAt u h = { hoistAt s h with live := { liveAt s h with
        fresh := if h ∈ members s g then false else (liveAt s h).fresh } }) ∧
      OnlyGroup s u g { groupAt s g with live := { l with
        lastVerdict := v.verdict, lastSkew := some v.skew, lastDmax := v.dmax.or l.lastDmax } } ∧
      { u with hoists := s.hoists, groups := s.groups } = s ∧
      (v.verdict = .trip → t = admitStop u (partOrder .halt (.group g) (some .share) seq v.shareSlot)) ∧
      (v.verdict = .hold → l.state ≠ .holding →
        t = admitStop u (partOrder .hold (.group g) (some .skew) seq v.skewSlot)) ∧
      (v.verdict = .hold → l.state = .holding → t = u) ∧
      (v.verdict = .warn → l.state ≠ .moving → l.state ≠ .slowed → t = warned u) ∧
      (v.verdict = .warn → l.state = .slowed → t = changeGroup (warned u) g fun m => { m with cleanStreak := 0 }) ∧
      (v.verdict = .warn → l.state = .moving → isDwelling l = true →
        t = changeGroup (warned u) g fun m => { m with state := .slowed, cleanStreak := 0 }) ∧
      (v.verdict = .warn → l.state = .moving → isDwelling l = false → ∀ gr, l.grant = some gr →
        t = { changeGroup (warned u) g (fun m => { m with
                state := .slowed, cleanStreak := 0, wave := some { tag := s.tagCounter, speed := max (gr.speed / 2) 8 } }) with
              tagCounter := if s.tagCounter = 255#8 then 128#8 else s.tagCounter + 1#8
              internalBatches := s.internalBatches ++ [.wave g] }) ∧
      (v.verdict = .clean → l.state ≠ .slowed → t = u) ∧
      (v.verdict = .clean → l.state = .slowed → l.cleanStreak < 3 →
        t = changeGroup u g fun m => { m with cleanStreak := l.cleanStreak + 1 }) ∧
      (v.verdict = .clean → l.state = .slowed → 3 ≤ l.cleanStreak →
        t = { changeGroup u g (fun m => { m with state := .moving, cleanStreak := 0, wave := none }) with
              internalBatches := s.internalBatches.filter fun b => b != .wave g })) ∧
    (groupAt t g).live.lastVerdict = v.verdict ∧ (groupAt t g).live.lastSkew = some v.skew ∧
    (groupAt t g).live.lastDmax = v.dmax.or l.lastDmax ∧ (∀ h ∈ members s g, (liveAt t h).fresh = false) ∧
    (isChecked l.state = true →
      (v.verdict = .trip → (groupAt t g).live.state = .tripped ∧ ∀ h ∈ members s g, (liveAt t h).state = .tripped) ∧
      (v.verdict = .hold → s.lane.length < 4 → (groupAt t g).live.state = .holding))

/-! ## Moves (chapters Command Gate, Groups and Move Tracks) -/

/-- MOVE that passes the nine checks: the target is clamped to the soft limits, the speed to the derated speed Vd of the
stored load under the effective limits, one MOVE with the granted values and the frame's Dest, Src and Seq joins the Motion
Queue tail, the hoist takes the grant, and CLAMP is raised when a value was changed. Nothing else changes (R50, R54 to
R60). -/
def Obligations.MoveIsGranted : Prop :=
  ∀ (s : State) (f : Frame) (epoch : BitVec 16) (rest : List IntakeEntry) (h : Slot) (load : Nat),
    AtHead s f epoch rest → f.kind = 0x21#8 → f.payload.length = 5 → slotOfAddr s f.dest = some h → RoomFor s 1 →
    LineOpen s epoch → (payloadByte f 4).toNat ≤ 127 → 8 ≤ fieldAt f 2 → (cfgAt s h).present = true →
    (∀ g, (cfgAt s h).group = some g → (groupAt s g).live.state = .parked) → isMovable (liveAt s h).state = true →
    (liveAt s h).loadCondition ≠ .over → (liveAt s h).load = some load →
    let w := effectiveLimits s h
    let tg := min (max (fieldAt f 0) (cfgAt s h).softLow) (cfgAt s h).softHigh
    let vd := if load ≤ w.derateStart then w.ceiling
      else max (w.ceiling * (w.overLimit - load) / (w.overLimit - w.derateStart)) 8
    let vg := min (fieldAt f 2) vd
    ∃ u, exec .move s = .next (finish u) ∧
      u.intake = rest ∧
      u.motionQueue = s.motionQueue ++
        [{ frame := moveTo f.dest f.src f.seq tg vg (payloadByte f 4), role := .granted h }] ∧
      OnlyHoist s u h { hoistAt s h with live := { liveAt s h with
        state := .moving, arrived := false, grant := some { target := tg, speed := vg, tag := payloadByte f 4 } } } ∧
      u.notices = (afterClamp s (tg != fieldAt f 0) (vg != fieldAt f 2) 0x21#8 (some h) (ownGroup s h) f.seq).notices ∧
      { u with intake := s.intake, motionQueue := s.motionQueue, hoists := s.hoists, notices := s.notices } = s

/-- MOVE to an address that maps to no slot, or one that fails a check: it is taken whole, the first failing check in order
names the reason, REFUSE is raised and nothing else changes (R50, R51, R52, R53, R54, R72). A TRIPPED hoist with an OVER load
refuses with TRIPPED, code 6, by R53 and R62, where a row of R63 names OVERLOAD, code 16: log entry 26. That
REFUSE names no group for a hoist that is not Present, R54 being read with R7, is log entry 11. -/
def Obligations.MoveIsRefused : Prop :=
  ∀ (s : State) (f : Frame) (epoch : BitVec 16) (rest : List IntakeEntry),
    AtHead s f epoch rest → f.kind = 0x21#8 → f.payload.length = 5 → 1 ≤ f.dest.toNat → f.dest.toNat ≤ 0xEFFF →
    RoomFor s 1 →
    (slotOfAddr s f.dest = none →
      exec .move s = .next (finish (refusedWith { s with intake := rest } none none 3#8 0x21#8 f.seq))) ∧
    ∀ h, slotOfAddr s f.dest = some h →
      let code : Option Byte :=
        if s.motionEnable = false then some 13#8
        else if s.portMode ≠ .normal then some 14#8
        else if epoch ≠ s.silence.epoch then some 17#8
        else if 127 < (payloadByte f 4).toNat then some 12#8
        else if fieldAt f 2 < 8 then some 11#8
        else if (cfgAt s h).present = false then some 4#8
        else if ((cfgAt s h).group.any fun g => (groupAt s g).live.state != .parked) = true then some 7#8
        else if (liveAt s h).state = .offline then some 5#8
        else if (liveAt s h).state = .tripped then some 6#8
        else if (liveAt s h).loadCondition = .over then some 16#8
        else none
      ∀ c, code = some c → exec .move s = .next (finish
        (refusedWith { s with intake := rest } (some h) (ownGroup s h) c 0x21#8 f.seq))

/-- What a grant gives against what was asked for. The effective limits are the group's for a hoist whose Limit Source is GROUP
and which names a group, and its own otherwise. A target asked for within the soft limits is granted unchanged and one outside
them at the nearer limit. Vd lies between the creep speed and the ceiling and never rises with the load; the granted speed of
a MOVE is at most the speed asked for and Vd, that of a group move at most the speed asked for and every member's Vd, and both
are at least the creep speed. On a base within a group's Lo and Hi every member's target lies within its own soft limits and
keeps its Offset from the base exactly, so that a truss move keeps the shape of the truss (R4, R55, R57, R58, R88, R89). -/
def Obligations.GrantsStayWithinLimits : Prop :=
  (∀ (s : State) (h : Slot),
    let c := cfgAt s h
    (∀ g, c.limitSource = .group → c.group = some g →
      let k := (groupAt s g).cfg
      effectiveLimits s h = { ceiling := k.speedCeiling, underLimit := k.underLimit, derateStart := k.derateStart,
                              overLimit := k.overLimit }) ∧
    (c.limitSource = .own ∨ c.group = none →
      effectiveLimits s h = { ceiling := c.speedCeiling, underLimit := c.underLimit, derateStart := c.derateStart,
                              overLimit := c.overLimit })) ∧
  (∀ (c : HoistConfig) (tq : Nat), c.softLow ≤ c.softHigh →
    (c.softLow ≤ tq → tq ≤ c.softHigh → grantedTarget c tq = tq) ∧ (tq < c.softLow → grantedTarget c tq = c.softLow) ∧
    (c.softHigh < tq → grantedTarget c tq = c.softHigh)) ∧
  (∀ (w : Limits) (load more : Nat), 8 ≤ w.ceiling → w.derateStart < w.overLimit → load ≤ more →
    8 ≤ deratedSpeed w load ∧ deratedSpeed w load ≤ w.ceiling ∧ deratedSpeed w more ≤ deratedSpeed w load) ∧
  (∀ (s : State) (load : Slot → Nat) (vq : Nat), 8 ≤ vq →
    let hasSpeed : Slot → Prop := fun h => (liveAt s h).load = some (load h) ∧ 8 ≤ (effectiveLimits s h).ceiling
    let vd : Slot → Nat := fun h => deratedSpeed (effectiveLimits s h) (load h)
    (∀ h, hasSpeed h → 8 ≤ grantedSpeed s h vq ∧ grantedSpeed s h vq ≤ vq ∧ grantedSpeed s h vq ≤ vd h) ∧
    ∀ g, (∀ h ∈ members s g, hasSpeed h) →
      8 ≤ groupSpeed s g vq ∧ groupSpeed s g vq ≤ vq ∧ ∀ h ∈ members s g, groupSpeed s g vq ≤ vd h) ∧
  ∀ (s : State) (g : GroupNo) (bq : Nat) (lo hi : Int), SpanOf s g lo hi → lo ≤ hi → ∀ h ∈ members s g,
    let target := memberTarget s (groupBase s g bq) h
    (cfgAt s h).softLow ≤ target ∧ target ≤ (cfgAt s h).softHigh ∧
      (target : Int) - (cfgAt s h).offset = groupBase s g bq ∧
      (lo ≤ bq → bq ≤ hi → groupBase s g bq = bq)

/-- GMOVE that passes the ten checks becomes one batch: a MOVE per member in slot order, each with the GMOVE's Src and Seq,
the clamped base plus its Offset, and one speed, halved in SLOWED and in HOLDING after WARN; every member and the group take
the grant, the group leaves READY or HOLDING, the batch serial steps, and CLAMP is raised when the base or speed was
changed. Nothing else changes (R86 to R93). -/
def Obligations.GmoveIsGranted : Prop :=
  ∀ (s : State) (f : Frame) (epoch : BitVec 16) (rest : List IntakeEntry) (g : GroupNo) (addr : Slot → LineAddr)
    (load : Slot → Nat) (lo hi : Int) (vgrp : Nat),
    AtHead s f epoch rest → f.kind = 0x22#8 → f.payload.length = 5 → f.dest = 0xF000#16 + BitVec.ofNat 16 g.val →
    RoomFor s (members s g).length → LineOpen s epoch → (payloadByte f 4).toNat ≤ 127 → 8 ≤ fieldAt f 2 →
    let l := (groupAt s g).live
    (l.state ≠ .parked ∧ l.state ≠ .tripped ∧ ¬(l.state = .holding ∧ l.lastVerdict = .hold)) → l.track = none →
    AddressedBy s g addr → MembersFit s g → SpanOf s g lo hi → lo ≤ hi → SlowestOf s g load (fieldAt f 2) vgrp →
    let base := min (max (fieldAt f 0 : Int) lo) hi
    let halvedGrant := l.state = .slowed ∨ (l.state = .holding ∧ l.lastVerdict = .warn)
    let speed := if halvedGrant then max (vgrp / 2) 8 else vgrp
    let gr : GroupGrant := { base := base, speed := speed, tag := payloadByte f 4 }
    let entries := (members s g).map fun h =>
      ({ frame := moveTo (addr h) f.src f.seq (base + (cfgAt s h).offset).toNat speed (payloadByte f 4)
         role := .batch h s.batchSerial false } : Entry)
    ∃ u, exec .gmove s = .next (finish u) ∧
      u.intake = rest ∧ BatchGranted s u g entries gr ∧
      OnlyGroup s u g { groupAt s g with live := { l with
        grant := some gr
        state := if halvedGrant then .slowed else .moving
        cleanStreak := if l.state = .moving ∨ l.state = .slowed then l.cleanStreak else 0 } } ∧
      u.notices = (afterClamp s (base != (fieldAt f 0 : Int)) (speed != fieldAt f 2) 0x22#8 none (some g) f.seq).notices ∧
      { u with intake := s.intake, motionQueue := s.motionQueue, batchSerial := s.batchSerial, hoists := s.hoists,
               groups := s.groups, notices := s.notices } = s

/-- GMOVE that fails a check: it is taken whole, the first failing check in order names the reason, REFUSE is raised and
nothing else changes (R87). That to a group without members it is taken although a due own POLL claims an entry is log entry
20. -/
def Obligations.GmoveIsRefused : Prop :=
  ∀ (s : State) (f : Frame) (epoch : BitVec 16) (rest : List IntakeEntry) (g : GroupNo),
    AtHead s f epoch rest → f.kind = 0x22#8 → f.payload.length = 5 → f.dest = 0xF000#16 + BitVec.ofNat 16 g.val →
    RoomFor s (members s g).length →
    let l := (groupAt s g).live
    let code : Option Byte :=
      if s.motionEnable = false then some 13#8
      else if s.portMode ≠ .normal then some 14#8
      else if epoch ≠ s.silence.epoch then some 17#8
      else if 127 < (payloadByte f 4).toNat then some 12#8
      else if fieldAt f 2 < 8 then some 11#8
      else if l.state = .parked ∨ l.state = .tripped then some 8#8
      else if l.state = .holding ∧ l.lastVerdict = .hold then some 8#8
      else if l.track ≠ none then some 15#8
      else if ∃ h ∈ members s g, addrOfSlot s h = none ∨ (liveAt s h).state = .offline ∨ (liveAt s h).state = .tripped ∨
        (liveAt s h).loadCondition = .over then some 9#8
      else none
    (∀ c, code = some c →
      exec .gmove s = .next (finish (refusedWith { s with intake := rest } none (some g) c 0x22#8 f.seq))) ∧
    (code = none → ∀ lo hi, SpanOf s g lo hi → hi < lo →
      exec .gmove s = .next (finish (refusedWith { s with intake := rest } none (some g) 10#8 0x22#8 f.seq)))

/-- GO that fails a check raises REFUSE; one that passes them but whose first step fails a member check or the geometry ends
before it begins and raises TRACK_ERROR with the descriptor and the culprit. Nothing else changes (R118, R119, R120,
R124). That to a group without members it is taken although a due own POLL claims an entry is log entry 20. -/
def Obligations.GoIsRefused : Prop :=
  ∀ (s : State) (f : Frame) (epoch : BitVec 16) (rest : List IntakeEntry) (g : GroupNo),
    AtHead s f epoch rest → f.kind = 0x26#8 → f.payload = [] → f.dest = 0xF000#16 + BitVec.ofNat 16 g.val →
    RoomFor s (members s g).length →
    let usable := ∃ start, (groupAt s g).cfg.trackStart = some start ∧
      ∃ j, start ≤ j ∧ (s.trackPool.get j).last = true
    let refusal : Byte → Prop := fun c =>
      exec .go s = .next (finish (refusedWith { s with intake := rest } none (some g) c 0x26#8 f.seq))
    let stepError : TrackIx → Byte → Option Slot → Prop := fun start c h =>
      exec .go s = .next (finish (raiseNotice { s with intake := rest } .trackError
        { hoist := h, group := some g, code := c, detail := BitVec.ofNat 8 start.val, relatedSeq := f.seq }))
    (s.motionEnable = false → refusal 13#8) ∧
    (s.motionEnable = true → s.portMode ≠ .normal → refusal 14#8) ∧
    (s.motionEnable = true → s.portMode = .normal → epoch ≠ s.silence.epoch → refusal 17#8) ∧
    (LineOpen s epoch → (groupAt s g).live.state ≠ .ready → refusal 8#8) ∧
    (LineOpen s epoch → (groupAt s g).live.state = .ready → ¬usable → refusal 18#8) ∧
    (LineOpen s epoch → (groupAt s g).live.state = .ready → usable →
      ∀ start, (groupAt s g).cfg.trackStart = some start →
        (∀ h before after, members s g = before ++ h :: after →
          (addrOfSlot s h = none ∨ (liveAt s h).state = .offline ∨ (liveAt s h).state = .tripped ∨
            (liveAt s h).loadCondition = .over) →
          (∀ k ∈ before, (addrOfSlot s k).isSome = true ∧ isMovable (liveAt s k).state = true ∧
            (liveAt s k).loadCondition ≠ .over) →
          stepError start 9#8 (some h)) ∧
        (MembersFit s g → (∀ h ∈ members s g, (addrOfSlot s h).isSome = true) → ∀ lo hi, SpanOf s g lo hi → hi < lo →
          stepError start 10#8 none))

/-- GO that passes its checks starts the track with the step of the Track Start descriptor: one batch of the part's own with
one Seq per frame and a part tag, a part-tag step, the group MOVING with its Track Cursor and Track Origin, and CLAMP when
the descriptor's base or speed was changed. Nothing else changes (R32, R33, R119, R120, R121). -/
def Obligations.GoStartsTrack : Prop :=
  ∀ (s : State) (f : Frame) (epoch : BitVec 16) (rest : List IntakeEntry) (g : GroupNo) (start last : TrackIx)
    (addr : Slot → LineAddr) (load : Slot → Nat) (lo hi : Int) (vgrp : Nat),
    AtHead s f epoch rest → f.kind = 0x26#8 → f.payload = [] → f.dest = 0xF000#16 + BitVec.ofNat 16 g.val →
    RoomFor s (members s g).length → LineOpen s epoch → (groupAt s g).live.state = .ready →
    (groupAt s g).cfg.trackStart = some start → start ≤ last → (s.trackPool.get last).last = true →
    AddressedBy s g addr → MembersFit s g → SpanOf s g lo hi → lo ≤ hi →
    SlowestOf s g load (s.trackPool.get start).speed vgrp →
    let d := s.trackPool.get start
    let gr : GroupGrant := { base := min (max (d.base : Int) lo) hi, speed := vgrp, tag := s.tagCounter }
    ∃ u, exec .go s = .next (finish u) ∧
      u.intake = rest ∧ BatchGranted s u g (ownBatch s g addr gr) gr ∧
      OnlyGroup s u g { groupAt s g with live := { (groupAt s g).live with
        grant := some gr, state := .moving, cleanStreak := 0
        track := some { cursor := start, dwell := none, originSeq := f.seq, originEpoch := epoch } } } ∧
      u.tagCounter = (if s.tagCounter = 255#8 then 128#8 else s.tagCounter + 1#8) ∧
      u.seqCounter = s.seqCounter + BitVec.ofNat 8 (members s g).length ∧
      u.notices = (afterClamp s (gr.base != (d.base : Int)) (gr.speed != d.speed) 0x26#8 none (some g) f.seq).notices ∧
      { u with intake := s.intake, motionQueue := s.motionQueue, batchSerial := s.batchSerial, hoists := s.hoists,
               groups := s.groups, tagCounter := s.tagCounter, seqCounter := s.seqCounter, notices := s.notices } = s

/-- TRACK_STEP of a due step that fits and passes the GMOVE checks is admitted as GO's first step is, in MOVING at the full
speed and in SLOWED at half; one that fails a check admits a HOLD on the group with cause TRACK_ERROR and raises
TRACK_ERROR with the descriptor and the Related Seq of the GO. Until it fits it is pending (R120, R121, R123, R124, R140); that
the command then leaves the state as it is, is the choice of log entries 8 and 10. -/
def Obligations.TrackStepIsTaken : Prop :=
  ∀ (s : State) (g : GroupNo) (more : List InternalBatch) (tr : Track),
    s.internalBatches = .step g :: more → (groupAt s g).live.track = some tr →
    let l := (groupAt s g).live
    let d := s.trackPool.get tr.cursor
    let left := s.internalBatches.filter fun b => batchGroup b != g
    let fits := s.motionQueue.length + (members s g).length ≤ 32
    let failure : Byte → Option Slot → Prop := fun c h =>
      exec .trackStep s = .next (finish (raiseNotice
        (admitStop { s with internalBatches := left } (partOrder .hold (.group g) (some .trackError) tr.originSeq h)) .trackError
        { hoist := h, group := some g, code := c, detail := BitVec.ofNat 8 tr.cursor.val, relatedSeq := tr.originSeq }))
    (¬fits → exec .trackStep s = .next s) ∧
    (fits →
      (s.motionEnable = false → failure 13#8 none) ∧
      (s.motionEnable = true → s.portMode ≠ .normal → failure 14#8 none) ∧
      (s.motionEnable = true → s.portMode = .normal → tr.originEpoch ≠ s.silence.epoch → failure 17#8 none) ∧
      (LineOpen s tr.originEpoch → inProgress l = true →
        (∀ h before after, members s g = before ++ h :: after →
          (addrOfSlot s h = none ∨ (liveAt s h).state = .offline ∨ (liveAt s h).state = .tripped ∨
            (liveAt s h).loadCondition = .over) →
          (∀ k ∈ before, (addrOfSlot s k).isSome = true ∧ isMovable (liveAt s k).state = true ∧
            (liveAt s k).loadCondition ≠ .over) →
          failure 9#8 (some h)) ∧
        (MembersFit s g → (∀ h ∈ members s g, (addrOfSlot s h).isSome = true) → ∀ lo hi, SpanOf s g lo hi →
          (hi < lo → failure 10#8 none) ∧
          (lo ≤ hi → ∀ (addr : Slot → LineAddr) (load : Slot → Nat) (vgrp : Nat), AddressedBy s g addr →
            SlowestOf s g load d.speed vgrp →
            let speed := if l.state = .slowed then max (vgrp / 2) 8 else vgrp
            let gr : GroupGrant := { base := min (max (d.base : Int) lo) hi, speed := speed, tag := s.tagCounter }
            ∃ u, exec .trackStep s = .next (finish u) ∧
              BatchGranted s u g (ownBatch s g addr gr) gr ∧ u.internalBatches = left ∧
              OnlyGroup s u g { groupAt s g with live := { l with
                grant := some gr, track := some { tr with dwell := none } } } ∧
              u.tagCounter = (if s.tagCounter = 255#8 then 128#8 else s.tagCounter + 1#8) ∧
              u.seqCounter = s.seqCounter + BitVec.ofNat 8 (members s g).length ∧
              u.notices = (afterClamp s (gr.base != (d.base : Int)) (gr.speed != d.speed) 0x26#8 none (some g)
                tr.originSeq).notices ∧
              { u with motionQueue := s.motionQueue, batchSerial := s.batchSerial, hoists := s.hoists,
                       groups := s.groups, internalBatches := s.internalBatches, tagCounter := s.tagCounter,
                       seqCounter := s.seqCounter, notices := s.notices } = s))))

/-- REWRITE_WAVE_ADMISSION of the oldest pending batch, a wave that fits: one MOVE of the part's own per member with the
group's granted base and the wave's speed and tag; the members and the group take that grant, the group keeps its state and
Wave Pending is cleared; no CLAMP. Until it fits it is pending (R96, R140); that the command then leaves the state as it is,
is the choice of log entries 8 and 10. -/
def Obligations.RewriteWaveIsAdmitted : Prop :=
  ∀ (s : State) (g : GroupNo) (more : List InternalBatch) (w : Wave) (old : GroupGrant) (addr : Slot → LineAddr),
    s.internalBatches = .wave g :: more → (groupAt s g).live.wave = some w → (groupAt s g).live.grant = some old →
    AddressedBy s g addr →
    let gr : GroupGrant := { base := old.base, speed := w.speed, tag := w.tag }
    (32 < s.motionQueue.length + (members s g).length → exec .rewriteWaveAdmission s = .next s) ∧
    (s.motionQueue.length + (members s g).length ≤ 32 →
      ∃ u, exec .rewriteWaveAdmission s = .next (finish u) ∧
        BatchGranted s u g (ownBatch s g addr gr) gr ∧
        u.internalBatches = s.internalBatches.filter (fun b => batchGroup b != g) ∧
        OnlyGroup s u g { groupAt s g with live := { (groupAt s g).live with grant := some gr, wave := none } } ∧
        u.seqCounter = s.seqCounter + BitVec.ofNat 8 (members s g).length ∧
        { u with motionQueue := s.motionQueue, batchSerial := s.batchSerial, hoists := s.hoists, groups := s.groups,
                 internalBatches := s.internalBatches, seqCounter := s.seqCounter } = s)

/-! ## Polls, pass-through frames and heads that wait -/

/-- POLL and OWN_POLL: a POLL whose Dest no queued entry has and for which the Poll Promote Queue has room, with no batch
partly sent, joins that queue; another joins the Motion Queue; either way the polled Present hoist is marked. A Present hoist
with a line address is due for an own POLL when its Sample Age has reached the Sweep Interval and none is outstanding: an own
POLL is formed for the first due slot with a place and takes the next Seq, and due own POLLs come before the Intake head. A
POLL without a place waits (R140, R141, R152, R153). That a head waits for its command, and that a command whose event cannot
take place changes nothing, are the choices of log entries 8 and 10. -/
def Obligations.PollsArePlaced : Prop :=
  ∀ s : State,
    let placed : State → Frame → Prop := fun u f =>
      (∀ h, hoistAt u h =
        if slotOfAddr s f.dest = some h ∧ (cfgAt s h).present = true then
          { hoistAt s h with live := { liveAt s h with pollOutstanding := true } }
        else hoistAt s h)
    let passes : LineAddr → Prop := fun a => ∀ e ∈ s.motionQueue, e.frame.dest ≠ a ∧ isBegun e = false
    let promotes : LineAddr → Prop := fun a => s.pollPromote.length < 2 ∧ passes a
    let due : Slot → LineAddr → Prop := fun h a =>
      (cfgAt s h).present = true ∧ addrOfSlot s h = some a ∧ s.line.sweepInterval ≤ (liveAt s h).sampleAge ∧
        (liveAt s h).pollOutstanding = false
    let entry : Frame → Entry := fun f => { frame := f, role := .poll (slotOfAddr s f.dest) }
    (∀ h, isDue s h = true ↔ ∃ a, due h a) ∧
    (duePromotes s = true ↔ ∃ h a, due h a ∧ promotes a) ∧
    (dueClaims s = true ↔ (∃ h a, due h a ∧ ¬passes a) ∨
      2 - s.pollPromote.length < ((List.finRange 64).filter (isDue s)).length) ∧
    (∀ f epoch rest, AtHead s f epoch rest → f.kind = 0x25#8 → f.payload = [] → 1 ≤ f.dest.toNat →
      f.dest.toNat ≤ 0xEFFF →
      (promotes f.dest → duePromotes s = false → ∃ u, exec .poll s = .next (finish u) ∧ placed u f ∧ u.intake = rest ∧
        u.pollPromote = s.pollPromote ++ [entry f] ∧
        { u with intake := s.intake, pollPromote := s.pollPromote, hoists := s.hoists } = s) ∧
      (promotes f.dest → duePromotes s = true → exec .poll s = .next s) ∧
      (¬promotes f.dest → RoomFor s 1 → ∃ u, exec .poll s = .next (finish u) ∧ placed u f ∧ u.intake = rest ∧
        u.motionQueue = s.motionQueue ++ [entry f] ∧
        { u with intake := s.intake, motionQueue := s.motionQueue, hoists := s.hoists } = s) ∧
      (¬promotes f.dest → ¬RoomFor s 1 → exec .poll s = .next s)) ∧
    (∀ h a, due h a →
      (∀ k, k < h → ∀ b, due k b → ¬promotes b ∧ (s.internalBatches ≠ [] ∨ 32 ≤ s.motionQueue.length)) →
      let f : Frame := { kind := 0x25#8, dest := a, src := 0xFFFE#16, seq := s.seqCounter, payload := [] }
      (promotes a → ∃ u, exec .ownPoll s = .next (finish u) ∧ placed u f ∧ u.seqCounter = s.seqCounter + 1#8 ∧
        u.pollPromote = s.pollPromote ++ [entry f] ∧
        { u with seqCounter := s.seqCounter, pollPromote := s.pollPromote, hoists := s.hoists } = s) ∧
      (¬promotes a → s.internalBatches = [] → s.motionQueue.length < 32 →
        ∃ u, exec .ownPoll s = .next (finish u) ∧ placed u f ∧ u.seqCounter = s.seqCounter + 1#8 ∧
        u.motionQueue = s.motionQueue ++ [entry f] ∧
        { u with seqCounter := s.seqCounter, motionQueue := s.motionQueue, hoists := s.hoists } = s)) ∧
    ((∀ h a, due h a → ¬promotes a ∧ (s.internalBatches ≠ [] ∨ 32 ≤ s.motionQueue.length)) →
      exec .ownPoll s = .next s)

/-- A pass-through frame with room joins the Motion Queue tail unchanged. A head waits, and nothing changes, while an
internal batch is pending, its entries are not free or a due own POLL claims one, and an MGMT frame while the Reply Slot is
full; a head is taken by no consumer but its own (R48, R49, R86, R118, R140, R182). That a head waits for its command and that
a command whose head is not taken changes nothing are the choices of log entries 8 and 10; that the GMOVE or GO of a group
without members waits for a pending batch, and for nothing else, is log entry 20. -/
def Obligations.HeadsWaitForRoom : Prop :=
  ∀ (s : State) (f : Frame) (epoch : BitVec 16) (rest : List IntakeEntry), AtHead s f epoch rest →
    (classOf f = .passThrough → RoomFor s 1 →
      exec .passThroughFrame s = .next (finish
        { s with intake := rest, motionQueue := s.motionQueue ++ [{ frame := f, role := .passThrough }] })) ∧
    (s.internalBatches ≠ [] ∨ 32 ≤ s.motionQueue.length ∨ dueClaims s = true →
      exec .move s = .next s ∧ exec .passThroughFrame s = .next s) ∧
    (∀ g, classOf f = .gmove g ∨ classOf f = .go g →
      s.internalBatches ≠ [] ∨ 32 < s.motionQueue.length + (members s g).length ∨
        (members s g ≠ [] ∧ dueClaims s = true) →
      exec .gmove s = .next s ∧ exec .go s = .next s) ∧
    (s.replySlot ≠ none → ∀ c, operationOf c ≠ none → exec c s = .next s) ∧
    (classOf f ≠ .move → exec .move s = .next s) ∧ (classOf f ≠ .poll → exec .poll s = .next s) ∧
    (classOf f ≠ .passThrough → exec .passThroughFrame s = .next s) ∧
    ((∀ g, classOf f ≠ .gmove g) → exec .gmove s = .next s) ∧ ((∀ g, classOf f ≠ .go g) → exec .go s = .next s) ∧
    (classOf f ≠ .mgmt → ∀ c, operationOf c ≠ none → exec c s = .next s)

/-! ## Management frames -/

/-- Every MGMT frame that the Agent takes is answered by exactly one MREPLY, with the frame's Src as Dest, its Seq, and its
Operation and Index copied; a frame refused changes nothing else; one whose Rig Identity differs is refused with WRONG_RIG
whatever it asks for; an Operation outside the codes is refused with MALFORMED; and each operation is carried out by its own
command (R182, R183, R184, R193). That a command changes nothing at a head of another Operation is the choice of log entry
10. -/
def Obligations.MgmtIsAnsweredOnce : Prop :=
  ∀ (c : Instr) (accepts : Byte → Bool), operationOf c = some accepts →
    ∀ (s : State) (f : Frame) (epoch : BitVec 16) (rest : List IntakeEntry), MgmtAtHead s f epoch rest →
    (accepts (mgmtOp f) = false → exec c s = .next s) ∧
    (accepts (mgmtOp f) = true →
      (∀ v, s.rigIdentity = some v → v ≠ mgmtIdentity f →
        exec c s = .next (finish (answeredWith s rest (refusedReply f 28#8 [])))) ∧
      (IdentityPasses s f → c = .mgmtBadOperation →
        exec c s = .next (finish (answeredWith s rest (refusedReply f 1#8 [])))) ∧
      ∃ u reason values, exec c s = .next (finish u) ∧ u.intake = rest ∧
        ((u.replySlot = some { frame := doneReply f values, resets := decide (c = .lineReset) } ∧ reason = 0#8) ∨
         (u.replySlot = some { frame := refusedReply f reason values, resets := false } ∧ reason ≠ 0#8 ∧
           { u with intake := s.intake, replySlot := s.replySlot } = s)))

/-- READ, READ_LIVE and READ_CAUSE return the record named, field by field in the widths and codes of R194, and change nothing;
a table or an index that the operation lacks is refused with BAD_TABLE or BAD_INDEX (R173, R185, R188, R189, R194). That an
absent Filter Hits reads 0xFFFF, as other absent two-byte fields do, is log entry 13. -/
def Obligations.ReadsReturnRecords : Prop :=
  ([HoistState.offline, .ready, .held, .moving, .tripped].map hoistStateCode = [0#8, 1#8, 2#8, 3#8, 4#8] ∧
    [GroupState.parked, .ready, .moving, .slowed, .holding, .tripped].map groupStateCode =
      [0#8, 1#8, 2#8, 3#8, 4#8, 5#8] ∧
    [LoadCondition.unknown, .normal, .under, .derated, .over].map loadConditionCode = [0#8, 1#8, 2#8, 3#8, 4#8] ∧
    [Verdict.none, .clean, .warn, .hold, .trip].map verdictCode = [0#8, 1#8, 2#8, 3#8, 4#8] ∧
    [DriveState.idle, .moving, .held, .halted, .fault].map driveStateCode = [0#8, 1#8, 2#8, 3#8, 4#8] ∧
    [CauseKind.overload, .underload, .skew, .share, .stale, .driveFault, .driveHalt, .uncommanded, .arrivalMiss, .filter,
      .silence, .consoleHalt, .stopOverflow, .trackError].map causeNumber = List.range' 1 14 ∧
    ∀ c, causeCode c = BitVec.ofNat 8 (causeNumber c) ∧ optCauseCode (some c) = causeCode c ∧ optCauseCode none = 0#8) ∧
  ∀ (s : State) (f : Frame) (epoch : BitVec 16) (rest : List IntakeEntry),
    let table := (payloadByte f 5).toNat
    let index := (payloadByte f 6).toNat
    let returned : Instr → List Byte → Prop := fun c values =>
      exec c s = .next (finish (answeredWith s rest (doneReply f values)))
    let refusal : Instr → Byte → Prop := fun c code =>
      exec c s = .next (finish (answeredWith s rest (refusedReply f code [])))
    (MgmtTakes s f epoch rest 0x01#8 →
      (table = 1 → ∀ h : Slot, index = h.val →
        let c := cfgAt s h
        returned .read ([boolByte c.present, groupByte c.group, if c.limitSource = .own then 0x00#8 else 0x01#8]
          ++ twoBytes c.softLow ++ twoBytes c.softHigh ++ twoBytes c.speedCeiling ++ twoBytes c.underLimit
          ++ twoBytes c.derateStart ++ twoBytes c.overLimit ++ twoBytes c.weight
          ++ twoBytes (c.offset % 65536).toNat)) ∧
      (table = 2 → ∀ g : GroupNo, index = g.val →
        let c := (groupAt s g).cfg
        returned .read (twoBytes c.speedCeiling ++ twoBytes c.skewWarn ++ twoBytes c.skewLimit ++ twoBytes c.shareWarn
          ++ twoBytes c.shareTolerance ++ twoBytes c.shareFloor ++ twoBytes c.underLimit ++ twoBytes c.derateStart
          ++ twoBytes c.overLimit
          ++ [match c.trackStart with | some i => BitVec.ofNat 8 i.val | none => 0xFF#8])) ∧
      (table = 3 → ∀ i : MapNo, index = i.val →
        let e := s.addressMap.get i
        returned .read ([boolByte e.enabled] ++ twoBytes e.base.toNat
          ++ [BitVec.ofNat 8 e.spanExp, BitVec.ofNat 8 e.slotBase.val])) ∧
      (table = 4 → ∀ i : FilterNo, index = i.val →
        let t := s.filters.get i
        returned .read ([boolByte t.enabled,
            match t.direction with | .down => 0x00#8 | .up => 0x01#8 | .both => 0x02#8,
            boolByte t.kindMatch, t.kind, BitVec.ofNat 8 t.offset] ++ fourBytes t.mask.toNat
          ++ twoBytes t.expected.toNat
          ++ [match t.action with
              | .mark => 0x00#8 | .drop => 0x01#8 | .holdGroup => 0x02#8 | .haltGroup => 0x03#8
              | .holdAll => 0x04#8 | .haltAll => 0x05#8,
            BitVec.ofNat 8 t.actionGroup.val, boolByte t.capture])) ∧
      (table = 5 → ∀ i : TrackIx, index = i.val →
        let d := s.trackPool.get i
        returned .read (twoBytes d.base ++ twoBytes d.speed ++ twoBytes d.dwell ++ [boolByte d.last])) ∧
      (table = 6 → index = 0 →
        returned .read (twoBytes s.line.sweepInterval ++ [BitVec.ofNat 8 s.line.pollTimeout]
          ++ twoBytes s.line.ageLimit ++ twoBytes s.line.silenceLimit
          ++ [if s.line.silenceAction = .holdAll then 0x00#8 else 0x01#8, BitVec.ofNat 8 s.line.arrivalWindow,
            if s.line.ownSampleRelay = .relay then 0x00#8 else 0x01#8, boolByte s.line.recoverClearsCause]
          ++ (List.finRange 16).map fun i => BitVec.ofNat 8 (s.line.noticeLevels.get i))) ∧
      (table = 6 → index = 1 →
        returned .read ([0x36#8, 0x01#8] ++ fourBytes (s.rigIdentity.getD 0#32).toNat
          ++ [boolByte s.rigIdentity.isSome])) ∧
      (table = 0 ∨ 6 < table → refusal .read 31#8) ∧
      ((table = 1 ∧ 64 ≤ index) ∨ ((table = 2 ∨ table = 3 ∨ table = 4) ∧ 16 ≤ index) ∨ (table = 5 ∧ 128 ≤ index) ∨
        (table = 6 ∧ 2 ≤ index) → refusal .read 32#8)) ∧
    (MgmtTakes s f epoch rest 0x03#8 →
      (table = 1 → ∀ h : Slot, index = h.val →
        let l := liveAt s h
        returned .readLive ([hoistStateCode l.state] ++ twoBytes (l.position.getD 0xFFFF) ++ twoBytes (l.load.getD 0xFFFF)
          ++ [match l.driveState with | some d => driveStateCode d | none => 0xFF#8] ++ twoBytes l.sampleAge
          ++ [loadConditionCode l.loadCondition]
          ++ (match l.grant with
              | some g => twoBytes g.target ++ twoBytes g.speed ++ [g.tag]
              | none => [0xFF#8, 0xFF#8, 0xFF#8, 0xFF#8, 0x00#8])
          ++ [boolByte l.arrived, boolByte l.fresh, boolByte l.pollOutstanding, optCauseCode l.lastStopCause])) ∧
      (table = 2 → ∀ g : GroupNo, index = g.val →
        let l := (groupAt s g).live
        returned .readLive ([groupStateCode l.state, verdictCode l.lastVerdict, BitVec.ofNat 8 l.cleanStreak,
            optCauseCode l.tripCause]
          ++ (match l.grant with
              | some gr => fourBytes (gr.base % 4294967296).toNat ++ twoBytes gr.speed ++ [gr.tag]
              | none => [0x7F#8, 0xFF#8, 0xFF#8, 0xFF#8, 0xFF#8, 0xFF#8, 0x00#8])
          ++ (match l.wave with
              | some w => [0x01#8, w.tag] ++ twoBytes w.speed
              | none => [0x00#8, 0xFF#8, 0xFF#8, 0xFF#8])
          ++ fourBytes (l.lastSkew.getD 0xFFFFFFFF) ++ twoBytes (l.lastDmax.getD 0xFFFF)
          ++ (match l.track with
              | some tr => [BitVec.ofNat 8 tr.cursor.val] ++ twoBytes (tr.dwell.getD 0xFFFF)
              | none => [0xFF#8, 0xFF#8, 0xFF#8])
          ++ [BitVec.ofNat 8 (members s g).length])) ∧
      (table ≠ 1 → table ≠ 2 → refusal .readLive 31#8) ∧
      ((table = 1 ∧ 64 ≤ index) ∨ (table = 2 ∧ 16 ≤ index) → refusal .readLive 32#8)) ∧
    (MgmtTakes s f epoch rest 0x08#8 →
      (index = 0 → s.causeRecord = none → returned .readCause (0x01#8 :: List.replicate 12 0x00#8)) ∧
      (index = 0 → ∀ r, s.causeRecord = some r →
        returned .readCause ([0x00#8, causeCode r.first] ++ fourBytes r.time.toNat ++ [slotByte r.hoist, groupByte r.group]
          ++ (match r.filterHits with
              | some hits => twoBytes (hits.map fun i => 2 ^ i.val).sum
              | none => [0xFF#8, 0xFF#8])
          ++ [BitVec.ofNat 8 (r.capture.getD []).length]
          ++ twoBytes (r.later.map fun c => 2 ^ (causeNumber c - 1)).sum)) ∧
      (index = 1 → returned .readCause
        (match s.causeRecord.bind (·.capture) with
         | some bytes => BitVec.ofNat 8 bytes.length :: bytes
         | none => [0x00#8])) ∧
      (2 ≤ index → refusal .readCause 32#8))

/-- A WRITE whose merged record, the selected fields taken from the Values and the others as they stand, has every field in
its range and order is answered DONE and commits that record whole, with the effects of its chapter: a hoist that leaves the table is reset with its poll timer, and a changed
load window is evaluated again from the stored Load without any order. Of the line record, a changed Poll Timeout ends the
timers at or above it and frees their hoists; a lowered Age Limit makes the hoists it leaves behind stale one after another in
slot order, with their orders and STALE notices, and a lowered Silence Limit expires a RUNNING timer with its order and SILENCE;
when Notice Levels is selected a level of 0 withdraws its notice; nothing else changes. A record that its protection covers is refused with PROTECTED or
TRACK_ACTIVE and nothing changes (R3, R5, R6, R42, R76, R115, R148, R150, R157, R161, R176, R186, R187). That a full group
refuses a record with Present no as well is log entry 15; that the Silence Count is kept at such an expiry, and that the effects of one line WRITE are all taken, in the order poll timers, ages by slot, Silence
Count, notices, are the choices of log entry 7. -/
def Obligations.AcceptedWritesCommit : Prop :=
  ∀ (s : State) (f : Frame) (epoch : BitVec 16) (rest : List IntakeEntry), MgmtTakes s f epoch rest 0x02#8 →
    let table := (payloadByte f 5).toNat
    let index := (payloadByte f 6).toNat
    let merges : List (List Byte) → List (List Byte) → Prop := fun present merged =>
      mergeFields (payloadByte f 7 ++ payloadByte f 8) present (f.payload.drop 9) = some merged
    let answered : State := answeredWith s rest (doneReply f [])
    let refusal : Byte → Prop := fun code =>
      exec .write s = .next (finish (answeredWith s rest (refusedReply f code [])))
    let window : Limits → Nat × Nat × Nat := fun w => (w.underLimit, w.derateStart, w.overLimit)
    (table = 1 → ∀ (h : Slot) (c : HoistConfig), index = h.val → merges (hoistFields (cfgAt s h)) (hoistFields c) →
      c.softLow ≤ c.softHigh → c.softHigh ≤ 65000 → 10 ≤ c.speedCeiling → c.speedCeiling ≤ 600 →
      c.underLimit < c.derateStart → c.derateStart < c.overLimit → c.overLimit ≤ 8000 → c.weight ≤ 1024 →
      -2000 ≤ c.offset → c.offset ≤ 2000 →
      (∀ g, c.group = some g → ((members s g).filter fun k => k != h).length < 16 ∨
        ((cfgAt s h).group = some g ∧ ((cfgAt s h).present = true ∨ c.present = false))) →
      let isLocked := (liveAt s h).state = .moving ∨
        (∃ g, (cfgAt s h).present = true ∧ (cfgAt s h).group = some g ∧ armed s g = true) ∨
        (∃ g, c.present = true ∧ c.group = some g ∧ armed s g = true)
      let live := if (cfgAt s h).present = true ∧ c.present = false then HoistLive.reset else liveAt s h
      (isLocked → refusal 21#8) ∧
      (¬isLocked → ∃ u, exec .write s = .next (finish u) ∧
        OnlyHoist s u h
          { cfg := c
            live :=
              if c.present = true ∧ window (effectiveLimits u h) ≠ window (effectiveLimits s h) then
                { live with loadCondition := match live.load with
                  | some load => loadConditionOf (effectiveLimits u h) load
                  | none => live.loadCondition }
              else live } ∧
        (∀ k, u.pollTimers.get k =
          if k = h ∧ (cfgAt s h).present = true ∧ c.present = false then none else s.pollTimers.get k) ∧
        { u with hoists := s.hoists, pollTimers := s.pollTimers } = answered)) ∧
    (table = 2 → ∀ (g : GroupNo) (c : GroupConfig), index = g.val → merges (groupFields (groupAt s g).cfg) (groupFields c) →
      10 ≤ c.speedCeiling → c.speedCeiling ≤ 600 → 1 ≤ c.skewWarn → c.skewWarn ≤ 2000 → c.skewWarn < c.skewLimit →
      c.skewLimit ≤ 4000 → 1 ≤ c.shareWarn → c.shareWarn < c.shareTolerance → c.shareTolerance ≤ 1024 →
      c.shareFloor ≤ 64000 → c.underLimit < c.derateStart → c.derateStart < c.overLimit → c.overLimit ≤ 8000 →
      let usesGroup : Slot → Prop := fun h =>
        (cfgAt s h).present = true ∧ (cfgAt s h).group = some g ∧ (cfgAt s h).limitSource = .group
      (armed s g = true → refusal 21#8) ∧
      (armed s g = false → ∃ u, exec .write s = .next (finish u) ∧ OnlyGroup s u g { groupAt s g with cfg := c } ∧
        (∀ h, hoistAt u h = { hoistAt s h with
          live :=
            if usesGroup h ∧ window (effectiveLimits u h) ≠ window (effectiveLimits s h) then
              { liveAt s h with loadCondition := match (liveAt s h).load with
                | some load => loadConditionOf (effectiveLimits u h) load
                | none => (liveAt s h).loadCondition }
            else liveAt s h }) ∧
        { u with hoists := s.hoists, groups := s.groups } = answered)) ∧
    (table = 3 → ∀ (i : MapNo) (e : MapEntry), index = i.val → merges (mapFields (s.addressMap.get i)) (mapFields e) →
      1 ≤ e.base.toNat → e.spanExp ≤ 6 → e.base.toNat % 2 ^ e.spanExp = 0 → e.base.toNat + 2 ^ e.spanExp - 1 ≤ 0xEFFF →
      e.slotBase.val + 2 ^ e.spanExp ≤ 64 →
      (∀ j, j ≠ i → e.enabled = true → (s.addressMap.get j).enabled = true →
        (∀ a : LineAddr, ¬(entryHasAddr e a = true ∧ entryHasAddr (s.addressMap.get j) a = true)) ∧
        ∀ n : Nat, ¬((e.slotBase.val ≤ n ∧ n < e.slotBase.val + 2 ^ e.spanExp) ∧
          (s.addressMap.get j).slotBase.val ≤ n ∧
          n < (s.addressMap.get j).slotBase.val + 2 ^ (s.addressMap.get j).spanExp)) →
      let covered : Slot → Prop := fun h =>
        ((s.addressMap.get i).enabled = true ∧ entryHasSlot (s.addressMap.get i) h = true) ∨
        (e.enabled = true ∧ entryHasSlot e h = true)
      let isLocked := ∃ h, covered h ∧ ((liveAt s h).state = .moving ∨
        ∃ g, (cfgAt s h).present = true ∧ (cfgAt s h).group = some g ∧ armed s g = true)
      (isLocked → refusal 21#8) ∧
      (¬isLocked → exec .write s = .next (finish { answered with addressMap := s.addressMap.set i e }))) ∧
    (table = 4 → ∀ (i : FilterNo) (t : Filter), index = i.val → merges (filterFields (s.filters.get i)) (filterFields t) →
      t.offset ≤ 46 → exec .write s = .next (finish { answered with filters := s.filters.set i t })) ∧
    (table = 5 → ∀ (i : TrackIx) (d : TrackStep), index = i.val → merges (trackFields (s.trackPool.get i)) (trackFields d) →
      d.base ≤ 65000 → 10 ≤ d.speed → d.speed ≤ 600 → d.dwell ≤ 60000 →
      ((∃ g, (groupAt s g).live.track ≠ none) → refusal 15#8) ∧
      ((∀ g, (groupAt s g).live.track = none) →
        exec .write s = .next (finish { answered with trackPool := s.trackPool.set i d }))) ∧
    (table = 6 → ∀ c : LineConfig, index = 0 → merges (lineFields s.line) (lineFields c) →
      5 ≤ c.sweepInterval → c.sweepInterval ≤ 1000 → 2 ≤ c.pollTimeout → c.pollTimeout ≤ 200 →
      c.sweepInterval + c.pollTimeout < c.ageLimit → 10 ≤ c.ageLimit → c.ageLimit ≤ 2000 → 50 ≤ c.silenceLimit →
      c.silenceLimit ≤ 5000 → c.arrivalWindow ≤ 50 → (∀ i, c.noticeLevels.get i ≤ 7) →
      let ended : Slot → Bool := fun h =>
        c.pollTimeout != s.line.pollTimeout && (s.pollTimers.get h).any fun n => decide (c.pollTimeout ≤ n)
      let late : List Slot := (List.finRange 64).filter fun h =>
        (cfgAt s h).present && decide ((liveAt s h).sampleAge < s.line.ageLimit) && decide (c.ageLimit ≤ (liveAt s h).sampleAge)
      let expires := c.silenceLimit < s.line.silenceLimit ∧ s.silence.state = .running ∧ c.silenceLimit ≤ s.silence.count
      ∃ t u : State, exec .write s = .next (finish u) ∧
        (∀ h, t.pollTimers.get h = if ended h then none else s.pollTimers.get h) ∧
        (∀ h, hoistAt t h =
          if ended h then { hoistAt s h with live := { liveAt s h with pollOutstanding := false } } else hoistAt s h) ∧
        { t with hoists := s.hoists, pollTimers := s.pollTimers } = { s with intake := rest, line := c } ∧
        (let aged := late.foldl afterStale t
         let v := if expires then afterSilence aged else aged
         (∀ i, u.notices.get i =
           if (payloadByte f 7 ++ payloadByte f 8).getLsbD 8 = true ∧ c.noticeLevels.get i = 0 then none else v.notices.get i) ∧
         { u with notices := s.notices } = { v with notices := s.notices, replySlot := answered.replySlot }) ∧
        u.line = c ∧ u.intake = rest ∧ (∀ h, u.pollTimers.get h = t.pollTimers.get h) ∧
        u.silence = (if expires then { s.silence with state := .expired, epoch := s.silence.epoch + 1#16 } else s.silence) ∧
        (∀ h ∈ late, (liveAt u h).state = .offline ∨ (liveAt u h).state = .tripped) ∧
        (late = [] → ¬expires → u.hoists = t.hoists ∧ { u with hoists := s.hoists, pollTimers := s.pollTimers, notices := s.notices } =
          { answered with line := c }))

/-- The Values of a WRITE go to the selected fields in increasing number, each in its width, and every other field keeps its
bytes; a mask beyond the record or Values of another length are refused with MALFORMED. A merged record that fails the
validation of its table, each table's checks as listed, is refused with the reason and the field number of the first check
that fails, and nothing changes; a table or an index that WRITE lacks is refused with BAD_TABLE or BAD_INDEX (R3, R41, R75,
R115, R148, R161, R184, R186). That a full group refuses a record with Present no as well is log entry 15. -/
def Obligations.WriteFormAndRefusal : Prop :=
  (∀ (mask : BitVec 16) (fields : List (List Byte)) (values : List Byte),
    let selected := (List.range fields.length).filter fun i => mask.getLsbD i
    (∀ raw, mergeFields mask fields values = some raw →
      raw.length = fields.length ∧ (selected.flatMap fun i => raw.getD i []) = values ∧
      ∀ i, i < fields.length → (raw.getD i []).length = (fields.getD i []).length ∧
        (mask.getLsbD i = false → raw.getD i [] = fields.getD i [])) ∧
    (mergeFields mask fields values = none ↔
      (∃ j, fields.length ≤ j ∧ mask.getLsbD j = true) ∨
      values.length ≠ (selected.map fun i => (fields.getD i []).length).sum)) ∧
  ∀ (s : State) (f : Frame) (epoch : BitVec 16) (rest : List IntakeEntry), MgmtTakes s f epoch rest 0x02#8 →
    let table := (payloadByte f 5).toNat
    let index := (payloadByte f 6).toNat
    let refusal : Byte → List Byte → Prop := fun code values =>
      exec .write s = .next (finish (answeredWith s rest (refusedReply f code values)))
    let outside : List (List Byte) → Nat → Nat → Nat → FailedCheck := fun raw i lo hi =>
      (decide (fieldNat raw i < lo ∨ hi < fieldNat raw i), i, 19#8)
    let notAbove : List (List Byte) → Nat → Nat → FailedCheck := fun raw i j =>
      (decide (fieldNat raw i ≤ fieldNat raw j), i, 20#8)
    let checks : List (List Byte) → (List (List Byte) → List FailedCheck) → Prop := fun fields list =>
      let merged := mergeFields (payloadByte f 7 ++ payloadByte f 8) fields (f.payload.drop 9)
      (merged = none → refusal 1#8 []) ∧
      ∀ raw, merged = some raw → ∀ c, (list raw).find? (·.1) = some c → refusal c.2.2 [BitVec.ofNat 8 c.2.1]
    (table = 1 → ∀ h : Slot, index = h.val → checks (hoistFields (cfgAt s h)) fun raw =>
      let n := fieldNat raw
      let g : GroupNo := Fin.ofNat 16 (n 1)
      let isFull := n 1 < 16 ∧ 16 ≤ ((members s g).filter fun k => k != h).length ∧
        ((cfgAt s h).group ≠ some g ∨ ((cfgAt s h).present = false ∧ n 0 = 1))
      [outside raw 0 0 1, (decide (15 < n 1 ∧ n 1 ≠ 255), 1, 19#8), (decide isFull, 1, 23#8), outside raw 2 0 1,
       outside raw 3 0 65000, outside raw 4 0 65000, (decide (n 4 < n 3), 4, 20#8), outside raw 5 10 600,
       outside raw 6 0 7998, outside raw 7 1 7999, notAbove raw 7 6, outside raw 8 2 8000, notAbove raw 8 7,
       outside raw 9 0 1024, (decide (fieldInt raw 10 < -2000 ∨ 2000 < fieldInt raw 10), 10, 19#8)]) ∧
    (table = 2 → ∀ g : GroupNo, index = g.val → checks (groupFields (groupAt s g).cfg) fun raw =>
      [outside raw 0 10 600, outside raw 1 1 2000, outside raw 2 1 4000, notAbove raw 2 1, outside raw 3 1 1023,
       outside raw 4 2 1024, notAbove raw 4 3, outside raw 5 0 64000, outside raw 6 0 7998, outside raw 7 1 7999,
       notAbove raw 7 6, outside raw 8 2 8000, notAbove raw 8 7,
       (decide (127 < fieldNat raw 9 ∧ fieldNat raw 9 ≠ 255), 9, 19#8)]) ∧
    (table = 3 → ∀ i : MapNo, index = i.val → checks (mapFields (s.addressMap.get i)) fun raw =>
      let n := fieldNat raw
      let size := 2 ^ n 2
      let shares : MapEntry → Prop := fun e =>
        (n 1 < e.base.toNat + 2 ^ e.spanExp ∧ e.base.toNat < n 1 + size) ∨
        (n 3 < e.slotBase.val + 2 ^ e.spanExp ∧ e.slotBase.val < n 3 + size)
      let overlaps := n 0 = 1 ∧ ∃ j, j ≠ i ∧ (s.addressMap.get j).enabled = true ∧ shares (s.addressMap.get j)
      [outside raw 0 0 1, outside raw 1 0x0001 0xEFFF, outside raw 2 0 6, (decide (n 1 % size ≠ 0), 2, 19#8),
       (decide (0xEFFF < n 1 + size - 1), 2, 19#8), outside raw 3 0 63, (decide (63 < n 3 + size - 1), 3, 19#8),
       (decide overlaps, 3, 22#8)]) ∧
    (table = 4 → ∀ i : FilterNo, index = i.val → checks (filterFields (s.filters.get i)) fun raw =>
      [outside raw 0 0 1, outside raw 1 0 2, outside raw 2 0 1, outside raw 4 0 46, outside raw 7 0 5,
       outside raw 8 0 15, outside raw 9 0 1]) ∧
    (table = 5 → ∀ i : TrackIx, index = i.val → checks (trackFields (s.trackPool.get i)) fun raw =>
      [outside raw 0 0 65000, outside raw 1 10 600, outside raw 2 0 60000, outside raw 3 0 1]) ∧
    (table = 6 → index = 0 → checks (lineFields s.line) fun raw =>
      [outside raw 0 5 1000, outside raw 1 2 200, outside raw 2 10 2000,
       (decide (fieldNat raw 2 ≤ fieldNat raw 0 + fieldNat raw 1), 2, 20#8), outside raw 3 50 5000, outside raw 4 0 1,
       outside raw 5 0 50, outside raw 6 0 1, outside raw 7 0 1,
       (decide (∃ b ∈ raw.getD 8 [], 7 < b.toNat), 8, 19#8)]) ∧
    (table = 0 ∨ 6 < table → refusal 31#8 []) ∧
    ((table = 1 ∧ 64 ≤ index) ∨ ((table = 2 ∨ table = 3 ∨ table = 4) ∧ 16 ≤ index) ∨ (table = 5 ∧ 128 ≤ index) ∨
      (table = 6 ∧ 1 ≤ index) → refusal 32#8 [])

/-! ## Operations on the rig -/

/-- ARM checks the group in the order of R78 and, accepted, makes it READY with the skew of its members' stored positions and
every other live field at its reset value, every member's Fresh cleared; PARK takes a READY or HOLDING group whose members
stand still back to its reset values, keeping Trip Cause. Everything else is unchanged (R7, R78, R79, R80). -/
def Obligations.GroupsAreArmedAndParked : Prop :=
  ∀ (s : State) (f : Frame) (epoch : BitVec 16) (rest : List IntakeEntry) (op : Byte), MgmtTakes s f epoch rest op →
    let refusal : Instr → Byte → Prop := fun c code =>
      exec c s = .next (finish (answeredWith s rest (refusedReply f code [])))
    (16 ≤ (payloadByte f 6).toNat → (op = 0x04#8 → refusal .arm 32#8) ∧ (op = 0x05#8 → refusal .park 32#8)) ∧
    ∀ g : GroupNo, (payloadByte f 6).toNat = g.val →
      let st := (groupAt s g).live.state
      let ms := members s g
      let ready : Slot → Prop := fun h =>
        ((liveAt s h).state = .ready ∨ (liveAt s h).state = .held) ∧
        ∃ a, addrOfSlot s h = some a ∧
          ∀ e, e ∈ s.motionQueue ∨ s.nextFrame = some e ∨ s.onWire = some e →
            ¬(e.frame.kind = 0x21#8 ∧ e.frame.dest = a)
      let weights := (ms.map fun h => (cfgAt s h).weight).sum
      (op = 0x04#8 →
        (st ≠ .parked → refusal .arm 8#8) ∧
        (st = .parked → (ms.length < 2 ∨ 16 < ms.length) → refusal .arm 24#8) ∧
        (st = .parked → 2 ≤ ms.length → ms.length ≤ 16 →
          ((¬∀ h ∈ ms, ready h) → refusal .arm 9#8) ∧
          ((∀ h ∈ ms, ready h) → weights ≠ 1024 → refusal .arm 25#8) ∧
          ((∀ h ∈ ms, ready h) → weights = 1024 → ∀ (position : Slot → Nat) (hi lo : Int),
            (∀ h ∈ ms, (liveAt s h).position = some (position h)) →
            IsGreatestOf hi (ms.map fun h => (position h : Int) - (cfgAt s h).offset) →
            IsLeastOf lo (ms.map fun h => (position h : Int) - (cfgAt s h).offset) →
            ((groupAt s g).cfg.skewWarn < hi - lo → refusal .arm 26#8) ∧
            (hi - lo ≤ (groupAt s g).cfg.skewWarn → ∃ u, exec .arm s = .next (finish u) ∧
              OnlyGroup s u g { groupAt s g with live :=
                { state := .ready, lastVerdict := .none, cleanStreak := 0, tripCause := none, grant := none, wave := none,
                  lastSkew := some (hi - lo).toNat, lastDmax := none, track := none } } ∧
              (∀ h, hoistAt u h = { hoistAt s h with live := { liveAt s h with
                fresh := if h ∈ ms then false else (liveAt s h).fresh } }) ∧
              { u with hoists := s.hoists, groups := s.groups } = answeredWith s rest (doneReply f []))))) ∧
      (op = 0x05#8 →
        let busy := ∃ h ∈ ms, (liveAt s h).driveState = some .moving
        (st ≠ .ready → st ≠ .holding → refusal .park 8#8) ∧
        (st = .ready ∨ st = .holding → busy → refusal .park 33#8) ∧
        (st = .ready ∨ st = .holding → ¬busy → ∃ u, exec .park s = .next (finish u) ∧
          OnlyGroup s u g { groupAt s g with live :=
            { state := .parked, lastVerdict := .none, cleanStreak := 0, tripCause := (groupAt s g).live.tripCause,
              grant := none, wave := none, lastSkew := none, lastDmax := none, track := none } } ∧
          { u with groups := s.groups } = answeredWith s rest (doneReply f [])))

/-- RECOVER of a hoist, of a group and of all: what it examines must pass the recovery test, and then every examined hoist
becomes READY without a grant and every examined group HOLDING with Last Verdict NONE, all in one event, and the Cause Record
is emptied when Recover Clears Cause is yes; otherwise it is refused and nothing changes (R11, R83, R172, R191). -/
def Obligations.RecoverRestoresWhatPasses : Prop :=
  ∀ (s : State) (f : Frame) (epoch : BitVec 16) (rest : List IntakeEntry), MgmtTakes s f epoch rest 0x06#8 →
    let table := (payloadByte f 5).toNat
    let index := (payloadByte f 6).toNat
    let refusal : Byte → Prop := fun code =>
      exec .recover s = .next (finish (answeredWith s rest (refusedReply f code [])))
    let passes : Slot → Prop := fun h =>
      (liveAt s h).state = .tripped ∧ (liveAt s h).sampleAge < s.line.ageLimit ∧
      ((liveAt s h).driveState = some .idle ∨ (liveAt s h).driveState = some .moving ∨
        (liveAt s h).driveState = some .held)
    let lone : Slot → Prop := fun h =>
      ∀ g, (cfgAt s h).present = true → (cfgAt s h).group = some g → (groupAt s g).live.state = .parked
    let recovered : (Slot → Prop) → (GroupNo → Prop) → Prop := fun isHoist isGroup =>
      ∃ u, exec .recover s = .next (finish u) ∧
        (∀ h, (isHoist h → hoistAt u h = { hoistAt s h with live := { liveAt s h with
            state := .ready, grant := none, arrived := false } }) ∧ (¬isHoist h → hoistAt u h = hoistAt s h)) ∧
        (∀ g, (isGroup g → groupAt u g = { groupAt s g with live := { (groupAt s g).live with
            state := .holding, lastVerdict := .none, cleanStreak := 0, grant := none } }) ∧
          (¬isGroup g → groupAt u g = groupAt s g)) ∧
        u.causeRecord = (if s.line.recoverClearsCause = true then none else s.causeRecord) ∧
        { u with hoists := s.hoists, groups := s.groups, causeRecord := s.causeRecord } =
          answeredWith s rest (doneReply f [])
    (table = 1 → ∀ h : Slot, index = h.val →
      (¬lone h → refusal 7#8) ∧ (lone h → ¬passes h → refusal 30#8) ∧
      (lone h → passes h → recovered (fun k => k = h) (fun _ => False))) ∧
    (table = 2 → ∀ g : GroupNo, index = g.val →
      ((groupAt s g).live.state ≠ .tripped → refusal 8#8) ∧
      ((groupAt s g).live.state = .tripped → (¬∀ h ∈ members s g, passes h) → refusal 30#8) ∧
      ((groupAt s g).live.state = .tripped → (∀ h ∈ members s g, passes h) →
        recovered (fun h => h ∈ members s g) (fun k => k = g))) ∧
    (table = 0 →
      let examined : Slot → Prop := fun h =>
        ((cfgAt s h).present = true ∧ (liveAt s h).state = .tripped ∧ lone h) ∨
        ∃ g, (groupAt s g).live.state = .tripped ∧ h ∈ members s g
      ((∃ h, examined h ∧ ¬passes h) → refusal 30#8) ∧
      ((∀ h, examined h → passes h) → recovered examined (fun g => (groupAt s g).live.state = .tripped))) ∧
    (2 < table → refusal 31#8) ∧
    ((table = 1 ∧ 64 ≤ index) ∨ (table = 2 ∧ 16 ≤ index) → refusal 32#8)

/-- SET_MOTION on enables the line once the Rig Identity is set; off disables it, admits a HOLD ALL without a cause when a
hoist or a group was moving, and ends every track. SET_PORT_MODE changes the D-port Mode: HOLD_ONLY takes a MOVE out of NEXT
with REFUSE, ISOLATE any frame without a notice and is refused with BUSY while a hoist is MOVING; the mode in force changes
nothing (R37, R38, R39, R68, R69, R190). That REFUSE names the slot the queued MOVE carries is log entry 22; that ISOLATE in force
is answered DONE while a hoist is MOVING is log entry 25. -/
def Obligations.MotionAndPortModeAreSet : Prop :=
  ∀ (s : State) (f : Frame) (epoch : BitVec 16) (rest : List IntakeEntry) (op : Byte), MgmtTakes s f epoch rest op →
    let index := (payloadByte f 6).toNat
    let answered : State := answeredWith s rest (doneReply f [])
    let refusal : Instr → Byte → Prop := fun c code =>
      exec c s = .next (finish (answeredWith s rest (refusedReply f code [])))
    let inMotion := (∃ h, (liveAt s h).state = .moving) ∨ ∃ g, inProgress (groupAt s g).live = true
    let ended : State → State := fun t =>
      { t with
        groups := Table.build fun g => { groupAt t g with live := { (groupAt t g).live with track := none } }
        internalBatches := t.internalBatches.filter fun b => match b with | .wave _ => true | .step _ => false
        replySlot := some { frame := doneReply f [], resets := false } }
    let off : State := { s with intake := rest, motionEnable := false }
    (op = 0x0A#8 →
      (index = 1 → s.rigIdentity = none → refusal .setMotion 29#8) ∧
      (index = 1 → s.rigIdentity ≠ none → exec .setMotion s = .next (finish { answered with motionEnable := true })) ∧
      (index = 0 → s.motionEnable = false → exec .setMotion s = .next (finish answered)) ∧
      (index = 0 → s.motionEnable = true → ¬inMotion → exec .setMotion s = .next (finish (ended off))) ∧
      (index = 0 → s.motionEnable = true → inMotion →
        exec .setMotion s = .next (finish (ended (admitStop off (partOrder .hold .all none f.seq none))))) ∧
      (2 ≤ index → refusal .setMotion 32#8)) ∧
    (op = 0x0B#8 →
      (3 ≤ index → refusal .setPortMode 32#8) ∧
      (index = 2 → s.portMode ≠ .isolate → (∃ h, (liveAt s h).state = .moving) → refusal .setPortMode 33#8) ∧
      ∀ m, m = (match index with | 0 => .normal | 1 => .holdOnly | _ => PortMode.isolate) → index ≤ 2 →
        (m = s.portMode → exec .setPortMode s = .next (finish answered)) ∧
        (m ≠ s.portMode → (m = .isolate → ∀ h, (liveAt s h).state ≠ .moving) →
          (s.nextFrame = none ∨ m = .normal ∨ (m = .holdOnly ∧ ∃ e, s.nextFrame = some e ∧ moveSlot e = none) →
            exec .setPortMode s = .next (finish { answered with portMode := m })) ∧
          (∀ e h, m = .holdOnly → s.nextFrame = some e → moveSlot e = some h → ∃ u,
            exec .setPortMode s = .next (finish u) ∧
            u.notices = (refusedWith s (some h) (ownGroup s h) 14#8 0x21#8 e.frame.seq).notices ∧
            { u with notices := s.notices } = { answered with portMode := m, nextFrame := none }) ∧
          (∀ e, m = .isolate → s.nextFrame = some e → ∃ u, exec .setPortMode s = .next (finish u) ∧
            (∀ k, u.pollTimers.get k =
              if pollSlot e = some k ∧ (cfgAt s k).present = true then some 0 else s.pollTimers.get k) ∧
            { u with pollTimers := s.pollTimers } = { answered with portMode := m, nextFrame := none })))

/-- SET_IDENTITY stores the identity once: Values of another length are refused with MALFORMED and a second setting with
WRITE_ONCE. CLEAR_CAUSE empties the Cause Record. LINE_RESET is answered DONE and changes nothing else until its reply is
selected. All else is unchanged (R172, R183, R189, R192). -/
def Obligations.IdentityCauseAndLineReset : Prop :=
  ∀ (s : State) (f : Frame) (epoch : BitVec 16) (rest : List IntakeEntry) (op : Byte), MgmtTakes s f epoch rest op →
    (op = 0x09#8 →
      ((f.payload.length ≠ 13 →
        exec .setIdentity s = .next (finish (answeredWith s rest (refusedReply f 1#8 [])))) ∧
      (f.payload.length = 13 → s.rigIdentity ≠ none →
        exec .setIdentity s = .next (finish (answeredWith s rest (refusedReply f 27#8 [])))) ∧
      (f.payload.length = 13 → s.rigIdentity = none →
        exec .setIdentity s = .next (finish { answeredWith s rest (doneReply f []) with
          rigIdentity :=
            some (payloadByte f 9 ++ payloadByte f 10 ++ payloadByte f 11 ++ payloadByte f 12) })))) ∧
    (op = 0x07#8 →
      exec .clearCause s = .next (finish { answeredWith s rest (doneReply f []) with causeRecord := none })) ∧
    (op = 0x0C#8 →
      exec .lineReset s = .next (finish
        { s with intake := rest, replySlot := some { frame := doneReply f [], resets := true } }))

/-! ## Resets -/

/-- POWER_ON_RESET gives every value its power-on value and admits no order. LINE_RESET_TAKES_EFFECT sends the LINE_RESET
reply, empties the live state as the table of R192 lists, keeps the records, the Cause Record, the Rig Identity, the D-port
Mode, the Line Clock and both wires, and leaves a HOLD ALL in the lane and the HOLD notice pending (R2, R8, R77, R138, R156,
R192). That the U-port is idle after power-on is log entry 16, and that the commands outside the part go on
waiting log entry 17; that LINE_RESET_TAKES_EFFECT is the selection of the reply, and is nothing without such a reply or on a
busy U-port, is the choice of log entries 5 and 10. -/
def Obligations.ResetsGiveTheirValues : Prop :=
  (∀ s : State, ∃ u, exec .powerOnReset s = .next u ∧ u.pending = s.pending ∧ u.lineClock = 0#32 ∧
    (∀ h, hoistAt u h =
      { cfg := { present := false, group := none, limitSource := .own, softLow := 0, softHigh := 0, speedCeiling := 10,
                 underLimit := 0, derateStart := 900, overLimit := 1000, weight := 0, offset := 0 }
        live := { state := .offline, position := none, load := none, driveState := none, sampleAge := 65535,
                  loadCondition := .unknown, grant := none, arrived := false, fresh := false, pollOutstanding := false,
                  lastStopCause := none } }) ∧
    (∀ g, groupAt u g =
      { cfg := { speedCeiling := 100, skewWarn := 20, skewLimit := 50, shareWarn := 40, shareTolerance := 80,
                 shareFloor := 100, underLimit := 0, derateStart := 900, overLimit := 1000, trackStart := none }
        live := { state := .parked, lastVerdict := .none, cleanStreak := 0, tripCause := none, grant := none,
                  wave := none, lastSkew := none, lastDmax := none, track := none } }) ∧
    (∀ i, u.addressMap.get i = { enabled := false, base := 0x0001#16, spanExp := 0, slotBase := 0 }) ∧
    (∀ i, u.filters.get i = { enabled := false, direction := .down, kindMatch := false, kind := 0x00#8, offset := 0,
                              mask := 0#32, expected := 0xFFFF#16, action := .mark, actionGroup := 0, capture := false }) ∧
    (∀ i, u.trackPool.get i = { base := 0, speed := 10, dwell := 0, last := true }) ∧
    u.line.sweepInterval = 50 ∧ u.line.pollTimeout = 20 ∧ u.line.ageLimit = 200 ∧ u.line.silenceLimit = 500 ∧
    u.line.silenceAction = .holdAll ∧ u.line.arrivalWindow = 5 ∧ u.line.ownSampleRelay = .relay ∧
    u.line.recoverClearsCause = false ∧ u.line.noticeLevels.cells = [7, 7, 7, 6, 5, 5, 5, 4, 4, 3, 3, 3, 2, 2, 2, 1] ∧
    u.rigIdentity = none ∧ u.motionEnable = false ∧ u.portMode = .normal ∧ u.tagCounter = 128#8 ∧ u.seqCounter = 0#8 ∧
    u.batchSerial = 0#8 ∧ u.intake = [] ∧ u.lane = [] ∧ u.pollPromote = [] ∧ u.motionQueue = [] ∧
    u.internalBatches = [] ∧ u.nextFrame = none ∧ u.onWire = none ∧ (∀ h, u.pollTimers.get h = none) ∧
    u.silence = { state := .unarmed, count := 0, epoch := 0#16, lastSeq := 0#8 } ∧ u.causeRecord = none ∧
    (∀ i, u.notices.get i = none) ∧ u.relayQueue = [] ∧ u.replySlot = none ∧ u.uWire = none ∧
    u.lastWasNotice = false) ∧
  (∀ (s : State) (r : Reply), s.replySlot = some r → r.resets = true →
    (s.uWire ≠ none → exec .lineResetTakesEffect s = .next s) ∧
    (s.uWire = none → ∃ u, exec .lineResetTakesEffect s = .next (finish u) ∧ u.uWire = some r.frame ∧
      (∀ h, hoistAt u h = { hoistAt s h with live := HoistLive.reset }) ∧
      (∀ g, groupAt u g = { groupAt s g with live := GroupLive.reset }) ∧
      u.lane = [{ kind := .hold, scope := .all, pendingList := [], origin := .part, relatedSeq := r.frame.seq,
                  cause := none }] ∧
      (∀ i, u.notices.get i =
        if i = 3 ∧ noticeLevel s 3 ≠ 0 then
          some { repeated := false, hoist := none, group := none, code := 0x00#8, detail := 0x00#8,
                 relatedSeq := r.frame.seq, time := s.lineClock }
        else none) ∧
      u.motionEnable = false ∧ u.tagCounter = 128#8 ∧ u.seqCounter = 0#8 ∧ u.batchSerial = 0#8 ∧ u.intake = [] ∧
      u.pollPromote = [] ∧ u.motionQueue = [] ∧ u.internalBatches = [] ∧ u.nextFrame = none ∧
      (∀ h, u.pollTimers.get h = none) ∧
      u.silence = { state := .unarmed, count := 0, epoch := 0#16, lastSeq := 0#8 } ∧ u.relayQueue = [] ∧
      u.replySlot = none ∧ u.lastWasNotice = false ∧ u.addressMap = s.addressMap ∧ u.filters = s.filters ∧ u.trackPool = s.trackPool ∧
      u.line = s.line ∧ u.causeRecord = s.causeRecord ∧ u.rigIdentity = s.rigIdentity ∧ u.portMode = s.portMode ∧
      u.lineClock = s.lineClock ∧ u.onWire = s.onWire ∧ u.pending = s.pending)) ∧
  (∀ s : State, (∀ r, s.replySlot = some r → r.resets = false) → exec .lineResetTakesEffect s = .next s)

/-! ## Transmit completions -/

/-- D_PORT_TRANSMIT_COMPLETION empties ON_WIRE and closes the event. The frame in NEXT goes ON_WIRE, a POLL starting its
slot's timer, and NEXT is filled by the first candidate: the Stop Lane head, to the first addressed slot of its Pending List
or to its one Dest, with the console's Src and Seq or the part's own, an order with no addressed slot left leaving the lane
without a frame; then the rest of a batch partly sent; then the Poll Promote Queue; then the Motion Queue, the rest of a
selected entry's batch being marked as begun. In HOLD_ONLY a selected MOVE is discarded with REFUSE and selection goes on; in
ISOLATE every candidate is discarded without a notice, a POLL counting as sent (R38, R39, R92, R136, R139, R142, R143,
R153). A discarded stop frame has taken its Seq: log entry 12; the parties of that REFUSE: log entry 22. That a
completion with nothing ON_WIRE changes nothing is the choice of log entry 10. -/
def Obligations.DownstreamSelectionOrder : Prop :=
  (∀ s : State, s.onWire = none → exec .dPortTransmitCompletion s = .next s) ∧
  (∀ (s : State) (sent : Entry), s.onWire = some sent →
    exec .dPortTransmitCompletion s = .next (finish { s with onWire := none })) ∧
  (∀ (s : State) (sent n : Entry), s.onWire = some sent → s.nextFrame = some n → s.portMode ≠ .isolate →
    let sends : Entry → Prop := fun e => s.portMode = .normal ∨ moveSlot e = none
    (∀ o behind, s.lane = o :: behind → namesSlots o.scope = true → (∀ k ∈ o.pendingList, addrOfSlot s k = none) →
      exec .dPortTransmitCompletion s = exec .dPortTransmitCompletion { s with lane := behind }) ∧
    (∀ m ms h, s.lane = [] → s.motionQueue = m :: ms → isBegun m = true ∨ s.pollPromote = [] → s.portMode = .holdOnly →
      moveSlot m = some h → exec .dPortTransmitCompletion s = exec .dPortTransmitCompletion
        { refusedWith s (some h) (ownGroup s h) 14#8 0x21#8 m.frame.seq with motionQueue := behindSelected m ms }) ∧
    ∃ t, exec .dPortTransmitCompletion s = .next t ∧ t.onWire = some n ∧
      (∀ k, t.pollTimers.get k =
        if pollSlot n = some k ∧ (cfgAt s k).present = true then some 0 else s.pollTimers.get k) ∧
      (∀ o behind, s.lane = o :: behind →
        let stopTo : LineAddr → Entry := fun a =>
          { frame := { kind := if o.kind = .halt then 0x24#8 else 0x23#8, dest := a
                       src := match o.origin with | .console src _ => src | .part => 0xFFFE#16
                       seq := match o.origin with | .console _ seq => seq | .part => s.seqCounter
                       payload := [] }
            role := .stop }
        (o.scope = .all → t.nextFrame = some (stopTo 0xFFFF#16) ∧ t.lane = behind) ∧
        (∀ a, o.scope = .raw a → t.nextFrame = some (stopTo a) ∧ t.lane = behind) ∧
        (namesSlots o.scope = true → ∀ passed h left a, o.pendingList = passed ++ h :: left →
          (∀ k ∈ passed, addrOfSlot s k = none) → addrOfSlot s h = some a →
          t.nextFrame = some (stopTo a) ∧
            t.lane = if left = [] then behind else { o with pendingList := left } :: behind)) ∧
      (s.lane = [] → ∀ m ms p ps,
        (s.motionQueue = m :: ms → isBegun m = true ∨ s.pollPromote = [] → sends m →
          t.nextFrame = some m ∧ t.motionQueue = behindSelected m ms ∧ t.pollPromote = s.pollPromote) ∧
        (s.pollPromote = p :: ps → (∀ e, s.motionQueue.head? = some e → isBegun e = false) → sends p →
          t.nextFrame = some p ∧ t.pollPromote = ps ∧ t.motionQueue = s.motionQueue)) ∧
      (s.lane = [] → s.pollPromote = [] → s.motionQueue = [] → t.nextFrame = none)) ∧
  ∀ (s : State) (sent : Entry), s.onWire = some sent → s.portMode = .isolate →
    ∃ t, exec .dPortTransmitCompletion s = .next t ∧ t.onWire = s.nextFrame ∧ t.nextFrame = none ∧ t.lane = [] ∧
      t.pollPromote = [] ∧ t.motionQueue = [] ∧ (s.uWire ≠ none → t.notices = s.notices) ∧
      ∀ k, t.pollTimers.get k =
        if (s.nextFrame.toList ++ s.pollPromote ++ s.motionQueue).any (fun e => pollSlot e == some k) = true ∧
          (cfgAt s k).present = true then some 0 else s.pollTimers.get k

/-- U_PORT_TRANSMIT_COMPLETION makes the U-port idle and closes the event; with an idle U-port it changes nothing (the choice
of log entry 10). While the D-port has nothing to select, idle or with both positions full: the reply is sent first; then, unless the last frame
sent was a notice and a relayed frame waits, the pending notice of highest level and lowest number, with the next Seq, after
which its source is free; then the relayed frame that has waited longest; with none of these the U-port stays idle (R177, R178, R180). While the
reply to LINE_RESET waits it stays idle too: that reply is selected by a command of its own, the choice of log entry 5. That
both transmitters select once, after all of an event's raises, is the choice of log entry 27. -/
def Obligations.UpstreamSelectionOrder : Prop :=
  (∀ s : State, s.uWire = none → exec .uPortTransmitCompletion s = .next s) ∧
  (∀ (s : State) (sent : Frame), s.uWire = some sent →
    exec .uPortTransmitCompletion s = .next (finish { s with uWire := none })) ∧
  ∀ (s : State) (sent : Frame), s.uWire = some sent → DPortSettled s →
    (∀ r, s.replySlot = some r → r.resets = true → exec .uPortTransmitCompletion s = .next { s with uWire := none }) ∧
    (∀ r, s.replySlot = some r → r.resets = false →
      exec .uPortTransmitCompletion s =
        .next { s with uWire := some r.frame, replySlot := none, lastWasNotice := false }) ∧
    (s.replySlot = none → ∀ (i : Fin 16) (n : Notice), s.notices.get i = some n →
      (∀ j, s.notices.get j ≠ none → noticeLevel s j < noticeLevel s i ∨ (noticeLevel s j = noticeLevel s i ∧ i ≤ j)) →
      (s.lastWasNotice = false ∨ s.relayQueue = [] →
        exec .uPortTransmitCompletion s = .next
          { s with
            uWire := some { kind := 0x4E#8, dest := 0xFFFF#16, src := 0xFFFE#16, seq := s.seqCounter,
                            payload := [BitVec.ofNat 8 (i.val + 1), BitVec.ofNat 8 (noticeLevel s i),
                              boolByte n.repeated, slotByte n.hoist, groupByte n.group, n.code, n.detail, n.relatedSeq]
                              ++ fourBytes n.time.toNat }
            notices := s.notices.set i none
            lastWasNotice := true
            seqCounter := s.seqCounter + 1#8 }) ∧
      (s.lastWasNotice = true → ∀ f fs, s.relayQueue = f :: fs →
        exec .uPortTransmitCompletion s = .next { s with uWire := some f, relayQueue := fs, lastWasNotice := false })) ∧
    (s.replySlot = none → (∀ i, s.notices.get i = none) → ∀ f fs, s.relayQueue = f :: fs →
      exec .uPortTransmitCompletion s = .next { s with uWire := some f, relayQueue := fs, lastWasNotice := false }) ∧
    (s.replySlot = none → (∀ i, s.notices.get i = none) → s.relayQueue = [] →
      exec .uPortTransmitCompletion s = .next { s with uWire := none })

/-! ## Expiries -/

/-- STALE_EXPIRY of a Present hoist whose Sample Age steps next to the Age Limit, by its state: OFFLINE only ages; TRIPPED
raises STALE; a MOVING one is halted with cause STALE; a READY or HELD one goes OFFLINE, and a member of an armed group has
its group held. STALE names the state and Poll Outstanding as they were (R150). That the command is the count's last step, and
is nothing while that step is not the next one, is the choice of log entry 2. A number above 63 names no slot (R1); that such a
command faults is the choice of log entry 10. -/
def Obligations.StaleExpiryActsByState : Prop :=
  (∀ (s : State) (n : Nat), 64 ≤ n → exec (.staleExpiry n) s = .fault (.noSuchSlot n)) ∧
  ∀ (s : State) (h : Slot),
    ((cfgAt s h).present = false ∨ (liveAt s h).sampleAge + 1 ≠ s.line.ageLimit →
      exec (.staleExpiry h.val) s = .next s) ∧
    ((cfgAt s h).present = true → (liveAt s h).sampleAge + 1 = s.line.ageLimit →
      let aged := changeLive s h fun l => { l with sampleAge := s.line.ageLimit }
      let gone := changeLive s h fun l => { l with sampleAge := s.line.ageLimit, state := .offline }
      let stale : State → State := fun u => raiseNotice u .stale
        { hoist := some h, group := ownGroup s h, code := hoistStateCode (liveAt s h).state,
          detail := boolByte (liveAt s h).pollOutstanding, relatedSeq := 0x00#8 }
      let order : StopKind → StopIssue := fun k => partOrder k (.hoist h) (some .stale) 0x00#8 (some h)
      let outcome : State → Prop := fun u => exec (.staleExpiry h.val) s = .next (finish u)
      ((liveAt s h).state = .offline → outcome aged) ∧
      ((liveAt s h).state = .tripped → outcome (stale aged)) ∧
      ((liveAt s h).state = .moving → outcome (stale (issueStop aged (order .halt)))) ∧
      ((liveAt s h).state = .ready ∨ (liveAt s h).state = .held →
        (armedGroupOf s h = none → outcome (stale gone)) ∧
        (armedGroupOf s h ≠ none → outcome (stale (issueStop gone (order .hold))))))

/-- POLL_TIMEOUT frees the hoist for its next poll. SILENCE_TIMER_EXPIRY of a RUNNING timer takes the next epoch, admits the
Silence Action's order on ALL and raises SILENCE. DWELL_EXPIRY moves the cursor on and makes the next step the youngest
pending batch, and takes it at once when it is the only one and fits (R117, R123, R140, R153, R157). Each is the last step of
its count: while the next step does not reach the limit, as after the event that set the count back, it does not take place
(R159; the choice of log entry 2). That a number which names no slot or group faults is the choice of log entry 10. -/
def Obligations.CountsExpire : Prop :=
  ∀ s : State,
    (∀ n : Nat, 64 ≤ n → exec (.pollTimeout n) s = .fault (.noSuchSlot n)) ∧
    (∀ n : Nat, 16 ≤ n → exec (.dwellExpiry n) s = .fault (.noSuchGroup n)) ∧
    (∀ h : Slot, (∀ n, s.pollTimers.get h = some n → n + 1 < s.line.pollTimeout) →
      exec (.pollTimeout h.val) s = .next s) ∧
    (∀ (h : Slot) (n : Nat), s.pollTimers.get h = some n → s.line.pollTimeout ≤ n + 1 →
      exec (.pollTimeout h.val) s = .next (finish
        { changeLive s h (fun l => { l with pollOutstanding := false }) with pollTimers := s.pollTimers.set h none })) ∧
    (s.silence.state ≠ .running ∨ s.silence.count + 1 < s.line.silenceLimit →
      exec .silenceTimerExpiry s = .next s) ∧
    (s.silence.state = .running → s.line.silenceLimit ≤ s.silence.count + 1 →
      let k : StopKind := if s.line.silenceAction = .haltAll then .halt else .hold
      let expired : State := { s with silence :=
        { state := .expired, count := max s.silence.count s.line.silenceLimit, epoch := s.silence.epoch + 1#16,
          lastSeq := s.silence.lastSeq } }
      exec .silenceTimerExpiry s = .next (finish (raiseNotice
        (admitStop expired (partOrder k .all (some .silence) s.silence.lastSeq none)) .silence
        { hoist := none, group := none, code := if s.line.silenceAction = .haltAll then 0x24#8 else 0x23#8,
          detail := (s.silence.epoch + 1#16).extractLsb' 0 8, relatedSeq := s.silence.lastSeq }))) ∧
    (∀ g : GroupNo, (∀ tr, (groupAt s g).live.track = some tr → tr.dwell ≠ some 1) →
      exec (.dwellExpiry g.val) s = .next s) ∧
    (∀ (g : GroupNo) (tr : Track) (next : TrackIx), (groupAt s g).live.track = some tr → tr.dwell = some 1 →
      next.val = tr.cursor.val + 1 →
      let due : State := { changeGroup s g (fun l => { l with track := some { tr with cursor := next, dwell := some 0 } })
        with internalBatches := s.internalBatches ++ [.step g] }
      (s.internalBatches ≠ [] ∨ 32 < s.motionQueue.length + (members s g).length →
        s.internalBatches.head? ≠ some (.step g) → exec (.dwellExpiry g.val) s = .next (finish due)) ∧
      (s.internalBatches = [] → s.motionQueue.length + (members s g).length ≤ 32 →
        exec (.dwellExpiry g.val) s = exec .trackStep due))
end

