-- ==== Sys2Proof/Laws/State.lean ====
section
/-! SUPPORT. The small lemmas of the tables and of the basic updates: what a table reads after a write, and one lemma per
field of State for each update that leaves it alone. -/

namespace Sys2Proof

variable {n : Nat} {α : Type}

/-! ## Tables -/

/-- Reading the record just written gives it. -/
@[simp] theorem Table.get_set_self (t : Table n α) (i : Fin n) (x : α) : (t.set i x).get i = x := by
  simp [Table.get, Table.set]

/-- A write leaves every other record alone. -/
theorem Table.get_set_of_ne (t : Table n α) {i j : Fin n} (x : α) (h : j ≠ i) : (t.set i x).get j = t.get j := by
  have : i.val ≠ j.val := fun e => h (Fin.ext e.symm)
  simp [Table.get, Table.set, this]

/-- Reading after a write, in one equation. -/
theorem Table.get_set (t : Table n α) (i j : Fin n) (x : α) : (t.set i x).get j = if j = i then x else t.get j := by
  split
  · next h => rw [h, Table.get_set_self]
  · next h => exact Table.get_set_of_ne t x h

/-- Reading a built table. -/
@[simp] theorem Table.get_build (f : Fin n → α) (i : Fin n) : (Table.build f).get i = f i := by
  simp [Table.get, Table.build]

/-- Reading a filled table. -/
@[simp] theorem Table.get_fill (x : α) (i : Fin n) : (Table.fill n x).get i = x := by
  simp [Table.get, Table.fill]

/-- Tables that read the same everywhere are the same. -/
theorem Table.ext_get {t u : Table n α} (h : ∀ i, t.get i = u.get i) : t = u := by
  obtain ⟨a, ha⟩ := t
  obtain ⟨b, hb⟩ := u
  have hab : a = b := by
    apply List.ext_getElem (by rw [ha, hb])
    intro k hk _
    exact h ⟨k, by omega⟩
  subst hab
  rfl

/-- Writing back what a table reads changes nothing. -/
@[simp] theorem Table.set_get_self (t : Table n α) (i : Fin n) : t.set i (t.get i) = t := by
  apply Table.ext_get
  intro j
  rw [Table.get_set]
  split
  · next h => rw [h]
  · rfl

end Sys2Proof

namespace Sys2Proof.Machine

variable (s : State)

/-! ## putHoist -/

@[simp] theorem putHoist_pending (h : Slot) (r : Hoist) : (putHoist s h r).pending = s.pending := rfl
@[simp] theorem putHoist_lineClock (h : Slot) (r : Hoist) : (putHoist s h r).lineClock = s.lineClock := rfl
@[simp] theorem putHoist_groups (h : Slot) (r : Hoist) : (putHoist s h r).groups = s.groups := rfl
@[simp] theorem putHoist_addressMap (h : Slot) (r : Hoist) : (putHoist s h r).addressMap = s.addressMap := rfl
@[simp] theorem putHoist_filters (h : Slot) (r : Hoist) : (putHoist s h r).filters = s.filters := rfl
@[simp] theorem putHoist_trackPool (h : Slot) (r : Hoist) : (putHoist s h r).trackPool = s.trackPool := rfl
@[simp] theorem putHoist_line (h : Slot) (r : Hoist) : (putHoist s h r).line = s.line := rfl
@[simp] theorem putHoist_rigIdentity (h : Slot) (r : Hoist) : (putHoist s h r).rigIdentity = s.rigIdentity := rfl
@[simp] theorem putHoist_motionEnable (h : Slot) (r : Hoist) : (putHoist s h r).motionEnable = s.motionEnable := rfl
@[simp] theorem putHoist_portMode (h : Slot) (r : Hoist) : (putHoist s h r).portMode = s.portMode := rfl
@[simp] theorem putHoist_tagCounter (h : Slot) (r : Hoist) : (putHoist s h r).tagCounter = s.tagCounter := rfl
@[simp] theorem putHoist_seqCounter (h : Slot) (r : Hoist) : (putHoist s h r).seqCounter = s.seqCounter := rfl
@[simp] theorem putHoist_batchSerial (h : Slot) (r : Hoist) : (putHoist s h r).batchSerial = s.batchSerial := rfl
@[simp] theorem putHoist_intake (h : Slot) (r : Hoist) : (putHoist s h r).intake = s.intake := rfl
@[simp] theorem putHoist_lane (h : Slot) (r : Hoist) : (putHoist s h r).lane = s.lane := rfl
@[simp] theorem putHoist_pollPromote (h : Slot) (r : Hoist) : (putHoist s h r).pollPromote = s.pollPromote := rfl
@[simp] theorem putHoist_motionQueue (h : Slot) (r : Hoist) : (putHoist s h r).motionQueue = s.motionQueue := rfl
@[simp] theorem putHoist_internalBatches (h : Slot) (r : Hoist) : (putHoist s h r).internalBatches = s.internalBatches := rfl
@[simp] theorem putHoist_nextFrame (h : Slot) (r : Hoist) : (putHoist s h r).nextFrame = s.nextFrame := rfl
@[simp] theorem putHoist_onWire (h : Slot) (r : Hoist) : (putHoist s h r).onWire = s.onWire := rfl
@[simp] theorem putHoist_pollTimers (h : Slot) (r : Hoist) : (putHoist s h r).pollTimers = s.pollTimers := rfl
@[simp] theorem putHoist_silence (h : Slot) (r : Hoist) : (putHoist s h r).silence = s.silence := rfl
@[simp] theorem putHoist_causeRecord (h : Slot) (r : Hoist) : (putHoist s h r).causeRecord = s.causeRecord := rfl
@[simp] theorem putHoist_notices (h : Slot) (r : Hoist) : (putHoist s h r).notices = s.notices := rfl
@[simp] theorem putHoist_relayQueue (h : Slot) (r : Hoist) : (putHoist s h r).relayQueue = s.relayQueue := rfl
@[simp] theorem putHoist_replySlot (h : Slot) (r : Hoist) : (putHoist s h r).replySlot = s.replySlot := rfl
@[simp] theorem putHoist_uWire (h : Slot) (r : Hoist) : (putHoist s h r).uWire = s.uWire := rfl
@[simp] theorem putHoist_lastWasNotice (h : Slot) (r : Hoist) : (putHoist s h r).lastWasNotice = s.lastWasNotice := rfl

/-! ## changeLive -/

@[simp] theorem changeLive_pending (h : Slot) (f : HoistLive → HoistLive) : (changeLive s h f).pending = s.pending := rfl
@[simp] theorem changeLive_lineClock (h : Slot) (f : HoistLive → HoistLive) : (changeLive s h f).lineClock = s.lineClock := rfl
@[simp] theorem changeLive_groups (h : Slot) (f : HoistLive → HoistLive) : (changeLive s h f).groups = s.groups := rfl
@[simp] theorem changeLive_addressMap (h : Slot) (f : HoistLive → HoistLive) : (changeLive s h f).addressMap = s.addressMap := rfl
@[simp] theorem changeLive_filters (h : Slot) (f : HoistLive → HoistLive) : (changeLive s h f).filters = s.filters := rfl
@[simp] theorem changeLive_trackPool (h : Slot) (f : HoistLive → HoistLive) : (changeLive s h f).trackPool = s.trackPool := rfl
@[simp] theorem changeLive_line (h : Slot) (f : HoistLive → HoistLive) : (changeLive s h f).line = s.line := rfl
@[simp] theorem changeLive_rigIdentity (h : Slot) (f : HoistLive → HoistLive) : (changeLive s h f).rigIdentity = s.rigIdentity := rfl
@[simp] theorem changeLive_motionEnable (h : Slot) (f : HoistLive → HoistLive) : (changeLive s h f).motionEnable = s.motionEnable := rfl
@[simp] theorem changeLive_portMode (h : Slot) (f : HoistLive → HoistLive) : (changeLive s h f).portMode = s.portMode := rfl
@[simp] theorem changeLive_tagCounter (h : Slot) (f : HoistLive → HoistLive) : (changeLive s h f).tagCounter = s.tagCounter := rfl
@[simp] theorem changeLive_seqCounter (h : Slot) (f : HoistLive → HoistLive) : (changeLive s h f).seqCounter = s.seqCounter := rfl
@[simp] theorem changeLive_batchSerial (h : Slot) (f : HoistLive → HoistLive) : (changeLive s h f).batchSerial = s.batchSerial := rfl
@[simp] theorem changeLive_intake (h : Slot) (f : HoistLive → HoistLive) : (changeLive s h f).intake = s.intake := rfl
@[simp] theorem changeLive_lane (h : Slot) (f : HoistLive → HoistLive) : (changeLive s h f).lane = s.lane := rfl
@[simp] theorem changeLive_pollPromote (h : Slot) (f : HoistLive → HoistLive) : (changeLive s h f).pollPromote = s.pollPromote := rfl
@[simp] theorem changeLive_motionQueue (h : Slot) (f : HoistLive → HoistLive) : (changeLive s h f).motionQueue = s.motionQueue := rfl
@[simp] theorem changeLive_internalBatches (h : Slot) (f : HoistLive → HoistLive) : (changeLive s h f).internalBatches = s.internalBatches := rfl
@[simp] theorem changeLive_nextFrame (h : Slot) (f : HoistLive → HoistLive) : (changeLive s h f).nextFrame = s.nextFrame := rfl
@[simp] theorem changeLive_onWire (h : Slot) (f : HoistLive → HoistLive) : (changeLive s h f).onWire = s.onWire := rfl
@[simp] theorem changeLive_pollTimers (h : Slot) (f : HoistLive → HoistLive) : (changeLive s h f).pollTimers = s.pollTimers := rfl
@[simp] theorem changeLive_silence (h : Slot) (f : HoistLive → HoistLive) : (changeLive s h f).silence = s.silence := rfl
@[simp] theorem changeLive_causeRecord (h : Slot) (f : HoistLive → HoistLive) : (changeLive s h f).causeRecord = s.causeRecord := rfl
@[simp] theorem changeLive_notices (h : Slot) (f : HoistLive → HoistLive) : (changeLive s h f).notices = s.notices := rfl
@[simp] theorem changeLive_relayQueue (h : Slot) (f : HoistLive → HoistLive) : (changeLive s h f).relayQueue = s.relayQueue := rfl
@[simp] theorem changeLive_replySlot (h : Slot) (f : HoistLive → HoistLive) : (changeLive s h f).replySlot = s.replySlot := rfl
@[simp] theorem changeLive_uWire (h : Slot) (f : HoistLive → HoistLive) : (changeLive s h f).uWire = s.uWire := rfl
@[simp] theorem changeLive_lastWasNotice (h : Slot) (f : HoistLive → HoistLive) : (changeLive s h f).lastWasNotice = s.lastWasNotice := rfl

/-! ## changeHoists -/

@[simp] theorem changeHoists_pending (f : Slot → Hoist → Hoist) : (changeHoists s f).pending = s.pending := rfl
@[simp] theorem changeHoists_lineClock (f : Slot → Hoist → Hoist) : (changeHoists s f).lineClock = s.lineClock := rfl
@[simp] theorem changeHoists_groups (f : Slot → Hoist → Hoist) : (changeHoists s f).groups = s.groups := rfl
@[simp] theorem changeHoists_addressMap (f : Slot → Hoist → Hoist) : (changeHoists s f).addressMap = s.addressMap := rfl
@[simp] theorem changeHoists_filters (f : Slot → Hoist → Hoist) : (changeHoists s f).filters = s.filters := rfl
@[simp] theorem changeHoists_trackPool (f : Slot → Hoist → Hoist) : (changeHoists s f).trackPool = s.trackPool := rfl
@[simp] theorem changeHoists_line (f : Slot → Hoist → Hoist) : (changeHoists s f).line = s.line := rfl
@[simp] theorem changeHoists_rigIdentity (f : Slot → Hoist → Hoist) : (changeHoists s f).rigIdentity = s.rigIdentity := rfl
@[simp] theorem changeHoists_motionEnable (f : Slot → Hoist → Hoist) : (changeHoists s f).motionEnable = s.motionEnable := rfl
@[simp] theorem changeHoists_portMode (f : Slot → Hoist → Hoist) : (changeHoists s f).portMode = s.portMode := rfl
@[simp] theorem changeHoists_tagCounter (f : Slot → Hoist → Hoist) : (changeHoists s f).tagCounter = s.tagCounter := rfl
@[simp] theorem changeHoists_seqCounter (f : Slot → Hoist → Hoist) : (changeHoists s f).seqCounter = s.seqCounter := rfl
@[simp] theorem changeHoists_batchSerial (f : Slot → Hoist → Hoist) : (changeHoists s f).batchSerial = s.batchSerial := rfl
@[simp] theorem changeHoists_intake (f : Slot → Hoist → Hoist) : (changeHoists s f).intake = s.intake := rfl
@[simp] theorem changeHoists_lane (f : Slot → Hoist → Hoist) : (changeHoists s f).lane = s.lane := rfl
@[simp] theorem changeHoists_pollPromote (f : Slot → Hoist → Hoist) : (changeHoists s f).pollPromote = s.pollPromote := rfl
@[simp] theorem changeHoists_motionQueue (f : Slot → Hoist → Hoist) : (changeHoists s f).motionQueue = s.motionQueue := rfl
@[simp] theorem changeHoists_internalBatches (f : Slot → Hoist → Hoist) : (changeHoists s f).internalBatches = s.internalBatches := rfl
@[simp] theorem changeHoists_nextFrame (f : Slot → Hoist → Hoist) : (changeHoists s f).nextFrame = s.nextFrame := rfl
@[simp] theorem changeHoists_onWire (f : Slot → Hoist → Hoist) : (changeHoists s f).onWire = s.onWire := rfl
@[simp] theorem changeHoists_pollTimers (f : Slot → Hoist → Hoist) : (changeHoists s f).pollTimers = s.pollTimers := rfl
@[simp] theorem changeHoists_silence (f : Slot → Hoist → Hoist) : (changeHoists s f).silence = s.silence := rfl
@[simp] theorem changeHoists_causeRecord (f : Slot → Hoist → Hoist) : (changeHoists s f).causeRecord = s.causeRecord := rfl
@[simp] theorem changeHoists_notices (f : Slot → Hoist → Hoist) : (changeHoists s f).notices = s.notices := rfl
@[simp] theorem changeHoists_relayQueue (f : Slot → Hoist → Hoist) : (changeHoists s f).relayQueue = s.relayQueue := rfl
@[simp] theorem changeHoists_replySlot (f : Slot → Hoist → Hoist) : (changeHoists s f).replySlot = s.replySlot := rfl
@[simp] theorem changeHoists_uWire (f : Slot → Hoist → Hoist) : (changeHoists s f).uWire = s.uWire := rfl
@[simp] theorem changeHoists_lastWasNotice (f : Slot → Hoist → Hoist) : (changeHoists s f).lastWasNotice = s.lastWasNotice := rfl

/-! ## putGroup -/

@[simp] theorem putGroup_pending (g : GroupNo) (r : Group) : (putGroup s g r).pending = s.pending := rfl
@[simp] theorem putGroup_lineClock (g : GroupNo) (r : Group) : (putGroup s g r).lineClock = s.lineClock := rfl
@[simp] theorem putGroup_hoists (g : GroupNo) (r : Group) : (putGroup s g r).hoists = s.hoists := rfl
@[simp] theorem putGroup_addressMap (g : GroupNo) (r : Group) : (putGroup s g r).addressMap = s.addressMap := rfl
@[simp] theorem putGroup_filters (g : GroupNo) (r : Group) : (putGroup s g r).filters = s.filters := rfl
@[simp] theorem putGroup_trackPool (g : GroupNo) (r : Group) : (putGroup s g r).trackPool = s.trackPool := rfl
@[simp] theorem putGroup_line (g : GroupNo) (r : Group) : (putGroup s g r).line = s.line := rfl
@[simp] theorem putGroup_rigIdentity (g : GroupNo) (r : Group) : (putGroup s g r).rigIdentity = s.rigIdentity := rfl
@[simp] theorem putGroup_motionEnable (g : GroupNo) (r : Group) : (putGroup s g r).motionEnable = s.motionEnable := rfl
@[simp] theorem putGroup_portMode (g : GroupNo) (r : Group) : (putGroup s g r).portMode = s.portMode := rfl
@[simp] theorem putGroup_tagCounter (g : GroupNo) (r : Group) : (putGroup s g r).tagCounter = s.tagCounter := rfl
@[simp] theorem putGroup_seqCounter (g : GroupNo) (r : Group) : (putGroup s g r).seqCounter = s.seqCounter := rfl
@[simp] theorem putGroup_batchSerial (g : GroupNo) (r : Group) : (putGroup s g r).batchSerial = s.batchSerial := rfl
@[simp] theorem putGroup_intake (g : GroupNo) (r : Group) : (putGroup s g r).intake = s.intake := rfl
@[simp] theorem putGroup_lane (g : GroupNo) (r : Group) : (putGroup s g r).lane = s.lane := rfl
@[simp] theorem putGroup_pollPromote (g : GroupNo) (r : Group) : (putGroup s g r).pollPromote = s.pollPromote := rfl
@[simp] theorem putGroup_motionQueue (g : GroupNo) (r : Group) : (putGroup s g r).motionQueue = s.motionQueue := rfl
@[simp] theorem putGroup_internalBatches (g : GroupNo) (r : Group) : (putGroup s g r).internalBatches = s.internalBatches := rfl
@[simp] theorem putGroup_nextFrame (g : GroupNo) (r : Group) : (putGroup s g r).nextFrame = s.nextFrame := rfl
@[simp] theorem putGroup_onWire (g : GroupNo) (r : Group) : (putGroup s g r).onWire = s.onWire := rfl
@[simp] theorem putGroup_pollTimers (g : GroupNo) (r : Group) : (putGroup s g r).pollTimers = s.pollTimers := rfl
@[simp] theorem putGroup_silence (g : GroupNo) (r : Group) : (putGroup s g r).silence = s.silence := rfl
@[simp] theorem putGroup_causeRecord (g : GroupNo) (r : Group) : (putGroup s g r).causeRecord = s.causeRecord := rfl
@[simp] theorem putGroup_notices (g : GroupNo) (r : Group) : (putGroup s g r).notices = s.notices := rfl
@[simp] theorem putGroup_relayQueue (g : GroupNo) (r : Group) : (putGroup s g r).relayQueue = s.relayQueue := rfl
@[simp] theorem putGroup_replySlot (g : GroupNo) (r : Group) : (putGroup s g r).replySlot = s.replySlot := rfl
@[simp] theorem putGroup_uWire (g : GroupNo) (r : Group) : (putGroup s g r).uWire = s.uWire := rfl
@[simp] theorem putGroup_lastWasNotice (g : GroupNo) (r : Group) : (putGroup s g r).lastWasNotice = s.lastWasNotice := rfl

/-! ## changeGroup -/

@[simp] theorem changeGroup_pending (g : GroupNo) (f : GroupLive → GroupLive) : (changeGroup s g f).pending = s.pending := rfl
@[simp] theorem changeGroup_lineClock (g : GroupNo) (f : GroupLive → GroupLive) : (changeGroup s g f).lineClock = s.lineClock := rfl
@[simp] theorem changeGroup_hoists (g : GroupNo) (f : GroupLive → GroupLive) : (changeGroup s g f).hoists = s.hoists := rfl
@[simp] theorem changeGroup_addressMap (g : GroupNo) (f : GroupLive → GroupLive) : (changeGroup s g f).addressMap = s.addressMap := rfl
@[simp] theorem changeGroup_filters (g : GroupNo) (f : GroupLive → GroupLive) : (changeGroup s g f).filters = s.filters := rfl
@[simp] theorem changeGroup_trackPool (g : GroupNo) (f : GroupLive → GroupLive) : (changeGroup s g f).trackPool = s.trackPool := rfl
@[simp] theorem changeGroup_line (g : GroupNo) (f : GroupLive → GroupLive) : (changeGroup s g f).line = s.line := rfl
@[simp] theorem changeGroup_rigIdentity (g : GroupNo) (f : GroupLive → GroupLive) : (changeGroup s g f).rigIdentity = s.rigIdentity := rfl
@[simp] theorem changeGroup_motionEnable (g : GroupNo) (f : GroupLive → GroupLive) : (changeGroup s g f).motionEnable = s.motionEnable := rfl
@[simp] theorem changeGroup_portMode (g : GroupNo) (f : GroupLive → GroupLive) : (changeGroup s g f).portMode = s.portMode := rfl
@[simp] theorem changeGroup_tagCounter (g : GroupNo) (f : GroupLive → GroupLive) : (changeGroup s g f).tagCounter = s.tagCounter := rfl
@[simp] theorem changeGroup_seqCounter (g : GroupNo) (f : GroupLive → GroupLive) : (changeGroup s g f).seqCounter = s.seqCounter := rfl
@[simp] theorem changeGroup_batchSerial (g : GroupNo) (f : GroupLive → GroupLive) : (changeGroup s g f).batchSerial = s.batchSerial := rfl
@[simp] theorem changeGroup_intake (g : GroupNo) (f : GroupLive → GroupLive) : (changeGroup s g f).intake = s.intake := rfl
@[simp] theorem changeGroup_lane (g : GroupNo) (f : GroupLive → GroupLive) : (changeGroup s g f).lane = s.lane := rfl
@[simp] theorem changeGroup_pollPromote (g : GroupNo) (f : GroupLive → GroupLive) : (changeGroup s g f).pollPromote = s.pollPromote := rfl
@[simp] theorem changeGroup_motionQueue (g : GroupNo) (f : GroupLive → GroupLive) : (changeGroup s g f).motionQueue = s.motionQueue := rfl
@[simp] theorem changeGroup_internalBatches (g : GroupNo) (f : GroupLive → GroupLive) : (changeGroup s g f).internalBatches = s.internalBatches := rfl
@[simp] theorem changeGroup_nextFrame (g : GroupNo) (f : GroupLive → GroupLive) : (changeGroup s g f).nextFrame = s.nextFrame := rfl
@[simp] theorem changeGroup_onWire (g : GroupNo) (f : GroupLive → GroupLive) : (changeGroup s g f).onWire = s.onWire := rfl
@[simp] theorem changeGroup_pollTimers (g : GroupNo) (f : GroupLive → GroupLive) : (changeGroup s g f).pollTimers = s.pollTimers := rfl
@[simp] theorem changeGroup_silence (g : GroupNo) (f : GroupLive → GroupLive) : (changeGroup s g f).silence = s.silence := rfl
@[simp] theorem changeGroup_causeRecord (g : GroupNo) (f : GroupLive → GroupLive) : (changeGroup s g f).causeRecord = s.causeRecord := rfl
@[simp] theorem changeGroup_notices (g : GroupNo) (f : GroupLive → GroupLive) : (changeGroup s g f).notices = s.notices := rfl
@[simp] theorem changeGroup_relayQueue (g : GroupNo) (f : GroupLive → GroupLive) : (changeGroup s g f).relayQueue = s.relayQueue := rfl
@[simp] theorem changeGroup_replySlot (g : GroupNo) (f : GroupLive → GroupLive) : (changeGroup s g f).replySlot = s.replySlot := rfl
@[simp] theorem changeGroup_uWire (g : GroupNo) (f : GroupLive → GroupLive) : (changeGroup s g f).uWire = s.uWire := rfl
@[simp] theorem changeGroup_lastWasNotice (g : GroupNo) (f : GroupLive → GroupLive) : (changeGroup s g f).lastWasNotice = s.lastWasNotice := rfl

/-! ## changeGroups -/

@[simp] theorem changeGroups_pending (f : GroupNo → Group → Group) : (changeGroups s f).pending = s.pending := rfl
@[simp] theorem changeGroups_lineClock (f : GroupNo → Group → Group) : (changeGroups s f).lineClock = s.lineClock := rfl
@[simp] theorem changeGroups_hoists (f : GroupNo → Group → Group) : (changeGroups s f).hoists = s.hoists := rfl
@[simp] theorem changeGroups_addressMap (f : GroupNo → Group → Group) : (changeGroups s f).addressMap = s.addressMap := rfl
@[simp] theorem changeGroups_filters (f : GroupNo → Group → Group) : (changeGroups s f).filters = s.filters := rfl
@[simp] theorem changeGroups_trackPool (f : GroupNo → Group → Group) : (changeGroups s f).trackPool = s.trackPool := rfl
@[simp] theorem changeGroups_line (f : GroupNo → Group → Group) : (changeGroups s f).line = s.line := rfl
@[simp] theorem changeGroups_rigIdentity (f : GroupNo → Group → Group) : (changeGroups s f).rigIdentity = s.rigIdentity := rfl
@[simp] theorem changeGroups_motionEnable (f : GroupNo → Group → Group) : (changeGroups s f).motionEnable = s.motionEnable := rfl
@[simp] theorem changeGroups_portMode (f : GroupNo → Group → Group) : (changeGroups s f).portMode = s.portMode := rfl
@[simp] theorem changeGroups_tagCounter (f : GroupNo → Group → Group) : (changeGroups s f).tagCounter = s.tagCounter := rfl
@[simp] theorem changeGroups_seqCounter (f : GroupNo → Group → Group) : (changeGroups s f).seqCounter = s.seqCounter := rfl
@[simp] theorem changeGroups_batchSerial (f : GroupNo → Group → Group) : (changeGroups s f).batchSerial = s.batchSerial := rfl
@[simp] theorem changeGroups_intake (f : GroupNo → Group → Group) : (changeGroups s f).intake = s.intake := rfl
@[simp] theorem changeGroups_lane (f : GroupNo → Group → Group) : (changeGroups s f).lane = s.lane := rfl
@[simp] theorem changeGroups_pollPromote (f : GroupNo → Group → Group) : (changeGroups s f).pollPromote = s.pollPromote := rfl
@[simp] theorem changeGroups_motionQueue (f : GroupNo → Group → Group) : (changeGroups s f).motionQueue = s.motionQueue := rfl
@[simp] theorem changeGroups_internalBatches (f : GroupNo → Group → Group) : (changeGroups s f).internalBatches = s.internalBatches := rfl
@[simp] theorem changeGroups_nextFrame (f : GroupNo → Group → Group) : (changeGroups s f).nextFrame = s.nextFrame := rfl
@[simp] theorem changeGroups_onWire (f : GroupNo → Group → Group) : (changeGroups s f).onWire = s.onWire := rfl
@[simp] theorem changeGroups_pollTimers (f : GroupNo → Group → Group) : (changeGroups s f).pollTimers = s.pollTimers := rfl
@[simp] theorem changeGroups_silence (f : GroupNo → Group → Group) : (changeGroups s f).silence = s.silence := rfl
@[simp] theorem changeGroups_causeRecord (f : GroupNo → Group → Group) : (changeGroups s f).causeRecord = s.causeRecord := rfl
@[simp] theorem changeGroups_notices (f : GroupNo → Group → Group) : (changeGroups s f).notices = s.notices := rfl
@[simp] theorem changeGroups_relayQueue (f : GroupNo → Group → Group) : (changeGroups s f).relayQueue = s.relayQueue := rfl
@[simp] theorem changeGroups_replySlot (f : GroupNo → Group → Group) : (changeGroups s f).replySlot = s.replySlot := rfl
@[simp] theorem changeGroups_uWire (f : GroupNo → Group → Group) : (changeGroups s f).uWire = s.uWire := rfl
@[simp] theorem changeGroups_lastWasNotice (f : GroupNo → Group → Group) : (changeGroups s f).lastWasNotice = s.lastWasNotice := rfl

/-! ## stepTag -/

@[simp] theorem stepTag_pending : (stepTag s).pending = s.pending := rfl
@[simp] theorem stepTag_lineClock : (stepTag s).lineClock = s.lineClock := rfl
@[simp] theorem stepTag_hoists : (stepTag s).hoists = s.hoists := rfl
@[simp] theorem stepTag_groups : (stepTag s).groups = s.groups := rfl
@[simp] theorem stepTag_addressMap : (stepTag s).addressMap = s.addressMap := rfl
@[simp] theorem stepTag_filters : (stepTag s).filters = s.filters := rfl
@[simp] theorem stepTag_trackPool : (stepTag s).trackPool = s.trackPool := rfl
@[simp] theorem stepTag_line : (stepTag s).line = s.line := rfl
@[simp] theorem stepTag_rigIdentity : (stepTag s).rigIdentity = s.rigIdentity := rfl
@[simp] theorem stepTag_motionEnable : (stepTag s).motionEnable = s.motionEnable := rfl
@[simp] theorem stepTag_portMode : (stepTag s).portMode = s.portMode := rfl
@[simp] theorem stepTag_seqCounter : (stepTag s).seqCounter = s.seqCounter := rfl
@[simp] theorem stepTag_batchSerial : (stepTag s).batchSerial = s.batchSerial := rfl
@[simp] theorem stepTag_intake : (stepTag s).intake = s.intake := rfl
@[simp] theorem stepTag_lane : (stepTag s).lane = s.lane := rfl
@[simp] theorem stepTag_pollPromote : (stepTag s).pollPromote = s.pollPromote := rfl
@[simp] theorem stepTag_motionQueue : (stepTag s).motionQueue = s.motionQueue := rfl
@[simp] theorem stepTag_internalBatches : (stepTag s).internalBatches = s.internalBatches := rfl
@[simp] theorem stepTag_nextFrame : (stepTag s).nextFrame = s.nextFrame := rfl
@[simp] theorem stepTag_onWire : (stepTag s).onWire = s.onWire := rfl
@[simp] theorem stepTag_pollTimers : (stepTag s).pollTimers = s.pollTimers := rfl
@[simp] theorem stepTag_silence : (stepTag s).silence = s.silence := rfl
@[simp] theorem stepTag_causeRecord : (stepTag s).causeRecord = s.causeRecord := rfl
@[simp] theorem stepTag_notices : (stepTag s).notices = s.notices := rfl
@[simp] theorem stepTag_relayQueue : (stepTag s).relayQueue = s.relayQueue := rfl
@[simp] theorem stepTag_replySlot : (stepTag s).replySlot = s.replySlot := rfl
@[simp] theorem stepTag_uWire : (stepTag s).uWire = s.uWire := rfl
@[simp] theorem stepTag_lastWasNotice : (stepTag s).lastWasNotice = s.lastWasNotice := rfl

/-! ## stepSeq -/

@[simp] theorem stepSeq_pending (n : Nat) : (stepSeq s n).pending = s.pending := rfl
@[simp] theorem stepSeq_lineClock (n : Nat) : (stepSeq s n).lineClock = s.lineClock := rfl
@[simp] theorem stepSeq_hoists (n : Nat) : (stepSeq s n).hoists = s.hoists := rfl
@[simp] theorem stepSeq_groups (n : Nat) : (stepSeq s n).groups = s.groups := rfl
@[simp] theorem stepSeq_addressMap (n : Nat) : (stepSeq s n).addressMap = s.addressMap := rfl
@[simp] theorem stepSeq_filters (n : Nat) : (stepSeq s n).filters = s.filters := rfl
@[simp] theorem stepSeq_trackPool (n : Nat) : (stepSeq s n).trackPool = s.trackPool := rfl
@[simp] theorem stepSeq_line (n : Nat) : (stepSeq s n).line = s.line := rfl
@[simp] theorem stepSeq_rigIdentity (n : Nat) : (stepSeq s n).rigIdentity = s.rigIdentity := rfl
@[simp] theorem stepSeq_motionEnable (n : Nat) : (stepSeq s n).motionEnable = s.motionEnable := rfl
@[simp] theorem stepSeq_portMode (n : Nat) : (stepSeq s n).portMode = s.portMode := rfl
@[simp] theorem stepSeq_tagCounter (n : Nat) : (stepSeq s n).tagCounter = s.tagCounter := rfl
@[simp] theorem stepSeq_batchSerial (n : Nat) : (stepSeq s n).batchSerial = s.batchSerial := rfl
@[simp] theorem stepSeq_intake (n : Nat) : (stepSeq s n).intake = s.intake := rfl
@[simp] theorem stepSeq_lane (n : Nat) : (stepSeq s n).lane = s.lane := rfl
@[simp] theorem stepSeq_pollPromote (n : Nat) : (stepSeq s n).pollPromote = s.pollPromote := rfl
@[simp] theorem stepSeq_motionQueue (n : Nat) : (stepSeq s n).motionQueue = s.motionQueue := rfl
@[simp] theorem stepSeq_internalBatches (n : Nat) : (stepSeq s n).internalBatches = s.internalBatches := rfl
@[simp] theorem stepSeq_nextFrame (n : Nat) : (stepSeq s n).nextFrame = s.nextFrame := rfl
@[simp] theorem stepSeq_onWire (n : Nat) : (stepSeq s n).onWire = s.onWire := rfl
@[simp] theorem stepSeq_pollTimers (n : Nat) : (stepSeq s n).pollTimers = s.pollTimers := rfl
@[simp] theorem stepSeq_silence (n : Nat) : (stepSeq s n).silence = s.silence := rfl
@[simp] theorem stepSeq_causeRecord (n : Nat) : (stepSeq s n).causeRecord = s.causeRecord := rfl
@[simp] theorem stepSeq_notices (n : Nat) : (stepSeq s n).notices = s.notices := rfl
@[simp] theorem stepSeq_relayQueue (n : Nat) : (stepSeq s n).relayQueue = s.relayQueue := rfl
@[simp] theorem stepSeq_replySlot (n : Nat) : (stepSeq s n).replySlot = s.replySlot := rfl
@[simp] theorem stepSeq_uWire (n : Nat) : (stepSeq s n).uWire = s.uWire := rfl
@[simp] theorem stepSeq_lastWasNotice (n : Nat) : (stepSeq s n).lastWasNotice = s.lastWasNotice := rfl

/-! ## stepSerial -/

@[simp] theorem stepSerial_pending : (stepSerial s).pending = s.pending := rfl
@[simp] theorem stepSerial_lineClock : (stepSerial s).lineClock = s.lineClock := rfl
@[simp] theorem stepSerial_hoists : (stepSerial s).hoists = s.hoists := rfl
@[simp] theorem stepSerial_groups : (stepSerial s).groups = s.groups := rfl
@[simp] theorem stepSerial_addressMap : (stepSerial s).addressMap = s.addressMap := rfl
@[simp] theorem stepSerial_filters : (stepSerial s).filters = s.filters := rfl
@[simp] theorem stepSerial_trackPool : (stepSerial s).trackPool = s.trackPool := rfl
@[simp] theorem stepSerial_line : (stepSerial s).line = s.line := rfl
@[simp] theorem stepSerial_rigIdentity : (stepSerial s).rigIdentity = s.rigIdentity := rfl
@[simp] theorem stepSerial_motionEnable : (stepSerial s).motionEnable = s.motionEnable := rfl
@[simp] theorem stepSerial_portMode : (stepSerial s).portMode = s.portMode := rfl
@[simp] theorem stepSerial_tagCounter : (stepSerial s).tagCounter = s.tagCounter := rfl
@[simp] theorem stepSerial_seqCounter : (stepSerial s).seqCounter = s.seqCounter := rfl
@[simp] theorem stepSerial_intake : (stepSerial s).intake = s.intake := rfl
@[simp] theorem stepSerial_lane : (stepSerial s).lane = s.lane := rfl
@[simp] theorem stepSerial_pollPromote : (stepSerial s).pollPromote = s.pollPromote := rfl
@[simp] theorem stepSerial_motionQueue : (stepSerial s).motionQueue = s.motionQueue := rfl
@[simp] theorem stepSerial_internalBatches : (stepSerial s).internalBatches = s.internalBatches := rfl
@[simp] theorem stepSerial_nextFrame : (stepSerial s).nextFrame = s.nextFrame := rfl
@[simp] theorem stepSerial_onWire : (stepSerial s).onWire = s.onWire := rfl
@[simp] theorem stepSerial_pollTimers : (stepSerial s).pollTimers = s.pollTimers := rfl
@[simp] theorem stepSerial_silence : (stepSerial s).silence = s.silence := rfl
@[simp] theorem stepSerial_causeRecord : (stepSerial s).causeRecord = s.causeRecord := rfl
@[simp] theorem stepSerial_notices : (stepSerial s).notices = s.notices := rfl
@[simp] theorem stepSerial_relayQueue : (stepSerial s).relayQueue = s.relayQueue := rfl
@[simp] theorem stepSerial_replySlot : (stepSerial s).replySlot = s.replySlot := rfl
@[simp] theorem stepSerial_uWire : (stepSerial s).uWire = s.uWire := rfl
@[simp] theorem stepSerial_lastWasNotice : (stepSerial s).lastWasNotice = s.lastWasNotice := rfl

/-! ## cancelBatch -/

@[simp] theorem cancelBatch_pending (g : GroupNo) : (cancelBatch s g).pending = s.pending := rfl
@[simp] theorem cancelBatch_lineClock (g : GroupNo) : (cancelBatch s g).lineClock = s.lineClock := rfl
@[simp] theorem cancelBatch_hoists (g : GroupNo) : (cancelBatch s g).hoists = s.hoists := rfl
@[simp] theorem cancelBatch_groups (g : GroupNo) : (cancelBatch s g).groups = s.groups := rfl
@[simp] theorem cancelBatch_addressMap (g : GroupNo) : (cancelBatch s g).addressMap = s.addressMap := rfl
@[simp] theorem cancelBatch_filters (g : GroupNo) : (cancelBatch s g).filters = s.filters := rfl
@[simp] theorem cancelBatch_trackPool (g : GroupNo) : (cancelBatch s g).trackPool = s.trackPool := rfl
@[simp] theorem cancelBatch_line (g : GroupNo) : (cancelBatch s g).line = s.line := rfl
@[simp] theorem cancelBatch_rigIdentity (g : GroupNo) : (cancelBatch s g).rigIdentity = s.rigIdentity := rfl
@[simp] theorem cancelBatch_motionEnable (g : GroupNo) : (cancelBatch s g).motionEnable = s.motionEnable := rfl
@[simp] theorem cancelBatch_portMode (g : GroupNo) : (cancelBatch s g).portMode = s.portMode := rfl
@[simp] theorem cancelBatch_tagCounter (g : GroupNo) : (cancelBatch s g).tagCounter = s.tagCounter := rfl
@[simp] theorem cancelBatch_seqCounter (g : GroupNo) : (cancelBatch s g).seqCounter = s.seqCounter := rfl
@[simp] theorem cancelBatch_batchSerial (g : GroupNo) : (cancelBatch s g).batchSerial = s.batchSerial := rfl
@[simp] theorem cancelBatch_intake (g : GroupNo) : (cancelBatch s g).intake = s.intake := rfl
@[simp] theorem cancelBatch_lane (g : GroupNo) : (cancelBatch s g).lane = s.lane := rfl
@[simp] theorem cancelBatch_pollPromote (g : GroupNo) : (cancelBatch s g).pollPromote = s.pollPromote := rfl
@[simp] theorem cancelBatch_motionQueue (g : GroupNo) : (cancelBatch s g).motionQueue = s.motionQueue := rfl
@[simp] theorem cancelBatch_nextFrame (g : GroupNo) : (cancelBatch s g).nextFrame = s.nextFrame := rfl
@[simp] theorem cancelBatch_onWire (g : GroupNo) : (cancelBatch s g).onWire = s.onWire := rfl
@[simp] theorem cancelBatch_pollTimers (g : GroupNo) : (cancelBatch s g).pollTimers = s.pollTimers := rfl
@[simp] theorem cancelBatch_silence (g : GroupNo) : (cancelBatch s g).silence = s.silence := rfl
@[simp] theorem cancelBatch_causeRecord (g : GroupNo) : (cancelBatch s g).causeRecord = s.causeRecord := rfl
@[simp] theorem cancelBatch_notices (g : GroupNo) : (cancelBatch s g).notices = s.notices := rfl
@[simp] theorem cancelBatch_relayQueue (g : GroupNo) : (cancelBatch s g).relayQueue = s.relayQueue := rfl
@[simp] theorem cancelBatch_replySlot (g : GroupNo) : (cancelBatch s g).replySlot = s.replySlot := rfl
@[simp] theorem cancelBatch_uWire (g : GroupNo) : (cancelBatch s g).uWire = s.uWire := rfl
@[simp] theorem cancelBatch_lastWasNotice (g : GroupNo) : (cancelBatch s g).lastWasNotice = s.lastWasNotice := rfl

/-! ## Records after an update -/

@[simp] theorem hoistAt_putHoist_self (h : Slot) (r : Hoist) : hoistAt (putHoist s h r) h = r := by
  simp [hoistAt, putHoist]

theorem hoistAt_putHoist (h k : Slot) (r : Hoist) : hoistAt (putHoist s h r) k = if k = h then r else hoistAt s k := by
  simp [hoistAt, putHoist, Table.get_set]

@[simp] theorem hoistAt_changeHoists (f : Slot → Hoist → Hoist) (h : Slot) :
    hoistAt (changeHoists s f) h = f h (hoistAt s h) := by
  simp [hoistAt, changeHoists]

theorem liveAt_changeLive (h k : Slot) (f : HoistLive → HoistLive) :
    liveAt (changeLive s h f) k = if k = h then f (liveAt s h) else liveAt s k := by
  unfold changeLive liveAt
  rw [hoistAt_putHoist]
  split <;> rfl

@[simp] theorem liveAt_changeLive_self (h : Slot) (f : HoistLive → HoistLive) :
    liveAt (changeLive s h f) h = f (liveAt s h) := by
  simp [liveAt_changeLive]

@[simp] theorem cfgAt_changeLive (h k : Slot) (f : HoistLive → HoistLive) : cfgAt (changeLive s h f) k = cfgAt s k := by
  unfold changeLive cfgAt
  rw [hoistAt_putHoist]
  split
  · next e => rw [e]
  · rfl

@[simp] theorem groupAt_putGroup_self (g : GroupNo) (r : Group) : groupAt (putGroup s g r) g = r := by
  simp [groupAt, putGroup]

theorem groupAt_putGroup (g k : GroupNo) (r : Group) : groupAt (putGroup s g r) k = if k = g then r else groupAt s k := by
  simp [groupAt, putGroup, Table.get_set]

@[simp] theorem groupAt_changeGroups (f : GroupNo → Group → Group) (g : GroupNo) :
    groupAt (changeGroups s f) g = f g (groupAt s g) := by
  simp [groupAt, changeGroups]

theorem groupAt_changeGroup (g k : GroupNo) (f : GroupLive → GroupLive) :
    groupAt (changeGroup s g f) k =
      if k = g then { groupAt s g with live := f (groupAt s g).live } else groupAt s k := by
  unfold changeGroup
  rw [groupAt_putGroup]

@[simp] theorem groupAt_changeGroup_self (g : GroupNo) (f : GroupLive → GroupLive) :
    groupAt (changeGroup s g f) g = { groupAt s g with live := f (groupAt s g).live } := by
  simp [groupAt_changeGroup]

@[simp] theorem cfg_groupAt_changeGroup (g k : GroupNo) (f : GroupLive → GroupLive) :
    (groupAt (changeGroup s g f) k).cfg = (groupAt s k).cfg := by
  rw [groupAt_changeGroup]
  split
  · next e => rw [e]
  · rfl

/-! ## Reads that an update of other fields does not reach -/

@[simp] theorem hoistAt_changeGroup (g : GroupNo) (f : GroupLive → GroupLive) (h : Slot) :
    hoistAt (changeGroup s g f) h = hoistAt s h := rfl

@[simp] theorem groupAt_changeLive (h : Slot) (f : HoistLive → HoistLive) (g : GroupNo) :
    groupAt (changeLive s h f) g = groupAt s g := rfl

@[simp] theorem groupAt_changeHoists (f : Slot → Hoist → Hoist) (g : GroupNo) :
    groupAt (changeHoists s f) g = groupAt s g := rfl

@[simp] theorem armed_changeLive (h : Slot) (f : HoistLive → HoistLive) (g : GroupNo) :
    armed (changeLive s h f) g = armed s g := rfl

@[simp] theorem isMember_changeLive (h : Slot) (f : HoistLive → HoistLive) (g : GroupNo) (k : Slot) :
    isMember (changeLive s h f) g k = isMember s g k := by
  simp [isMember]

@[simp] theorem members_changeLive (h : Slot) (f : HoistLive → HoistLive) (g : GroupNo) :
    members (changeLive s h f) g = members s g := by
  simp [members, funext (isMember_changeLive s h f g)]

/-- The group of a hoist does not depend on its live part (R7). -/
@[simp] theorem groupOf_changeLive (h : Slot) (f : HoistLive → HoistLive) (k : Slot) :
    groupOf (changeLive s h f) k = groupOf s k := by
  simp [groupOf]

@[simp] theorem armedGroupOf_changeLive (h : Slot) (f : HoistLive → HoistLive) (k : Slot) :
    armedGroupOf (changeLive s h f) k = armedGroupOf s k := by
  simp [armedGroupOf]

@[simp] theorem slotOfAddr_changeLive (h : Slot) (f : HoistLive → HoistLive) (a : LineAddr) :
    slotOfAddr (changeLive s h f) a = slotOfAddr s a := rfl

@[simp] theorem addrOfSlot_changeLive (h : Slot) (f : HoistLive → HoistLive) (k : Slot) :
    addrOfSlot (changeLive s h f) k = addrOfSlot s k := rfl

/-! ## Membership (R7) -/

/-- The members of a group are its Present hoists. -/
@[simp] theorem mem_members (g : GroupNo) (h : Slot) : h ∈ members s g ↔ isMember s g h = true := by
  simp [members, allSlots]

end Sys2Proof.Machine
end

