-- ==== Sys2Proof/Laws/Ops.lean ====
section
/-! SUPPORT. One lemma for each shared operation that says once what it can do, and the fields each leaves alone, so that no
later proof unfolds a notice, a cause, an admission or the taking of an Intake head. -/

namespace Sys2Proof.Machine

/-! ## Notices and causes -/

/-- A raise does nothing at level 0 and otherwise writes the source's record alone (R175). -/
theorem raiseNotice_cases (s : State) (src : NoticeSource) (p : NoticePayload) :
    (noticeLevel s (sourceIndex src) = 0 ∧ raiseNotice s src p = s) ∨
    (noticeLevel s (sourceIndex src) ≠ 0 ∧ raiseNotice s src p =
      { s with
        notices := s.notices.set (sourceIndex src) (some
          { repeated := (s.notices.get (sourceIndex src)).isSome, hoist := p.hoist, group := p.group, code := p.code,
            detail := p.detail, relatedSeq := p.relatedSeq, time := s.lineClock }) }) := by
  by_cases h : noticeLevel s (sourceIndex src) = 0
  · exact .inl ⟨h, by simp [raiseNotice, h]⟩
  · exact .inr ⟨h, by simp [raiseNotice, h]⟩

/-- A recorded stop writes an empty Cause Record and otherwise adds to Later Causes alone (R171). -/
theorem recordCause_cases (s : State) (c : CauseReport) :
    (s.causeRecord = none ∧ recordCause s c =
      { s with
        causeRecord := some
          { first := c.cause, time := s.lineClock, hoist := c.hoist, group := c.group,
            filterHits := if c.cause = .filter then c.hits else none, capture := c.capture, later := [] } }) ∨
    ∃ r, s.causeRecord = some r ∧
      recordCause s c = { s with causeRecord := some { r with later := addCause c.cause r.later } } := by
  cases h : s.causeRecord with
  | none => exact .inl ⟨rfl, by simp [recordCause, h]⟩
  | some r => exact .inr ⟨r, rfl, by simp [recordCause, h]⟩

/-! ### Fields that a notice, a cause and an admission leave alone -/

@[simp] theorem raiseNotice_pending (s : State) (src : NoticeSource) (p : NoticePayload) : (raiseNotice s src p).pending = s.pending := by
  unfold raiseNotice; split <;> rfl
@[simp] theorem raiseNotice_lineClock (s : State) (src : NoticeSource) (p : NoticePayload) : (raiseNotice s src p).lineClock = s.lineClock := by
  unfold raiseNotice; split <;> rfl
@[simp] theorem raiseNotice_hoists (s : State) (src : NoticeSource) (p : NoticePayload) : (raiseNotice s src p).hoists = s.hoists := by
  unfold raiseNotice; split <;> rfl
@[simp] theorem raiseNotice_groups (s : State) (src : NoticeSource) (p : NoticePayload) : (raiseNotice s src p).groups = s.groups := by
  unfold raiseNotice; split <;> rfl
@[simp] theorem raiseNotice_addressMap (s : State) (src : NoticeSource) (p : NoticePayload) : (raiseNotice s src p).addressMap = s.addressMap := by
  unfold raiseNotice; split <;> rfl
@[simp] theorem raiseNotice_filters (s : State) (src : NoticeSource) (p : NoticePayload) : (raiseNotice s src p).filters = s.filters := by
  unfold raiseNotice; split <;> rfl
@[simp] theorem raiseNotice_trackPool (s : State) (src : NoticeSource) (p : NoticePayload) : (raiseNotice s src p).trackPool = s.trackPool := by
  unfold raiseNotice; split <;> rfl
@[simp] theorem raiseNotice_line (s : State) (src : NoticeSource) (p : NoticePayload) : (raiseNotice s src p).line = s.line := by
  unfold raiseNotice; split <;> rfl
@[simp] theorem raiseNotice_rigIdentity (s : State) (src : NoticeSource) (p : NoticePayload) : (raiseNotice s src p).rigIdentity = s.rigIdentity := by
  unfold raiseNotice; split <;> rfl
@[simp] theorem raiseNotice_motionEnable (s : State) (src : NoticeSource) (p : NoticePayload) : (raiseNotice s src p).motionEnable = s.motionEnable := by
  unfold raiseNotice; split <;> rfl
@[simp] theorem raiseNotice_portMode (s : State) (src : NoticeSource) (p : NoticePayload) : (raiseNotice s src p).portMode = s.portMode := by
  unfold raiseNotice; split <;> rfl
@[simp] theorem raiseNotice_tagCounter (s : State) (src : NoticeSource) (p : NoticePayload) : (raiseNotice s src p).tagCounter = s.tagCounter := by
  unfold raiseNotice; split <;> rfl
@[simp] theorem raiseNotice_seqCounter (s : State) (src : NoticeSource) (p : NoticePayload) : (raiseNotice s src p).seqCounter = s.seqCounter := by
  unfold raiseNotice; split <;> rfl
@[simp] theorem raiseNotice_batchSerial (s : State) (src : NoticeSource) (p : NoticePayload) : (raiseNotice s src p).batchSerial = s.batchSerial := by
  unfold raiseNotice; split <;> rfl
@[simp] theorem raiseNotice_intake (s : State) (src : NoticeSource) (p : NoticePayload) : (raiseNotice s src p).intake = s.intake := by
  unfold raiseNotice; split <;> rfl
@[simp] theorem raiseNotice_lane (s : State) (src : NoticeSource) (p : NoticePayload) : (raiseNotice s src p).lane = s.lane := by
  unfold raiseNotice; split <;> rfl
@[simp] theorem raiseNotice_pollPromote (s : State) (src : NoticeSource) (p : NoticePayload) : (raiseNotice s src p).pollPromote = s.pollPromote := by
  unfold raiseNotice; split <;> rfl
@[simp] theorem raiseNotice_motionQueue (s : State) (src : NoticeSource) (p : NoticePayload) : (raiseNotice s src p).motionQueue = s.motionQueue := by
  unfold raiseNotice; split <;> rfl
@[simp] theorem raiseNotice_internalBatches (s : State) (src : NoticeSource) (p : NoticePayload) : (raiseNotice s src p).internalBatches = s.internalBatches := by
  unfold raiseNotice; split <;> rfl
@[simp] theorem raiseNotice_nextFrame (s : State) (src : NoticeSource) (p : NoticePayload) : (raiseNotice s src p).nextFrame = s.nextFrame := by
  unfold raiseNotice; split <;> rfl
@[simp] theorem raiseNotice_onWire (s : State) (src : NoticeSource) (p : NoticePayload) : (raiseNotice s src p).onWire = s.onWire := by
  unfold raiseNotice; split <;> rfl
@[simp] theorem raiseNotice_pollTimers (s : State) (src : NoticeSource) (p : NoticePayload) : (raiseNotice s src p).pollTimers = s.pollTimers := by
  unfold raiseNotice; split <;> rfl
@[simp] theorem raiseNotice_silence (s : State) (src : NoticeSource) (p : NoticePayload) : (raiseNotice s src p).silence = s.silence := by
  unfold raiseNotice; split <;> rfl
@[simp] theorem raiseNotice_causeRecord (s : State) (src : NoticeSource) (p : NoticePayload) : (raiseNotice s src p).causeRecord = s.causeRecord := by
  unfold raiseNotice; split <;> rfl
@[simp] theorem raiseNotice_relayQueue (s : State) (src : NoticeSource) (p : NoticePayload) : (raiseNotice s src p).relayQueue = s.relayQueue := by
  unfold raiseNotice; split <;> rfl
@[simp] theorem raiseNotice_replySlot (s : State) (src : NoticeSource) (p : NoticePayload) : (raiseNotice s src p).replySlot = s.replySlot := by
  unfold raiseNotice; split <;> rfl
@[simp] theorem raiseNotice_uWire (s : State) (src : NoticeSource) (p : NoticePayload) : (raiseNotice s src p).uWire = s.uWire := by
  unfold raiseNotice; split <;> rfl
@[simp] theorem raiseNotice_lastWasNotice (s : State) (src : NoticeSource) (p : NoticePayload) : (raiseNotice s src p).lastWasNotice = s.lastWasNotice := by
  unfold raiseNotice; split <;> rfl

@[simp] theorem recordCause_pending (s : State) (c : CauseReport) : (recordCause s c).pending = s.pending := by
  unfold recordCause; split <;> rfl
@[simp] theorem recordCause_lineClock (s : State) (c : CauseReport) : (recordCause s c).lineClock = s.lineClock := by
  unfold recordCause; split <;> rfl
@[simp] theorem recordCause_hoists (s : State) (c : CauseReport) : (recordCause s c).hoists = s.hoists := by
  unfold recordCause; split <;> rfl
@[simp] theorem recordCause_groups (s : State) (c : CauseReport) : (recordCause s c).groups = s.groups := by
  unfold recordCause; split <;> rfl
@[simp] theorem recordCause_addressMap (s : State) (c : CauseReport) : (recordCause s c).addressMap = s.addressMap := by
  unfold recordCause; split <;> rfl
@[simp] theorem recordCause_filters (s : State) (c : CauseReport) : (recordCause s c).filters = s.filters := by
  unfold recordCause; split <;> rfl
@[simp] theorem recordCause_trackPool (s : State) (c : CauseReport) : (recordCause s c).trackPool = s.trackPool := by
  unfold recordCause; split <;> rfl
@[simp] theorem recordCause_line (s : State) (c : CauseReport) : (recordCause s c).line = s.line := by
  unfold recordCause; split <;> rfl
@[simp] theorem recordCause_rigIdentity (s : State) (c : CauseReport) : (recordCause s c).rigIdentity = s.rigIdentity := by
  unfold recordCause; split <;> rfl
@[simp] theorem recordCause_motionEnable (s : State) (c : CauseReport) : (recordCause s c).motionEnable = s.motionEnable := by
  unfold recordCause; split <;> rfl
@[simp] theorem recordCause_portMode (s : State) (c : CauseReport) : (recordCause s c).portMode = s.portMode := by
  unfold recordCause; split <;> rfl
@[simp] theorem recordCause_tagCounter (s : State) (c : CauseReport) : (recordCause s c).tagCounter = s.tagCounter := by
  unfold recordCause; split <;> rfl
@[simp] theorem recordCause_seqCounter (s : State) (c : CauseReport) : (recordCause s c).seqCounter = s.seqCounter := by
  unfold recordCause; split <;> rfl
@[simp] theorem recordCause_batchSerial (s : State) (c : CauseReport) : (recordCause s c).batchSerial = s.batchSerial := by
  unfold recordCause; split <;> rfl
@[simp] theorem recordCause_intake (s : State) (c : CauseReport) : (recordCause s c).intake = s.intake := by
  unfold recordCause; split <;> rfl
@[simp] theorem recordCause_lane (s : State) (c : CauseReport) : (recordCause s c).lane = s.lane := by
  unfold recordCause; split <;> rfl
@[simp] theorem recordCause_pollPromote (s : State) (c : CauseReport) : (recordCause s c).pollPromote = s.pollPromote := by
  unfold recordCause; split <;> rfl
@[simp] theorem recordCause_motionQueue (s : State) (c : CauseReport) : (recordCause s c).motionQueue = s.motionQueue := by
  unfold recordCause; split <;> rfl
@[simp] theorem recordCause_internalBatches (s : State) (c : CauseReport) : (recordCause s c).internalBatches = s.internalBatches := by
  unfold recordCause; split <;> rfl
@[simp] theorem recordCause_nextFrame (s : State) (c : CauseReport) : (recordCause s c).nextFrame = s.nextFrame := by
  unfold recordCause; split <;> rfl
@[simp] theorem recordCause_onWire (s : State) (c : CauseReport) : (recordCause s c).onWire = s.onWire := by
  unfold recordCause; split <;> rfl
@[simp] theorem recordCause_pollTimers (s : State) (c : CauseReport) : (recordCause s c).pollTimers = s.pollTimers := by
  unfold recordCause; split <;> rfl
@[simp] theorem recordCause_silence (s : State) (c : CauseReport) : (recordCause s c).silence = s.silence := by
  unfold recordCause; split <;> rfl
@[simp] theorem recordCause_notices (s : State) (c : CauseReport) : (recordCause s c).notices = s.notices := by
  unfold recordCause; split <;> rfl
@[simp] theorem recordCause_relayQueue (s : State) (c : CauseReport) : (recordCause s c).relayQueue = s.relayQueue := by
  unfold recordCause; split <;> rfl
@[simp] theorem recordCause_replySlot (s : State) (c : CauseReport) : (recordCause s c).replySlot = s.replySlot := by
  unfold recordCause; split <;> rfl
@[simp] theorem recordCause_uWire (s : State) (c : CauseReport) : (recordCause s c).uWire = s.uWire := by
  unfold recordCause; split <;> rfl
@[simp] theorem recordCause_lastWasNotice (s : State) (c : CauseReport) : (recordCause s c).lastWasNotice = s.lastWasNotice := by
  unfold recordCause; split <;> rfl

@[simp] theorem recordStop_pending (s : State) (o : StopIssue) : (recordStop s o).pending = s.pending := by
  unfold recordStop; split <;> simp
@[simp] theorem recordStop_lineClock (s : State) (o : StopIssue) : (recordStop s o).lineClock = s.lineClock := by
  unfold recordStop; split <;> simp
@[simp] theorem recordStop_hoists (s : State) (o : StopIssue) : (recordStop s o).hoists = s.hoists := by
  unfold recordStop; split <;> simp
@[simp] theorem recordStop_groups (s : State) (o : StopIssue) : (recordStop s o).groups = s.groups := by
  unfold recordStop; split <;> simp
@[simp] theorem recordStop_addressMap (s : State) (o : StopIssue) : (recordStop s o).addressMap = s.addressMap := by
  unfold recordStop; split <;> simp
@[simp] theorem recordStop_filters (s : State) (o : StopIssue) : (recordStop s o).filters = s.filters := by
  unfold recordStop; split <;> simp
@[simp] theorem recordStop_trackPool (s : State) (o : StopIssue) : (recordStop s o).trackPool = s.trackPool := by
  unfold recordStop; split <;> simp
@[simp] theorem recordStop_line (s : State) (o : StopIssue) : (recordStop s o).line = s.line := by
  unfold recordStop; split <;> simp
@[simp] theorem recordStop_rigIdentity (s : State) (o : StopIssue) : (recordStop s o).rigIdentity = s.rigIdentity := by
  unfold recordStop; split <;> simp
@[simp] theorem recordStop_motionEnable (s : State) (o : StopIssue) : (recordStop s o).motionEnable = s.motionEnable := by
  unfold recordStop; split <;> simp
@[simp] theorem recordStop_portMode (s : State) (o : StopIssue) : (recordStop s o).portMode = s.portMode := by
  unfold recordStop; split <;> simp
@[simp] theorem recordStop_tagCounter (s : State) (o : StopIssue) : (recordStop s o).tagCounter = s.tagCounter := by
  unfold recordStop; split <;> simp
@[simp] theorem recordStop_seqCounter (s : State) (o : StopIssue) : (recordStop s o).seqCounter = s.seqCounter := by
  unfold recordStop; split <;> simp
@[simp] theorem recordStop_batchSerial (s : State) (o : StopIssue) : (recordStop s o).batchSerial = s.batchSerial := by
  unfold recordStop; split <;> simp
@[simp] theorem recordStop_intake (s : State) (o : StopIssue) : (recordStop s o).intake = s.intake := by
  unfold recordStop; split <;> simp
@[simp] theorem recordStop_lane (s : State) (o : StopIssue) : (recordStop s o).lane = s.lane := by
  unfold recordStop; split <;> simp
@[simp] theorem recordStop_pollPromote (s : State) (o : StopIssue) : (recordStop s o).pollPromote = s.pollPromote := by
  unfold recordStop; split <;> simp
@[simp] theorem recordStop_motionQueue (s : State) (o : StopIssue) : (recordStop s o).motionQueue = s.motionQueue := by
  unfold recordStop; split <;> simp
@[simp] theorem recordStop_internalBatches (s : State) (o : StopIssue) : (recordStop s o).internalBatches = s.internalBatches := by
  unfold recordStop; split <;> simp
@[simp] theorem recordStop_nextFrame (s : State) (o : StopIssue) : (recordStop s o).nextFrame = s.nextFrame := by
  unfold recordStop; split <;> simp
@[simp] theorem recordStop_onWire (s : State) (o : StopIssue) : (recordStop s o).onWire = s.onWire := by
  unfold recordStop; split <;> simp
@[simp] theorem recordStop_pollTimers (s : State) (o : StopIssue) : (recordStop s o).pollTimers = s.pollTimers := by
  unfold recordStop; split <;> simp
@[simp] theorem recordStop_silence (s : State) (o : StopIssue) : (recordStop s o).silence = s.silence := by
  unfold recordStop; split <;> simp
@[simp] theorem recordStop_notices (s : State) (o : StopIssue) : (recordStop s o).notices = s.notices := by
  unfold recordStop; split <;> simp
@[simp] theorem recordStop_relayQueue (s : State) (o : StopIssue) : (recordStop s o).relayQueue = s.relayQueue := by
  unfold recordStop; split <;> simp
@[simp] theorem recordStop_replySlot (s : State) (o : StopIssue) : (recordStop s o).replySlot = s.replySlot := by
  unfold recordStop; split <;> simp
@[simp] theorem recordStop_uWire (s : State) (o : StopIssue) : (recordStop s o).uWire = s.uWire := by
  unfold recordStop; split <;> simp
@[simp] theorem recordStop_lastWasNotice (s : State) (o : StopIssue) : (recordStop s o).lastWasNotice = s.lastWasNotice := by
  unfold recordStop; split <;> simp

@[simp] theorem stopHoists_pending (s : State) (o : StopIssue) : (stopHoists s o).pending = s.pending := by
  rfl
@[simp] theorem stopHoists_lineClock (s : State) (o : StopIssue) : (stopHoists s o).lineClock = s.lineClock := by
  rfl
@[simp] theorem stopHoists_groups (s : State) (o : StopIssue) : (stopHoists s o).groups = s.groups := by
  rfl
@[simp] theorem stopHoists_addressMap (s : State) (o : StopIssue) : (stopHoists s o).addressMap = s.addressMap := by
  rfl
@[simp] theorem stopHoists_filters (s : State) (o : StopIssue) : (stopHoists s o).filters = s.filters := by
  rfl
@[simp] theorem stopHoists_trackPool (s : State) (o : StopIssue) : (stopHoists s o).trackPool = s.trackPool := by
  rfl
@[simp] theorem stopHoists_line (s : State) (o : StopIssue) : (stopHoists s o).line = s.line := by
  rfl
@[simp] theorem stopHoists_rigIdentity (s : State) (o : StopIssue) : (stopHoists s o).rigIdentity = s.rigIdentity := by
  rfl
@[simp] theorem stopHoists_motionEnable (s : State) (o : StopIssue) : (stopHoists s o).motionEnable = s.motionEnable := by
  rfl
@[simp] theorem stopHoists_portMode (s : State) (o : StopIssue) : (stopHoists s o).portMode = s.portMode := by
  rfl
@[simp] theorem stopHoists_tagCounter (s : State) (o : StopIssue) : (stopHoists s o).tagCounter = s.tagCounter := by
  rfl
@[simp] theorem stopHoists_seqCounter (s : State) (o : StopIssue) : (stopHoists s o).seqCounter = s.seqCounter := by
  rfl
@[simp] theorem stopHoists_batchSerial (s : State) (o : StopIssue) : (stopHoists s o).batchSerial = s.batchSerial := by
  rfl
@[simp] theorem stopHoists_intake (s : State) (o : StopIssue) : (stopHoists s o).intake = s.intake := by
  rfl
@[simp] theorem stopHoists_lane (s : State) (o : StopIssue) : (stopHoists s o).lane = s.lane := by
  rfl
@[simp] theorem stopHoists_pollPromote (s : State) (o : StopIssue) : (stopHoists s o).pollPromote = s.pollPromote := by
  rfl
@[simp] theorem stopHoists_motionQueue (s : State) (o : StopIssue) : (stopHoists s o).motionQueue = s.motionQueue := by
  rfl
@[simp] theorem stopHoists_internalBatches (s : State) (o : StopIssue) : (stopHoists s o).internalBatches = s.internalBatches := by
  rfl
@[simp] theorem stopHoists_nextFrame (s : State) (o : StopIssue) : (stopHoists s o).nextFrame = s.nextFrame := by
  rfl
@[simp] theorem stopHoists_onWire (s : State) (o : StopIssue) : (stopHoists s o).onWire = s.onWire := by
  rfl
@[simp] theorem stopHoists_pollTimers (s : State) (o : StopIssue) : (stopHoists s o).pollTimers = s.pollTimers := by
  rfl
@[simp] theorem stopHoists_silence (s : State) (o : StopIssue) : (stopHoists s o).silence = s.silence := by
  rfl
@[simp] theorem stopHoists_causeRecord (s : State) (o : StopIssue) : (stopHoists s o).causeRecord = s.causeRecord := by
  rfl
@[simp] theorem stopHoists_notices (s : State) (o : StopIssue) : (stopHoists s o).notices = s.notices := by
  rfl
@[simp] theorem stopHoists_relayQueue (s : State) (o : StopIssue) : (stopHoists s o).relayQueue = s.relayQueue := by
  rfl
@[simp] theorem stopHoists_replySlot (s : State) (o : StopIssue) : (stopHoists s o).replySlot = s.replySlot := by
  rfl
@[simp] theorem stopHoists_uWire (s : State) (o : StopIssue) : (stopHoists s o).uWire = s.uWire := by
  rfl
@[simp] theorem stopHoists_lastWasNotice (s : State) (o : StopIssue) : (stopHoists s o).lastWasNotice = s.lastWasNotice := by
  rfl

@[simp] theorem stopGroups_pending (s : State) (o : StopIssue) : (stopGroups s o).pending = s.pending := by
  rfl
@[simp] theorem stopGroups_lineClock (s : State) (o : StopIssue) : (stopGroups s o).lineClock = s.lineClock := by
  rfl
@[simp] theorem stopGroups_hoists (s : State) (o : StopIssue) : (stopGroups s o).hoists = s.hoists := by
  rfl
@[simp] theorem stopGroups_addressMap (s : State) (o : StopIssue) : (stopGroups s o).addressMap = s.addressMap := by
  rfl
@[simp] theorem stopGroups_filters (s : State) (o : StopIssue) : (stopGroups s o).filters = s.filters := by
  rfl
@[simp] theorem stopGroups_trackPool (s : State) (o : StopIssue) : (stopGroups s o).trackPool = s.trackPool := by
  rfl
@[simp] theorem stopGroups_line (s : State) (o : StopIssue) : (stopGroups s o).line = s.line := by
  rfl
@[simp] theorem stopGroups_rigIdentity (s : State) (o : StopIssue) : (stopGroups s o).rigIdentity = s.rigIdentity := by
  rfl
@[simp] theorem stopGroups_motionEnable (s : State) (o : StopIssue) : (stopGroups s o).motionEnable = s.motionEnable := by
  rfl
@[simp] theorem stopGroups_portMode (s : State) (o : StopIssue) : (stopGroups s o).portMode = s.portMode := by
  rfl
@[simp] theorem stopGroups_tagCounter (s : State) (o : StopIssue) : (stopGroups s o).tagCounter = s.tagCounter := by
  rfl
@[simp] theorem stopGroups_seqCounter (s : State) (o : StopIssue) : (stopGroups s o).seqCounter = s.seqCounter := by
  rfl
@[simp] theorem stopGroups_batchSerial (s : State) (o : StopIssue) : (stopGroups s o).batchSerial = s.batchSerial := by
  rfl
@[simp] theorem stopGroups_intake (s : State) (o : StopIssue) : (stopGroups s o).intake = s.intake := by
  rfl
@[simp] theorem stopGroups_lane (s : State) (o : StopIssue) : (stopGroups s o).lane = s.lane := by
  rfl
@[simp] theorem stopGroups_pollPromote (s : State) (o : StopIssue) : (stopGroups s o).pollPromote = s.pollPromote := by
  rfl
@[simp] theorem stopGroups_motionQueue (s : State) (o : StopIssue) : (stopGroups s o).motionQueue = s.motionQueue := by
  rfl
@[simp] theorem stopGroups_nextFrame (s : State) (o : StopIssue) : (stopGroups s o).nextFrame = s.nextFrame := by
  rfl
@[simp] theorem stopGroups_onWire (s : State) (o : StopIssue) : (stopGroups s o).onWire = s.onWire := by
  rfl
@[simp] theorem stopGroups_pollTimers (s : State) (o : StopIssue) : (stopGroups s o).pollTimers = s.pollTimers := by
  rfl
@[simp] theorem stopGroups_silence (s : State) (o : StopIssue) : (stopGroups s o).silence = s.silence := by
  rfl
@[simp] theorem stopGroups_causeRecord (s : State) (o : StopIssue) : (stopGroups s o).causeRecord = s.causeRecord := by
  rfl
@[simp] theorem stopGroups_notices (s : State) (o : StopIssue) : (stopGroups s o).notices = s.notices := by
  rfl
@[simp] theorem stopGroups_relayQueue (s : State) (o : StopIssue) : (stopGroups s o).relayQueue = s.relayQueue := by
  rfl
@[simp] theorem stopGroups_replySlot (s : State) (o : StopIssue) : (stopGroups s o).replySlot = s.replySlot := by
  rfl
@[simp] theorem stopGroups_uWire (s : State) (o : StopIssue) : (stopGroups s o).uWire = s.uWire := by
  rfl
@[simp] theorem stopGroups_lastWasNotice (s : State) (o : StopIssue) : (stopGroups s o).lastWasNotice = s.lastWasNotice := by
  rfl

@[simp] theorem purge_pending (s : State) (sc : Scope) : (purge s sc).pending = s.pending := by
  rfl
@[simp] theorem purge_lineClock (s : State) (sc : Scope) : (purge s sc).lineClock = s.lineClock := by
  rfl
@[simp] theorem purge_hoists (s : State) (sc : Scope) : (purge s sc).hoists = s.hoists := by
  rfl
@[simp] theorem purge_groups (s : State) (sc : Scope) : (purge s sc).groups = s.groups := by
  rfl
@[simp] theorem purge_addressMap (s : State) (sc : Scope) : (purge s sc).addressMap = s.addressMap := by
  rfl
@[simp] theorem purge_filters (s : State) (sc : Scope) : (purge s sc).filters = s.filters := by
  rfl
@[simp] theorem purge_trackPool (s : State) (sc : Scope) : (purge s sc).trackPool = s.trackPool := by
  rfl
@[simp] theorem purge_line (s : State) (sc : Scope) : (purge s sc).line = s.line := by
  rfl
@[simp] theorem purge_rigIdentity (s : State) (sc : Scope) : (purge s sc).rigIdentity = s.rigIdentity := by
  rfl
@[simp] theorem purge_motionEnable (s : State) (sc : Scope) : (purge s sc).motionEnable = s.motionEnable := by
  rfl
@[simp] theorem purge_portMode (s : State) (sc : Scope) : (purge s sc).portMode = s.portMode := by
  rfl
@[simp] theorem purge_tagCounter (s : State) (sc : Scope) : (purge s sc).tagCounter = s.tagCounter := by
  rfl
@[simp] theorem purge_seqCounter (s : State) (sc : Scope) : (purge s sc).seqCounter = s.seqCounter := by
  rfl
@[simp] theorem purge_batchSerial (s : State) (sc : Scope) : (purge s sc).batchSerial = s.batchSerial := by
  rfl
@[simp] theorem purge_intake (s : State) (sc : Scope) : (purge s sc).intake = s.intake := by
  rfl
@[simp] theorem purge_lane (s : State) (sc : Scope) : (purge s sc).lane = s.lane := by
  rfl
@[simp] theorem purge_pollPromote (s : State) (sc : Scope) : (purge s sc).pollPromote = s.pollPromote := by
  rfl
@[simp] theorem purge_internalBatches (s : State) (sc : Scope) : (purge s sc).internalBatches = s.internalBatches := by
  rfl
@[simp] theorem purge_onWire (s : State) (sc : Scope) : (purge s sc).onWire = s.onWire := by
  rfl
@[simp] theorem purge_pollTimers (s : State) (sc : Scope) : (purge s sc).pollTimers = s.pollTimers := by
  rfl
@[simp] theorem purge_silence (s : State) (sc : Scope) : (purge s sc).silence = s.silence := by
  rfl
@[simp] theorem purge_causeRecord (s : State) (sc : Scope) : (purge s sc).causeRecord = s.causeRecord := by
  rfl
@[simp] theorem purge_notices (s : State) (sc : Scope) : (purge s sc).notices = s.notices := by
  rfl
@[simp] theorem purge_relayQueue (s : State) (sc : Scope) : (purge s sc).relayQueue = s.relayQueue := by
  rfl
@[simp] theorem purge_replySlot (s : State) (sc : Scope) : (purge s sc).replySlot = s.replySlot := by
  rfl
@[simp] theorem purge_uWire (s : State) (sc : Scope) : (purge s sc).uWire = s.uWire := by
  rfl
@[simp] theorem purge_lastWasNotice (s : State) (sc : Scope) : (purge s sc).lastWasNotice = s.lastWasNotice := by
  rfl

@[simp] theorem admissionEffects_pending (s : State) (o : StopIssue) : (admissionEffects s o).pending = s.pending := by
  simp [admissionEffects]
@[simp] theorem admissionEffects_lineClock (s : State) (o : StopIssue) : (admissionEffects s o).lineClock = s.lineClock := by
  simp [admissionEffects]
@[simp] theorem admissionEffects_addressMap (s : State) (o : StopIssue) : (admissionEffects s o).addressMap = s.addressMap := by
  simp [admissionEffects]
@[simp] theorem admissionEffects_filters (s : State) (o : StopIssue) : (admissionEffects s o).filters = s.filters := by
  simp [admissionEffects]
@[simp] theorem admissionEffects_trackPool (s : State) (o : StopIssue) : (admissionEffects s o).trackPool = s.trackPool := by
  simp [admissionEffects]
@[simp] theorem admissionEffects_line (s : State) (o : StopIssue) : (admissionEffects s o).line = s.line := by
  simp [admissionEffects]
@[simp] theorem admissionEffects_rigIdentity (s : State) (o : StopIssue) : (admissionEffects s o).rigIdentity = s.rigIdentity := by
  simp [admissionEffects]
@[simp] theorem admissionEffects_motionEnable (s : State) (o : StopIssue) : (admissionEffects s o).motionEnable = s.motionEnable := by
  simp [admissionEffects]
@[simp] theorem admissionEffects_portMode (s : State) (o : StopIssue) : (admissionEffects s o).portMode = s.portMode := by
  simp [admissionEffects]
@[simp] theorem admissionEffects_tagCounter (s : State) (o : StopIssue) : (admissionEffects s o).tagCounter = s.tagCounter := by
  simp [admissionEffects]
@[simp] theorem admissionEffects_seqCounter (s : State) (o : StopIssue) : (admissionEffects s o).seqCounter = s.seqCounter := by
  simp [admissionEffects]
@[simp] theorem admissionEffects_batchSerial (s : State) (o : StopIssue) : (admissionEffects s o).batchSerial = s.batchSerial := by
  simp [admissionEffects]
@[simp] theorem admissionEffects_intake (s : State) (o : StopIssue) : (admissionEffects s o).intake = s.intake := by
  simp [admissionEffects]
@[simp] theorem admissionEffects_lane (s : State) (o : StopIssue) : (admissionEffects s o).lane = s.lane := by
  simp [admissionEffects]
@[simp] theorem admissionEffects_pollPromote (s : State) (o : StopIssue) : (admissionEffects s o).pollPromote = s.pollPromote := by
  simp [admissionEffects]
@[simp] theorem admissionEffects_onWire (s : State) (o : StopIssue) : (admissionEffects s o).onWire = s.onWire := by
  simp [admissionEffects]
@[simp] theorem admissionEffects_pollTimers (s : State) (o : StopIssue) : (admissionEffects s o).pollTimers = s.pollTimers := by
  simp [admissionEffects]
@[simp] theorem admissionEffects_silence (s : State) (o : StopIssue) : (admissionEffects s o).silence = s.silence := by
  simp [admissionEffects]
@[simp] theorem admissionEffects_notices (s : State) (o : StopIssue) : (admissionEffects s o).notices = s.notices := by
  simp [admissionEffects]
@[simp] theorem admissionEffects_relayQueue (s : State) (o : StopIssue) : (admissionEffects s o).relayQueue = s.relayQueue := by
  simp [admissionEffects]
@[simp] theorem admissionEffects_replySlot (s : State) (o : StopIssue) : (admissionEffects s o).replySlot = s.replySlot := by
  simp [admissionEffects]
@[simp] theorem admissionEffects_uWire (s : State) (o : StopIssue) : (admissionEffects s o).uWire = s.uWire := by
  simp [admissionEffects]
@[simp] theorem admissionEffects_lastWasNotice (s : State) (o : StopIssue) : (admissionEffects s o).lastWasNotice = s.lastWasNotice := by
  simp [admissionEffects]

@[simp] theorem stopNotice_pending (s : State) (o : StopIssue) : (stopNotice s o).pending = s.pending := by
  unfold stopNotice; split <;> simp
@[simp] theorem stopNotice_lineClock (s : State) (o : StopIssue) : (stopNotice s o).lineClock = s.lineClock := by
  unfold stopNotice; split <;> simp
@[simp] theorem stopNotice_hoists (s : State) (o : StopIssue) : (stopNotice s o).hoists = s.hoists := by
  unfold stopNotice; split <;> simp
@[simp] theorem stopNotice_groups (s : State) (o : StopIssue) : (stopNotice s o).groups = s.groups := by
  unfold stopNotice; split <;> simp
@[simp] theorem stopNotice_addressMap (s : State) (o : StopIssue) : (stopNotice s o).addressMap = s.addressMap := by
  unfold stopNotice; split <;> simp
@[simp] theorem stopNotice_filters (s : State) (o : StopIssue) : (stopNotice s o).filters = s.filters := by
  unfold stopNotice; split <;> simp
@[simp] theorem stopNotice_trackPool (s : State) (o : StopIssue) : (stopNotice s o).trackPool = s.trackPool := by
  unfold stopNotice; split <;> simp
@[simp] theorem stopNotice_line (s : State) (o : StopIssue) : (stopNotice s o).line = s.line := by
  unfold stopNotice; split <;> simp
@[simp] theorem stopNotice_rigIdentity (s : State) (o : StopIssue) : (stopNotice s o).rigIdentity = s.rigIdentity := by
  unfold stopNotice; split <;> simp
@[simp] theorem stopNotice_motionEnable (s : State) (o : StopIssue) : (stopNotice s o).motionEnable = s.motionEnable := by
  unfold stopNotice; split <;> simp
@[simp] theorem stopNotice_portMode (s : State) (o : StopIssue) : (stopNotice s o).portMode = s.portMode := by
  unfold stopNotice; split <;> simp
@[simp] theorem stopNotice_tagCounter (s : State) (o : StopIssue) : (stopNotice s o).tagCounter = s.tagCounter := by
  unfold stopNotice; split <;> simp
@[simp] theorem stopNotice_seqCounter (s : State) (o : StopIssue) : (stopNotice s o).seqCounter = s.seqCounter := by
  unfold stopNotice; split <;> simp
@[simp] theorem stopNotice_batchSerial (s : State) (o : StopIssue) : (stopNotice s o).batchSerial = s.batchSerial := by
  unfold stopNotice; split <;> simp
@[simp] theorem stopNotice_intake (s : State) (o : StopIssue) : (stopNotice s o).intake = s.intake := by
  unfold stopNotice; split <;> simp
@[simp] theorem stopNotice_lane (s : State) (o : StopIssue) : (stopNotice s o).lane = s.lane := by
  unfold stopNotice; split <;> simp
@[simp] theorem stopNotice_pollPromote (s : State) (o : StopIssue) : (stopNotice s o).pollPromote = s.pollPromote := by
  unfold stopNotice; split <;> simp
@[simp] theorem stopNotice_motionQueue (s : State) (o : StopIssue) : (stopNotice s o).motionQueue = s.motionQueue := by
  unfold stopNotice; split <;> simp
@[simp] theorem stopNotice_internalBatches (s : State) (o : StopIssue) : (stopNotice s o).internalBatches = s.internalBatches := by
  unfold stopNotice; split <;> simp
@[simp] theorem stopNotice_nextFrame (s : State) (o : StopIssue) : (stopNotice s o).nextFrame = s.nextFrame := by
  unfold stopNotice; split <;> simp
@[simp] theorem stopNotice_onWire (s : State) (o : StopIssue) : (stopNotice s o).onWire = s.onWire := by
  unfold stopNotice; split <;> simp
@[simp] theorem stopNotice_pollTimers (s : State) (o : StopIssue) : (stopNotice s o).pollTimers = s.pollTimers := by
  unfold stopNotice; split <;> simp
@[simp] theorem stopNotice_silence (s : State) (o : StopIssue) : (stopNotice s o).silence = s.silence := by
  unfold stopNotice; split <;> simp
@[simp] theorem stopNotice_causeRecord (s : State) (o : StopIssue) : (stopNotice s o).causeRecord = s.causeRecord := by
  unfold stopNotice; split <;> simp
@[simp] theorem stopNotice_relayQueue (s : State) (o : StopIssue) : (stopNotice s o).relayQueue = s.relayQueue := by
  unfold stopNotice; split <;> simp
@[simp] theorem stopNotice_replySlot (s : State) (o : StopIssue) : (stopNotice s o).replySlot = s.replySlot := by
  unfold stopNotice; split <;> simp
@[simp] theorem stopNotice_uWire (s : State) (o : StopIssue) : (stopNotice s o).uWire = s.uWire := by
  unfold stopNotice; split <;> simp
@[simp] theorem stopNotice_lastWasNotice (s : State) (o : StopIssue) : (stopNotice s o).lastWasNotice = s.lastWasNotice := by
  unfold stopNotice; split <;> simp

@[simp] theorem raiseClamp_pending (s : State) (a b : Bool) (d : Byte) (h : Option Slot) (g : Option GroupNo) (q : Byte) : (raiseClamp s a b d h g q).pending = s.pending := by
  unfold raiseClamp; split <;> simp
@[simp] theorem raiseClamp_lineClock (s : State) (a b : Bool) (d : Byte) (h : Option Slot) (g : Option GroupNo) (q : Byte) : (raiseClamp s a b d h g q).lineClock = s.lineClock := by
  unfold raiseClamp; split <;> simp
@[simp] theorem raiseClamp_hoists (s : State) (a b : Bool) (d : Byte) (h : Option Slot) (g : Option GroupNo) (q : Byte) : (raiseClamp s a b d h g q).hoists = s.hoists := by
  unfold raiseClamp; split <;> simp
@[simp] theorem raiseClamp_groups (s : State) (a b : Bool) (d : Byte) (h : Option Slot) (g : Option GroupNo) (q : Byte) : (raiseClamp s a b d h g q).groups = s.groups := by
  unfold raiseClamp; split <;> simp
@[simp] theorem raiseClamp_addressMap (s : State) (a b : Bool) (d : Byte) (h : Option Slot) (g : Option GroupNo) (q : Byte) : (raiseClamp s a b d h g q).addressMap = s.addressMap := by
  unfold raiseClamp; split <;> simp
@[simp] theorem raiseClamp_filters (s : State) (a b : Bool) (d : Byte) (h : Option Slot) (g : Option GroupNo) (q : Byte) : (raiseClamp s a b d h g q).filters = s.filters := by
  unfold raiseClamp; split <;> simp
@[simp] theorem raiseClamp_trackPool (s : State) (a b : Bool) (d : Byte) (h : Option Slot) (g : Option GroupNo) (q : Byte) : (raiseClamp s a b d h g q).trackPool = s.trackPool := by
  unfold raiseClamp; split <;> simp
@[simp] theorem raiseClamp_line (s : State) (a b : Bool) (d : Byte) (h : Option Slot) (g : Option GroupNo) (q : Byte) : (raiseClamp s a b d h g q).line = s.line := by
  unfold raiseClamp; split <;> simp
@[simp] theorem raiseClamp_rigIdentity (s : State) (a b : Bool) (d : Byte) (h : Option Slot) (g : Option GroupNo) (q : Byte) : (raiseClamp s a b d h g q).rigIdentity = s.rigIdentity := by
  unfold raiseClamp; split <;> simp
@[simp] theorem raiseClamp_motionEnable (s : State) (a b : Bool) (d : Byte) (h : Option Slot) (g : Option GroupNo) (q : Byte) : (raiseClamp s a b d h g q).motionEnable = s.motionEnable := by
  unfold raiseClamp; split <;> simp
@[simp] theorem raiseClamp_portMode (s : State) (a b : Bool) (d : Byte) (h : Option Slot) (g : Option GroupNo) (q : Byte) : (raiseClamp s a b d h g q).portMode = s.portMode := by
  unfold raiseClamp; split <;> simp
@[simp] theorem raiseClamp_tagCounter (s : State) (a b : Bool) (d : Byte) (h : Option Slot) (g : Option GroupNo) (q : Byte) : (raiseClamp s a b d h g q).tagCounter = s.tagCounter := by
  unfold raiseClamp; split <;> simp
@[simp] theorem raiseClamp_seqCounter (s : State) (a b : Bool) (d : Byte) (h : Option Slot) (g : Option GroupNo) (q : Byte) : (raiseClamp s a b d h g q).seqCounter = s.seqCounter := by
  unfold raiseClamp; split <;> simp
@[simp] theorem raiseClamp_batchSerial (s : State) (a b : Bool) (d : Byte) (h : Option Slot) (g : Option GroupNo) (q : Byte) : (raiseClamp s a b d h g q).batchSerial = s.batchSerial := by
  unfold raiseClamp; split <;> simp
@[simp] theorem raiseClamp_intake (s : State) (a b : Bool) (d : Byte) (h : Option Slot) (g : Option GroupNo) (q : Byte) : (raiseClamp s a b d h g q).intake = s.intake := by
  unfold raiseClamp; split <;> simp
@[simp] theorem raiseClamp_lane (s : State) (a b : Bool) (d : Byte) (h : Option Slot) (g : Option GroupNo) (q : Byte) : (raiseClamp s a b d h g q).lane = s.lane := by
  unfold raiseClamp; split <;> simp
@[simp] theorem raiseClamp_pollPromote (s : State) (a b : Bool) (d : Byte) (h : Option Slot) (g : Option GroupNo) (q : Byte) : (raiseClamp s a b d h g q).pollPromote = s.pollPromote := by
  unfold raiseClamp; split <;> simp
@[simp] theorem raiseClamp_motionQueue (s : State) (a b : Bool) (d : Byte) (h : Option Slot) (g : Option GroupNo) (q : Byte) : (raiseClamp s a b d h g q).motionQueue = s.motionQueue := by
  unfold raiseClamp; split <;> simp
@[simp] theorem raiseClamp_internalBatches (s : State) (a b : Bool) (d : Byte) (h : Option Slot) (g : Option GroupNo) (q : Byte) : (raiseClamp s a b d h g q).internalBatches = s.internalBatches := by
  unfold raiseClamp; split <;> simp
@[simp] theorem raiseClamp_nextFrame (s : State) (a b : Bool) (d : Byte) (h : Option Slot) (g : Option GroupNo) (q : Byte) : (raiseClamp s a b d h g q).nextFrame = s.nextFrame := by
  unfold raiseClamp; split <;> simp
@[simp] theorem raiseClamp_onWire (s : State) (a b : Bool) (d : Byte) (h : Option Slot) (g : Option GroupNo) (q : Byte) : (raiseClamp s a b d h g q).onWire = s.onWire := by
  unfold raiseClamp; split <;> simp
@[simp] theorem raiseClamp_pollTimers (s : State) (a b : Bool) (d : Byte) (h : Option Slot) (g : Option GroupNo) (q : Byte) : (raiseClamp s a b d h g q).pollTimers = s.pollTimers := by
  unfold raiseClamp; split <;> simp
@[simp] theorem raiseClamp_silence (s : State) (a b : Bool) (d : Byte) (h : Option Slot) (g : Option GroupNo) (q : Byte) : (raiseClamp s a b d h g q).silence = s.silence := by
  unfold raiseClamp; split <;> simp
@[simp] theorem raiseClamp_causeRecord (s : State) (a b : Bool) (d : Byte) (h : Option Slot) (g : Option GroupNo) (q : Byte) : (raiseClamp s a b d h g q).causeRecord = s.causeRecord := by
  unfold raiseClamp; split <;> simp
@[simp] theorem raiseClamp_relayQueue (s : State) (a b : Bool) (d : Byte) (h : Option Slot) (g : Option GroupNo) (q : Byte) : (raiseClamp s a b d h g q).relayQueue = s.relayQueue := by
  unfold raiseClamp; split <;> simp
@[simp] theorem raiseClamp_replySlot (s : State) (a b : Bool) (d : Byte) (h : Option Slot) (g : Option GroupNo) (q : Byte) : (raiseClamp s a b d h g q).replySlot = s.replySlot := by
  unfold raiseClamp; split <;> simp
@[simp] theorem raiseClamp_uWire (s : State) (a b : Bool) (d : Byte) (h : Option Slot) (g : Option GroupNo) (q : Byte) : (raiseClamp s a b d h g q).uWire = s.uWire := by
  unfold raiseClamp; split <;> simp
@[simp] theorem raiseClamp_lastWasNotice (s : State) (a b : Bool) (d : Byte) (h : Option Slot) (g : Option GroupNo) (q : Byte) : (raiseClamp s a b d h g q).lastWasNotice = s.lastWasNotice := by
  unfold raiseClamp; split <;> simp

/-! ## Admissions -/

/-- An admission either changes the lane by steps 1 to 4 of R131 and takes its effects, or collapses the lane (R133). -/
theorem admitStop_cases (s : State) (o : StopIssue) :
    (∃ lane, laneAfter s o = some lane ∧
      admitStop s o = stopNotice (admissionEffects { s with lane := lane } o) o) ∨
    (laneAfter s o = none ∧ admitStop s o = collapse s o) := by
  cases h : laneAfter s o with
  | none => exact .inr ⟨rfl, by simp [admitStop, h]⟩
  | some lane => exact .inl ⟨lane, rfl, by simp [admitStop, h]⟩

@[simp] theorem collapse_pending (s : State) (o : StopIssue) : (collapse s o).pending = s.pending := by
  simp [collapse]
@[simp] theorem collapse_lineClock (s : State) (o : StopIssue) : (collapse s o).lineClock = s.lineClock := by
  simp [collapse]
@[simp] theorem collapse_addressMap (s : State) (o : StopIssue) : (collapse s o).addressMap = s.addressMap := by
  simp [collapse]
@[simp] theorem collapse_filters (s : State) (o : StopIssue) : (collapse s o).filters = s.filters := by
  simp [collapse]
@[simp] theorem collapse_trackPool (s : State) (o : StopIssue) : (collapse s o).trackPool = s.trackPool := by
  simp [collapse]
@[simp] theorem collapse_line (s : State) (o : StopIssue) : (collapse s o).line = s.line := by
  simp [collapse]
@[simp] theorem collapse_rigIdentity (s : State) (o : StopIssue) : (collapse s o).rigIdentity = s.rigIdentity := by
  simp [collapse]
@[simp] theorem collapse_motionEnable (s : State) (o : StopIssue) : (collapse s o).motionEnable = s.motionEnable := by
  simp [collapse]
@[simp] theorem collapse_portMode (s : State) (o : StopIssue) : (collapse s o).portMode = s.portMode := by
  simp [collapse]
@[simp] theorem collapse_tagCounter (s : State) (o : StopIssue) : (collapse s o).tagCounter = s.tagCounter := by
  simp [collapse]
@[simp] theorem collapse_seqCounter (s : State) (o : StopIssue) : (collapse s o).seqCounter = s.seqCounter := by
  simp [collapse]
@[simp] theorem collapse_batchSerial (s : State) (o : StopIssue) : (collapse s o).batchSerial = s.batchSerial := by
  simp [collapse]
@[simp] theorem collapse_intake (s : State) (o : StopIssue) : (collapse s o).intake = s.intake := by
  simp [collapse]
@[simp] theorem collapse_pollPromote (s : State) (o : StopIssue) : (collapse s o).pollPromote = s.pollPromote := by
  simp [collapse]
@[simp] theorem collapse_onWire (s : State) (o : StopIssue) : (collapse s o).onWire = s.onWire := by
  simp [collapse]
@[simp] theorem collapse_pollTimers (s : State) (o : StopIssue) : (collapse s o).pollTimers = s.pollTimers := by
  simp [collapse]
@[simp] theorem collapse_silence (s : State) (o : StopIssue) : (collapse s o).silence = s.silence := by
  simp [collapse]
@[simp] theorem collapse_relayQueue (s : State) (o : StopIssue) : (collapse s o).relayQueue = s.relayQueue := by
  simp [collapse]
@[simp] theorem collapse_replySlot (s : State) (o : StopIssue) : (collapse s o).replySlot = s.replySlot := by
  simp [collapse]
@[simp] theorem collapse_uWire (s : State) (o : StopIssue) : (collapse s o).uWire = s.uWire := by
  simp [collapse]
@[simp] theorem collapse_lastWasNotice (s : State) (o : StopIssue) : (collapse s o).lastWasNotice = s.lastWasNotice := by
  simp [collapse]

@[simp] theorem admitStop_pending (s : State) (o : StopIssue) : (admitStop s o).pending = s.pending := by
  unfold admitStop; split <;> simp
@[simp] theorem admitStop_lineClock (s : State) (o : StopIssue) : (admitStop s o).lineClock = s.lineClock := by
  unfold admitStop; split <;> simp
@[simp] theorem admitStop_addressMap (s : State) (o : StopIssue) : (admitStop s o).addressMap = s.addressMap := by
  unfold admitStop; split <;> simp
@[simp] theorem admitStop_filters (s : State) (o : StopIssue) : (admitStop s o).filters = s.filters := by
  unfold admitStop; split <;> simp
@[simp] theorem admitStop_trackPool (s : State) (o : StopIssue) : (admitStop s o).trackPool = s.trackPool := by
  unfold admitStop; split <;> simp
@[simp] theorem admitStop_line (s : State) (o : StopIssue) : (admitStop s o).line = s.line := by
  unfold admitStop; split <;> simp
@[simp] theorem admitStop_rigIdentity (s : State) (o : StopIssue) : (admitStop s o).rigIdentity = s.rigIdentity := by
  unfold admitStop; split <;> simp
@[simp] theorem admitStop_motionEnable (s : State) (o : StopIssue) : (admitStop s o).motionEnable = s.motionEnable := by
  unfold admitStop; split <;> simp
@[simp] theorem admitStop_portMode (s : State) (o : StopIssue) : (admitStop s o).portMode = s.portMode := by
  unfold admitStop; split <;> simp
@[simp] theorem admitStop_tagCounter (s : State) (o : StopIssue) : (admitStop s o).tagCounter = s.tagCounter := by
  unfold admitStop; split <;> simp
@[simp] theorem admitStop_seqCounter (s : State) (o : StopIssue) : (admitStop s o).seqCounter = s.seqCounter := by
  unfold admitStop; split <;> simp
@[simp] theorem admitStop_batchSerial (s : State) (o : StopIssue) : (admitStop s o).batchSerial = s.batchSerial := by
  unfold admitStop; split <;> simp
@[simp] theorem admitStop_intake (s : State) (o : StopIssue) : (admitStop s o).intake = s.intake := by
  unfold admitStop; split <;> simp
@[simp] theorem admitStop_pollPromote (s : State) (o : StopIssue) : (admitStop s o).pollPromote = s.pollPromote := by
  unfold admitStop; split <;> simp
@[simp] theorem admitStop_onWire (s : State) (o : StopIssue) : (admitStop s o).onWire = s.onWire := by
  unfold admitStop; split <;> simp
@[simp] theorem admitStop_pollTimers (s : State) (o : StopIssue) : (admitStop s o).pollTimers = s.pollTimers := by
  unfold admitStop; split <;> simp
@[simp] theorem admitStop_silence (s : State) (o : StopIssue) : (admitStop s o).silence = s.silence := by
  unfold admitStop; split <;> simp
@[simp] theorem admitStop_relayQueue (s : State) (o : StopIssue) : (admitStop s o).relayQueue = s.relayQueue := by
  unfold admitStop; split <;> simp
@[simp] theorem admitStop_replySlot (s : State) (o : StopIssue) : (admitStop s o).replySlot = s.replySlot := by
  unfold admitStop; split <;> simp
@[simp] theorem admitStop_uWire (s : State) (o : StopIssue) : (admitStop s o).uWire = s.uWire := by
  unfold admitStop; split <;> simp
@[simp] theorem admitStop_lastWasNotice (s : State) (o : StopIssue) : (admitStop s o).lastWasNotice = s.lastWasNotice := by
  unfold admitStop; split <;> simp

@[simp] theorem issueStop_pending (s : State) (o : StopIssue) : (issueStop s o).pending = s.pending := by
  simp [issueStop]
@[simp] theorem issueStop_lineClock (s : State) (o : StopIssue) : (issueStop s o).lineClock = s.lineClock := by
  simp [issueStop]
@[simp] theorem issueStop_addressMap (s : State) (o : StopIssue) : (issueStop s o).addressMap = s.addressMap := by
  simp [issueStop]
@[simp] theorem issueStop_filters (s : State) (o : StopIssue) : (issueStop s o).filters = s.filters := by
  simp [issueStop]
@[simp] theorem issueStop_trackPool (s : State) (o : StopIssue) : (issueStop s o).trackPool = s.trackPool := by
  simp [issueStop]
@[simp] theorem issueStop_line (s : State) (o : StopIssue) : (issueStop s o).line = s.line := by
  simp [issueStop]
@[simp] theorem issueStop_rigIdentity (s : State) (o : StopIssue) : (issueStop s o).rigIdentity = s.rigIdentity := by
  simp [issueStop]
@[simp] theorem issueStop_motionEnable (s : State) (o : StopIssue) : (issueStop s o).motionEnable = s.motionEnable := by
  simp [issueStop]
@[simp] theorem issueStop_portMode (s : State) (o : StopIssue) : (issueStop s o).portMode = s.portMode := by
  simp [issueStop]
@[simp] theorem issueStop_tagCounter (s : State) (o : StopIssue) : (issueStop s o).tagCounter = s.tagCounter := by
  simp [issueStop]
@[simp] theorem issueStop_seqCounter (s : State) (o : StopIssue) : (issueStop s o).seqCounter = s.seqCounter := by
  simp [issueStop]
@[simp] theorem issueStop_batchSerial (s : State) (o : StopIssue) : (issueStop s o).batchSerial = s.batchSerial := by
  simp [issueStop]
@[simp] theorem issueStop_intake (s : State) (o : StopIssue) : (issueStop s o).intake = s.intake := by
  simp [issueStop]
@[simp] theorem issueStop_pollPromote (s : State) (o : StopIssue) : (issueStop s o).pollPromote = s.pollPromote := by
  simp [issueStop]
@[simp] theorem issueStop_onWire (s : State) (o : StopIssue) : (issueStop s o).onWire = s.onWire := by
  simp [issueStop]
@[simp] theorem issueStop_pollTimers (s : State) (o : StopIssue) : (issueStop s o).pollTimers = s.pollTimers := by
  simp [issueStop]
@[simp] theorem issueStop_silence (s : State) (o : StopIssue) : (issueStop s o).silence = s.silence := by
  simp [issueStop]
@[simp] theorem issueStop_relayQueue (s : State) (o : StopIssue) : (issueStop s o).relayQueue = s.relayQueue := by
  simp [issueStop]
@[simp] theorem issueStop_replySlot (s : State) (o : StopIssue) : (issueStop s o).replySlot = s.replySlot := by
  simp [issueStop]
@[simp] theorem issueStop_uWire (s : State) (o : StopIssue) : (issueStop s o).uWire = s.uWire := by
  simp [issueStop]
@[simp] theorem issueStop_lastWasNotice (s : State) (o : StopIssue) : (issueStop s o).lastWasNotice = s.lastWasNotice := by
  simp [issueStop]

/-- An order of an armed group's member is issued on the group, and every other order as it is (R21). -/
theorem widen_cases (s : State) (o : StopIssue) :
    (∃ h g, o.scope = .hoist h ∧ armedGroupOf s h = some g ∧ widen s o = { o with scope := .group g }) ∨
    ((∀ h, o.scope = .hoist h → armedGroupOf s h = none) ∧ widen s o = o) := by
  unfold widen
  cases hs : o.scope with
  | hoist h =>
    cases hg : armedGroupOf s h with
    | none => exact .inr ⟨by simp_all, by simp [hg]⟩
    | some g => exact .inl ⟨h, g, rfl, hg, by simp [hg]⟩
  | group g => exact .inr ⟨by simp, rfl⟩
  | all => exact .inr ⟨by simp, rfl⟩
  | raw a => exact .inr ⟨by simp, rfl⟩

/-- The lane after an admission: the order alone, merged, in place of those it replaces, or behind the others while there is
room (R131). -/
theorem laneAfter_cases (s : State) (o : StopIssue) (lane : List StopOrder) (h : laneAfter s o = some lane) :
    (o.kind = .halt ∧ o.scope = .all ∧ lane = [laneOrder s o]) ∨
    ((∃ x ∈ s.lane, absorbs s o x = true) ∧ lane = mergeLane s o s.lane) ∨
    ((∃ x ∈ s.lane, replaces s o x = true) ∧
      lane = enterLane (laneOrder s o) (s.lane.filter fun x => !replaces s o x)) ∨
    (s.lane.length < 4 ∧ lane = enterLane (laneOrder s o) s.lane) := by
  unfold laneAfter at h
  split at h
  · next hc => exact .inl ⟨hc.1, hc.2, (Option.some.inj h).symm⟩
  · split at h
    · next ha => exact .inr (.inl ⟨by simpa using ha, (Option.some.inj h).symm⟩)
    · split at h
      · next hr => exact .inr (.inr (.inl ⟨by simpa using hr, (Option.some.inj h).symm⟩))
      · split at h
        · next hl => exact .inr (.inr (.inr ⟨hl, (Option.some.inj h).symm⟩))
        · cases h

/-- Entering the lane adds the order and keeps every other (R129). -/
theorem mem_enterLane (o x : StopOrder) (lane : List StopOrder) : x ∈ enterLane o lane ↔ x = o ∨ x ∈ lane := by
  cases h : o.kind with
  | hold => simp [enterLane, h, or_comm]
  | halt =>
    cases hx : x.kind <;> simp [enterLane, h, hx, or_comm]

/-- A merge keeps the number of orders in the lane (R132). -/
@[simp] theorem length_mergeLane (s : State) (o : StopIssue) (lane : List StopOrder) :
    (mergeLane s o lane).length = lane.length := by
  induction lane with
  | nil => rfl
  | cons x xs ih => unfold mergeLane; split <;> simp [ih]

/-- A merged Pending List holds the slots of both lists and no other (R132). -/
theorem mem_mergeSlots (xs ys : List Slot) (h : Slot) : h ∈ mergeSlots xs ys ↔ h ∈ xs ∨ h ∈ ys := by
  simp [mergeSlots, allSlots]

/-! ## The Intake head -/

/-- The Intake head is taken by a consumer that acts, or nothing happens (R48). -/
theorem takeHead_cases (s : State) (act : IntakeEntry → State → Option State) :
    (∃ e rest u, s.intake = e :: rest ∧ act e { s with intake := rest } = some u ∧ takeHead s act = .next (finish u)) ∨
    ((∀ e rest, s.intake = e :: rest → act e { s with intake := rest } = none) ∧ takeHead s act = .next s) := by
  unfold takeHead
  cases h : s.intake with
  | nil => exact .inr ⟨by simp, rfl⟩
  | cons e rest =>
    cases ha : act e { s with intake := rest } with
    | none => exact .inr ⟨by intro e' r' he; cases he; exact ha, by simp [ha]⟩
    | some u => exact .inl ⟨e, rest, u, rfl, ha, by simp [ha]⟩

/-! ## Polls and validation -/

/-- A POLL may pass the Motion Queue when no entry has its Dest and none belongs to a batch partly sent (R141). -/
theorem mayPass_iff (s : State) (a : LineAddr) :
    mayPass s a = true ↔ ∀ e ∈ s.motionQueue, e.frame.dest ≠ a ∧ isBegun e = false := by
  simp [mayPass, forall_and]

/-- The due slots are those whose hoist is due (R152). -/
theorem mem_dueSlots (s : State) (h : Slot) : h ∈ dueSlots s ↔ isDue s h = true := by
  simp [dueSlots, allSlots]

/-- Validation answers the first check that fails (R186). -/
theorem firstFailure_eq (checks : List (Bool × Nat × Reason)) :
    firstFailure checks = (checks.find? (·.1)).map (·.2) := by
  induction checks with
  | nil => rfl
  | cons c rest ih => obtain ⟨fails, i, r⟩ := c; cases fails <;> simp [firstFailure, ih]

/-! ## Batches -/

/-- The frames of a console batch, when every member has an address: one per member in slot order, each with the GMOVE's
Src and Seq (R91). -/
theorem batchEntries_console (s : State) (p : BatchPlan) (src : LineAddr) (q : Byte) (addr : Slot → LineAddr)
    (ho : p.origin = .console src q) (hs : List Slot) (ha : ∀ h ∈ hs, addrOfSlot s h = some (addr h)) (seq : Byte) :
    batchEntries s p hs seq = hs.map fun h =>
      { frame := moveFrame (addr h) src q (memberTarget s p.base h) p.speed p.tag
        role := .batch h s.batchSerial false } := by
  induction hs generalizing seq with
  | nil => rfl
  | cons h hs ih =>
    have h1 := ha h (by simp)
    simp [batchEntries, h1, ho, ih fun k hk => ha k (by simp [hk])]

/-- The frames of a batch of the part's own, when every member has an address: one per member in slot order, each with the
next Seq (R33, R96, R121). -/
theorem batchEntries_part (s : State) (p : BatchPlan) (addr : Slot → LineAddr) (ho : p.origin = .part) (hs : List Slot)
    (ha : ∀ h ∈ hs, addrOfSlot s h = some (addr h)) (seq : Byte) :
    batchEntries s p hs seq = hs.mapIdx fun i h =>
      { frame := moveFrame (addr h) interlockAddr (seq + BitVec.ofNat 8 i) (memberTarget s p.base h) p.speed p.tag
        role := .batch h s.batchSerial false } := by
  induction hs generalizing seq with
  | nil => rfl
  | cons h hs ih =>
    have h1 := ha h (by simp)
    simp only [batchEntries, h1, ho, ih fun k hk => ha k (by simp [hk]), List.mapIdx_cons]
    simp only [BitVec.ofNat_add, BitVec.add_assoc, BitVec.add_comm (BitVec.ofNat 8 1)]
    simp

/-- A command at the front of the queue is executed with the rest (the block's own step). -/
theorem step_cons (s : State) (c : Instr) (rest : List Instr) (h : s.pending = c :: rest) :
    step s = .next (nextOr s (exec c { s with pending := rest })) ∨
    (∃ f, exec c { s with pending := rest } = .fault f) ∨ ∃ r, exec c { s with pending := rest } = .refused r := by
  cases hx : exec c { s with pending := rest } <;> simp [step, h, hx, nextOr]

/-! ## Selection -/

/-- The Transmit Stage of a D-port that has nothing to select stays as it is (R142). -/
theorem settleStage_of_settled (s : State) (h : DPortSettled s) : settleStage s = s := by
  have hf : fill s = s := by
    unfold fill selectionWork
    cases hn : s.nextFrame with
    | some e => simp [fillNext, hn]
    | none =>
      obtain ⟨hl, hp, hm⟩ := h.2 hn
      simp [fillNext, hn, selectOne, selectBehindLane, hl, hp, hm]
  have ha : advance s = s := by
    unfold advance
    cases hw : s.onWire with
    | some e => rfl
    | none => simp [h.1 hw]
  simp [settleStage, hf, ha]

/-! ## Counters -/

/-- The tag counter stays a part tag when it steps (R32). -/
theorem nextTag_partTag (t : Byte) (h : 128 ≤ t.toNat) : 128 ≤ (nextTag t).toNat := by
  unfold nextTag
  split
  · simp
  · next hne =>
    have : t.toNat ≠ 255 := fun e => hne (BitVec.eq_of_toNat_eq (by simpa using e))
    rw [BitVec.toNat_add]
    have := t.isLt
    simp; omega

end Sys2Proof.Machine
end

