-- ==== Sys2Proof/WellFormed.lean ====
section
/-! DEFINITION. Which commands are well formed: an expiry must name a slot or a group that the part has. -/

namespace Sys2Proof

/-- The slot named by an expiry of a hoist's count is one of the 64 (R1). -/
def slotExists (slot : Nat) : Bool := slot < 64

/-- The group named by a dwell expiry is one of the 16 (R73). -/
def groupExists (group : Nat) : Bool := group < 16

/-- Every operand of the command names something the part has. A port may collect any run of bytes. -/
def Instr.wellFormed : Instr → Bool
  | .staleExpiry slot => slotExists slot
  | .pollTimeout slot => slotExists slot
  | .dwellExpiry group => groupExists group
  | .powerOnReset | .uPortArrival _ | .dPortArrival _ | .move | .gmove | .go | .poll | .passThroughFrame
  | .read | .write | .readLive | .arm | .park | .recover | .clearCause | .readCause | .setIdentity
  | .setMotion | .setPortMode | .lineReset | .lineResetTakesEffect | .dPortTransmitCompletion
  | .uPortTransmitCompletion | .silenceTimerExpiry | .trackStep | .rewriteWaveAdmission | .ownPoll
  | .mgmtBadOperation => true

end Sys2Proof
end

