-- ==== Sys2Proof/Tests/Slice0.lean ====
section
/-! SUPPORT. Tests of the model: the refusals of WellFormed, values worked out in the spec's own cases (each test names the
section it takes them from), one or two events of every command on a small rig, and a witness for the premises of every
statement that has premises. -/

namespace Sys2Proof.Tests

open Sys2Proof Sys2Proof.Machine

set_option Elab.async false

/-! ## WellFormed refuses ill-formed commands (R1, R73) -/

theorem test_wellFormed_refuses_stale_slot_64 : (Instr.staleExpiry 64).wellFormed = false := by decide
theorem test_wellFormed_refuses_timeout_slot_64 : (Instr.pollTimeout 64).wellFormed = false := by decide
theorem test_wellFormed_refuses_dwell_group_16 : (Instr.dwellExpiry 16).wellFormed = false := by decide
theorem test_wellFormed_takes_the_last_ones :
    (Instr.staleExpiry 63).wellFormed ∧ (Instr.pollTimeout 63).wellFormed ∧ (Instr.dwellExpiry 15).wellFormed := by decide
theorem test_no_word_spells_a_command : decodeTableWord 8 0 = none := by decide

/-! ## A small rig

Slot 5 is the lone hoist of section 1.8, slot 9 the hoist of section 3.6, and slots 16 to 19 are group 4 of section 4.3.
Address 0x0100 + n maps to slot n. The transmitters are busy, so that what an event queues can be seen. -/

def baseHoist : Hoist :=
  { cfg := { HoistConfig.powerOn with present := true, softLow := 1000, softHigh := 30000, speedCeiling := 300,
                                      underLimit := 20, derateStart := 700, overLimit := 900 }
    live := { HoistLive.reset with state := .ready, position := some 8000, load := some 410, driveState := some .idle,
                                   sampleAge := 3, loadCondition := .normal, fresh := true } }

def member (low high : Nat) (offset : Int) (load : Nat) : Hoist :=
  { cfg := { baseHoist.cfg with group := some 4, limitSource := .group, softLow := low, softHigh := high, weight := 256,
                                offset := offset }
    live := { baseHoist.live with load := some load, position := some (8000 + offset.toNat) } }

def rigHoist (h : Slot) : Hoist :=
  if h = 5 then baseHoist
  else if h = 9 then
    { cfg := { baseHoist.cfg with softLow := 1500, softHigh := 21500, speedCeiling := 240, underLimit := 0,
                                  derateStart := 800, overLimit := 1000 }
      live := { baseHoist.live with load := some 905, loadCondition := .derated } }
  else if h = 16 then member 1000 20000 0 520
  else if h = 17 then member 1000 20000 0 610
  else if h = 18 then member 1200 20100 150 760
  else if h = 19 then member 1000 19900 150 640
  else { cfg := HoistConfig.powerOn, live := HoistLive.reset }

def rigGroup (g : GroupNo) : Group :=
  if g = 4 then
    { cfg := { GroupConfig.powerOn with speedCeiling := 200, skewWarn := 40, skewLimit := 80, shareWarn := 24,
                                        shareTolerance := 60, underLimit := 50, derateStart := 700, overLimit := 1000,
                                        trackStart := some 10 }
      live := { GroupLive.reset with state := .ready } }
  else { cfg := GroupConfig.powerOn, live := GroupLive.reset }

def somePass : Frame := { kind := 0x30#8, dest := 0x0109#16, src := 0x0001#16, seq := 0#8, payload := [] }
def someEntry : Entry := { frame := somePass, role := .passThrough }

def rig : State :=
  { State.reset with
    hoists := Table.build rigHoist
    groups := Table.build rigGroup
    addressMap := State.reset.addressMap.set 0 { enabled := true, base := 0x0100#16, spanExp := 6, slotBase := 0 }
    trackPool := (State.reset.trackPool.set 10 { base := 20000, speed := 250, dwell := 700, last := false }).set 12
      { base := 100, speed := 60, dwell := 0, last := true }
    motionEnable := true
    onWire := some someEntry, nextFrame := some someEntry, uWire := some somePass }

def headed (s : State) (f : Frame) : State := { s with intake := [{ frame := f, epoch := s.silence.epoch }] }
def live (s : State) (h : Slot) (f : HoistLive → HoistLive) : State := changeLive s h f
def inGroup (s : State) (f : GroupLive → GroupLive) : State := changeGroup s 4 f
def after (c : Instr) (s : State) : State := nextOr State.reset (exec c s)
def completes (o : Host.Outcome State Fault Refusal) : Bool :=
  match o with
  | .next _ => true
  | .fault _ | .refused _ => false
def moveFrom (dest : LineAddr) (target speed : Nat) (tag : Byte) : Frame := moveTo dest 0x0001#16 0x07#8 target speed tag
def gmoveFrom (base speed : Nat) (tag : Byte) : Frame := { moveFrom 0xF004#16 base speed tag with kind := 0x22#8 }
def short (kind : Byte) (dest : LineAddr) : Frame :=
  { kind := kind, dest := dest, src := 0x0001#16, seq := 0x07#8, payload := [] }
def goFrame : Frame := short 0x26#8 0xF004#16
def mgmt (op table index : Byte) (mask : BitVec 16) (values : List Byte) : Frame :=
  { kind := 0x2E#8, dest := 0xFFFE#16, src := 0x0001#16, seq := 0x09#8,
    payload := [0#8, 0#8, 0#8, 0#8, op, table, index, highByte mask, lowByte mask] ++ values }
def reply (c : Instr) (s : State) (f : Frame) : List Byte :=
  ((after c (headed s f)).replySlot.map (·.frame.payload)).getD []
def sample (h : Slot) (position load : Nat) (drive tag : Byte) : Frame :=
  { kind := 0x41#8, dest := 0x0001#16, src := 0x0100#16 + BitVec.ofNat 16 h.val, seq := 0x33#8,
    payload := twoBytes position ++ twoBytes load ++ [drive, tag] }
def reported (s : State) (h : Slot) (position load : Nat) (drive tag : Byte) : State :=
  after (.dPortArrival (frameContent (sample h position load drive tag))) s
def notice (s : State) (src : NoticeSource) : Option (Byte × Byte) :=
  (s.notices.get (sourceIndex src)).map fun n => (n.code, n.detail)
def granted (target speed : Nat) (tag : Byte) (l : HoistLive) : HoistLive :=
  { l with state := .moving, grant := some { target := target, speed := speed, tag := tag } }
def truss (st : GroupState) : State :=
  inGroup (live (live (live (live rig 16 (granted 9000 160 41#8)) 17 (granted 9000 160 41#8)) 18 (granted 9150 160 41#8)) 19
    (granted 9150 160 41#8)) fun l => { l with state := st, grant := some { base := 9000, speed := 160, tag := 41#8 } }
def track : Track := { cursor := 10, dwell := none, originSeq := 0x55#8, originEpoch := 0#16 }

/-! ## Frames and arrivals -/

/-- Section 2.1: the CRC of the single byte 0x00. -/
theorem test_crc_of_zero_byte : crc [0x00#8] = 0xE1F0#16 := by decide +kernel

theorem test_arrival_waits_in_intake :
    (after (.uPortArrival (frameContent (moveFrom 0x0105#16 9000 250 17#8))) rig).intake =
      [{ frame := moveFrom 0x0105#16 9000 250 17#8, epoch := 0#16 }] := by decide +kernel

theorem test_damaged_frame_is_line_error :
    notice (after (.uPortArrival [0x21#8, 0x01#8]) rig) .lineError = some (1#8, 3#8) ∧
    notice (after (.dPortArrival [0#8, 0#8, 0#8, 0#8, 0#8, 0#8, 0#8, 0#8, 0#8]) rig) .lineError = some (2#8, 1#8) := by
  decide +kernel

/-! ## The lone hoist of section 1.8 -/

/-- Event 1: an OFFLINE hoist that reports IDLE is READY, and 410 is NORMAL. -/
theorem test_first_report_makes_ready :
    let s := reported (live rig 5 fun _ => HoistLive.reset) 5 4200 410 0#8 0#8
    (liveAt s 5).state = .ready ∧ (liveAt s 5).loadCondition = .normal ∧ (liveAt s 5).position = some 4200 := by
  decide +kernel

/-- Events 4 and 6: IDLE seven off the target is a miss; with another tag it completes nothing. -/
theorem test_miss_and_old_tag :
    let s := live rig 5 (granted 9000 250 17#8)
    (liveAt (reported s 5 8993 428 0#8 17#8) 5).state = .ready ∧
    notice (reported s 5 8993 428 0#8 17#8) .miss = some (0#8, 0#8) ∧
    (liveAt (reported s 5 8993 428 0#8 16#8) 5).state = .moving := by decide +kernel

/-- Event 7: it arrives and is then found OVER: TRIPPED, cause OVERLOAD. -/
theorem test_arrival_then_overload :
    let s := reported (live rig 5 (granted 9000 250 18#8)) 5 8998 932 0#8 18#8
    (liveAt s 5).arrived = true ∧ (liveAt s 5).state = .tripped ∧ (liveAt s 5).lastStopCause = some .overload ∧
    s.lane.length = 1 := by decide +kernel

/-! ## MOVE: the worked case of section 3.6 -/

theorem test_move_is_clamped_and_derated :
    let s := after .move (headed rig (moveFrom 0x0109#16 25000 300 22#8))
    s.motionQueue = [{ frame := moveFrom 0x0109#16 21500 114 22#8, role := .granted 9 }] ∧
    (liveAt s 9).grant = some { target := 21500, speed := 114, tag := 22#8 } ∧ notice s .clamp = some (3#8, 0x21#8) := by
  decide +kernel

/-- The other rows of the same case: loads 800, 801, 990 and 999. -/
theorem test_derated_speeds :
    [800, 801, 990, 999].map (deratedSpeed { ceiling := 240, underLimit := 0, derateStart := 800, overLimit := 1000 }) =
      [240, 238, 12, 8] := by decide +kernel

def moveRefusals : List (State × Frame) :=
  let f := moveFrom 0x0105#16 9000 250 17#8
  [({ rig with motionEnable := false }, f), ({ rig with portMode := .isolate }, f),
   (rig, moveFrom 0x0105#16 9000 250 128#8), (rig, moveFrom 0x0105#16 9000 7 127#8), (rig, moveFrom 0x0200#16 9000 8 17#8),
   (rig, moveFrom 0x0106#16 9000 8 17#8), (rig, moveFrom 0x0110#16 9000 8 17#8),
   (live rig 5 fun l => { l with state := .offline }, f), (live rig 5 fun l => { l with state := .tripped }, f),
   (live rig 5 fun l => { l with loadCondition := .over }, f)]

/-- The checks in order (R51 to R53): each refuses with its reason, and nothing is queued. -/
theorem test_move_refusals :
    moveRefusals.map (fun x => notice (after .move (headed x.1 x.2)) .refuse) =
      [13#8, 14#8, 12#8, 11#8, 3#8, 4#8, 7#8, 5#8, 6#8, 16#8].map fun c => some (c, 0x21#8) := by decide +kernel

/-! ## GMOVE: the worked case of section 4.3 -/

theorem test_gmove_becomes_one_batch :
    let s := after .gmove (headed rig (gmoveFrom 20000 250 41#8))
    (s.motionQueue.map fun e => requestedTarget e.frame) = [19750, 19750, 19900, 19900] ∧
    (s.motionQueue.map fun e => requestedSpeed e.frame) = [160, 160, 160, 160] ∧
    (groupAt s 4).live.state = .moving ∧ (groupAt s 4).live.grant = some { base := 19750, speed := 160, tag := 41#8 } ∧
    notice s .clamp = some (3#8, 0x22#8) := by decide +kernel

/-- The same request in SLOWED, and in HOLDING after WARN and after HOLD. -/
theorem test_gmove_after_warn_and_hold :
    let run := fun (st : GroupState) (v : Verdict) =>
      after .gmove (headed (inGroup rig fun l => { l with state := st, lastVerdict := v }) (gmoveFrom 20000 250 41#8))
    ((groupAt (run .slowed .warn) 4).live.grant.map (·.speed)) = some 80 ∧
    (groupAt (run .holding .warn) 4).live.state = .slowed ∧ notice (run .holding .hold) .refuse = some (8#8, 0x22#8) := by
  decide +kernel

/-! ## The Group Check: the worked cases of section 5.6 -/

/-- A share drifting: slot 18 completes the round, Dmax 28, WARN, and a wave at 80. -/
theorem test_warn_slows_and_forms_a_wave :
    let put := fun (s : State) h p ld => live s h fun l => { l with position := some p, load := some ld }
    let s := reported (live (put (put (put (truss .moving) 16 8000 310) 17 8010 295) 19 8165 305) 18 fun l =>
      { l with fresh := false }) 18 8140 350 1#8 41#8
    let l := (groupAt s 4).live
    l.state = .slowed ∧ l.lastVerdict = .warn ∧ l.lastSkew = some 25 ∧ l.lastDmax = some 28 ∧
    l.wave = some { tag := 128#8, speed := 80 } ∧ (liveAt s 16).fresh = false ∧ notice s .warn = some (4#8, 2#8) ∧
    s.internalBatches = [.wave 4] := by decide +kernel

/-- Limits of the share part: a single carrier trips the group with cause SHARE. -/
theorem test_single_carrier_trips :
    let put := fun (s : State) h ld => live s h fun l => { l with load := some ld, state := .held }
    let s := reported (put (put (put (inGroup rig fun l => { l with state := .holding }) 16 0) 17 0) 19 0) 18 8150 840 0#8 0#8
    (groupAt s 4).live.state = .tripped ∧ (groupAt s 4).live.tripCause = some .share ∧
    (groupAt s 4).live.lastDmax = some 768 ∧ (liveAt s 19).state = .tripped := by decide +kernel

/-! ## GO, TRACK_STEP, REWRITE_WAVE_ADMISSION and DWELL_EXPIRY -/

theorem test_go_starts_the_track :
    let s := after .go (headed rig goFrame)
    (groupAt s 4).live.track = some { cursor := 10, dwell := none, originSeq := 7#8, originEpoch := 0#16 } ∧
    (s.motionQueue.map fun e => (e.frame.src, e.frame.seq)) =
      [(0xFFFE#16, 0#8), (0xFFFE#16, 1#8), (0xFFFE#16, 2#8), (0xFFFE#16, 3#8)] ∧
    s.tagCounter = 129#8 ∧ (groupAt s 4).live.state = .moving ∧ notice s .clamp = some (3#8, 0x26#8) := by decide +kernel

/-- A GO outside READY is refused with GROUP_STATE, one without a usable chain with NO_TRACK (R118). -/
theorem test_go_refusals :
    notice (after .go (headed (truss .moving) goFrame)) .refuse = some (8#8, 0x26#8) ∧
    notice (after .go (headed { rig with trackPool := Table.fill 128 { TrackStep.powerOn with last := false } } goFrame))
      .refuse = some (18#8, 0x26#8) := by decide +kernel

def dwelling : State := inGroup (truss .moving) fun l => { l with track := some { track with dwell := some 1 } }
def stepDue : State :=
  { inGroup (truss .moving) fun l => { l with track := some { track with cursor := 12, dwell := some 0 } } with
    internalBatches := [.step 4] }

theorem test_dwell_expiry_takes_the_next_step :
    let s := after (.dwellExpiry 4) dwelling
    ((groupAt s 4).live.track.map fun t => (t.cursor, t.dwell)) = some (11, none) ∧ s.motionQueue.length = 4 := by
  decide +kernel

/-- The descriptor's base 100 lies below Lo 1050 and is clamped to it. -/
theorem test_track_step_is_admitted :
    let s := after .trackStep stepDue
    (s.motionQueue.map fun e => (requestedTarget e.frame, requestedSpeed e.frame)) =
      [(1050, 60), (1050, 60), (1200, 60), (1200, 60)] ∧ s.internalBatches = [] ∧ notice s .clamp = some (1#8, 0x26#8) := by
  decide +kernel

/-- A step refused for the line holds the group with cause TRACK_ERROR (R124). -/
theorem test_refused_step_holds_the_group :
    let s := after .trackStep { stepDue with motionEnable := false }
    (groupAt s 4).live.state = .holding ∧ (groupAt s 4).live.track = none ∧
    notice s .trackError = some (13#8, 12#8) := by decide +kernel

def waved : State :=
  { inGroup (truss .slowed) fun l => { l with wave := some { tag := 130#8, speed := 80 } } with
    internalBatches := [.wave 4] }

theorem test_wave_is_admitted :
    let s := after .rewriteWaveAdmission waved
    (s.motionQueue.map fun e => (requestedTarget e.frame, requestedSpeed e.frame)) =
      [(9000, 80), (9000, 80), (9150, 80), (9150, 80)] ∧
    (groupAt s 4).live.grant = some { base := 9000, speed := 80, tag := 130#8 } ∧ (groupAt s 4).live.wave = none ∧
    (groupAt s 4).live.state = .slowed := by decide +kernel

/-! ## Polls, pass-through frames and transmission -/

theorem test_poll_is_promoted :
    let s := after .poll (headed { rig with line := { rig.line with sweepInterval := 50 } } (short 0x25#8 0x0105#16))
    (s.pollPromote.map fun e => e.role) = [.poll (some 5)] ∧ (liveAt s 5).pollOutstanding = true := by decide +kernel

theorem test_own_poll_of_a_due_hoist :
    let s := after .ownPoll (live rig 9 fun l => { l with sampleAge := 50 })
    (s.pollPromote.map fun e => e.frame) =
      [{ kind := 0x25#8, dest := 0x0109#16, src := 0xFFFE#16, seq := 0#8, payload := [] }] ∧ s.seqCounter = 1#8 := by
  decide +kernel

/-- R140 and R152: one Poll Promote place is left for two due slots, so the second claims the last Motion Queue entry before
the head; with one due slot the head takes it. -/
theorem test_second_due_slot_claims_an_entry :
    let due := fun (s : State) h => live s h fun l => { l with sampleAge := 50 }
    let s := headed { rig with pollPromote := [someEntry], motionQueue := List.replicate 31 someEntry }
      (moveFrom 0x0110#16 9000 250 17#8)
    (after .move (due (due s 5) 18)).motionQueue.length = 31 ∧ (after .move (due (due s 5) 18)).intake = s.intake ∧
    notice (after .move (due s 5)) .refuse = some (7#8, 0x21#8) := by decide +kernel

theorem test_pass_through_joins_the_tail :
    (after .passThroughFrame (headed rig somePass)).motionQueue = [someEntry] := by decide +kernel

theorem test_completion_moves_next_on_wire :
    let s := after .dPortTransmitCompletion
      { rig with nextFrame := some { frame := short 0x25#8 0x0105#16, role := .poll (some 5) } }
    s.nextFrame = none ∧ s.pollTimers.get 5 = some 0 ∧ (s.onWire.map fun e => e.frame.kind) = some 0x25#8 := by
  decide +kernel

theorem test_stop_lane_goes_first :
    let s := after .dPortTransmitCompletion
      (after (.uPortArrival (frameContent (short 0x23#8 0xF004#16))) { rig with motionQueue := [someEntry] })
    (s.nextFrame.map fun e => (e.frame.kind, e.frame.dest, e.frame.src, e.frame.seq)) =
      some (0x23#8, 0x0110#16, 0x0001#16, 0x07#8) ∧ s.motionQueue = [someEntry] := by decide +kernel

theorem test_relayed_frame_follows_a_notice :
    (after .uPortTransmitCompletion
      (refusedWith { rig with relayQueue := [somePass], lastWasNotice := true } none none 1#8 0x21#8 0#8)).uWire =
      some somePass := by decide +kernel

/-! ## Expiries and the Silence Timer -/

/-- R150: a READY member of an armed group goes OFFLINE and its group is held. -/
theorem test_stale_member_holds_the_group :
    let s := after (.staleExpiry 17) (live rig 17 fun l => { l with sampleAge := 199 })
    (liveAt s 17).state = .offline ∧ (groupAt s 4).live.state = .holding ∧ (liveAt s 16).state = .held ∧
    notice s .stale = some (1#8, 0#8) := by decide +kernel

theorem test_stale_faults_beyond_63 : exec (.staleExpiry 64) rig = .fault (.noSuchSlot 64) := rfl

theorem test_poll_timeout_frees_the_hoist :
    let s := after (.pollTimeout 5) { live rig 5 (fun l => { l with pollOutstanding := true }) with
      pollTimers := rig.pollTimers.set 5 (some 19) }
    (liveAt s 5).pollOutstanding = false ∧ s.pollTimers.get 5 = none := by decide +kernel

/-- R157: the epoch steps, a HOLD ALL is admitted and SILENCE is raised. -/
theorem test_silence_holds_all :
    let s := after .silenceTimerExpiry { rig with silence := { rig.silence with state := .running, count := 499 } }
    s.silence.epoch = 1#16 ∧ s.silence.count = 500 ∧ (s.lane.map fun o => (o.kind, o.scope)) = [(.hold, .all)] ∧
    notice s .silence = some (0x23#8, 1#8) ∧ (liveAt s 5).state = .held := by decide +kernel

/-- R159: an expiry that an arrival has just put back does not take place. -/
theorem test_expiry_after_a_reload_does_nothing :
    let s := after (.uPortArrival (frameContent (short 0x27#8 0xFFFE#16)))
      { rig with silence := { rig.silence with state := .running, count := 499 } }
    after .silenceTimerExpiry s = s := by decide +kernel

theorem test_idle_step_is_one_millisecond :
    (nextOr State.reset (step State.reset)).lineClock = 1#32 := by decide +kernel

/-! ## Management -/

/-- R185: the part identity. -/
theorem test_read_identity :
    reply .read rig (mgmt 1#8 6#8 1#8 0#16 []) =
      [0#8, 0#8, 1#8, 1#8, 0x36#8, 0x01#8, 0#8, 0#8, 0#8, 0#8, 0#8] := by decide +kernel

theorem test_read_refusals :
    reply .read rig (mgmt 1#8 7#8 0#8 0#16 []) = [1#8, 31#8, 1#8, 0#8] ∧
    reply .read rig (mgmt 1#8 5#8 128#8 0#16 []) = [1#8, 32#8, 1#8, 128#8] := by decide +kernel

/-- Section 11.2, field-mask writes A, C and E to slot 5. -/
theorem test_field_mask_writes :
    reply .write rig (mgmt 2#8 1#8 5#8 0x0088#16 [0x7D#8, 0x00#8, 0x03#8, 0xB6#8]) = [1#8, 20#8, 2#8, 5#8, 4#8] ∧
    reply .write rig (mgmt 2#8 1#8 5#8 0x0110#16 [0x80#8, 0xE8#8, 0x03#8]) = [1#8, 1#8, 2#8, 5#8] ∧
    reply .write rig (mgmt 2#8 1#8 5#8 0x1000#16 [0x01#8]) = [1#8, 1#8, 2#8, 5#8] := by decide +kernel

/-- Section 11.2, write B: a stored Load of 920 is DERATED under the new window. -/
theorem test_write_reevaluates_the_load :
    let s := after .write (headed (live rig 5 fun l => { l with load := some 920, loadCondition := .over })
      (mgmt 2#8 1#8 5#8 0x0110#16 [0x80#8, 0xE8#8, 0x03#8, 0xE8#8]))
    (cfgAt s 5).softHigh = 33000 ∧ (liveAt s 5).loadCondition = .derated ∧ s.lane = [] := by decide +kernel

theorem test_read_live_of_an_absent_hoist :
    reply .readLive rig (mgmt 3#8 1#8 63#8 0#16 []) =
      [0#8, 0#8, 3#8, 63#8, 0#8, 255#8, 255#8, 255#8, 255#8, 255#8, 255#8, 255#8, 0#8, 255#8, 255#8, 255#8, 255#8, 0#8, 0#8,
       0#8, 0#8, 0#8] := by decide +kernel

def parked : State := inGroup rig fun _ => GroupLive.reset
theorem test_arm_takes_four_level_hoists :
    (groupAt (after .arm (headed parked (mgmt 4#8 0#8 4#8 0#16 []))) 4).live =
      { GroupLive.reset with state := .ready, lastSkew := some 0 } := by decide +kernel
theorem test_arm_refuses_a_skewed_truss :
    reply .arm (live parked 16 fun l => { l with position := some 8041 }) (mgmt 4#8 0#8 4#8 0#16 []) =
      [1#8, 26#8, 4#8, 4#8] := by decide +kernel

theorem test_park_and_its_refusal :
    (groupAt (after .park (headed rig (mgmt 5#8 0#8 4#8 0#16 []))) 4).live.state = .parked ∧
    reply .park (truss .moving) (mgmt 5#8 0#8 4#8 0#16 []) = [1#8, 8#8, 5#8, 4#8] := by decide +kernel

theorem test_recover_one_hoist :
    let s := after .recover (headed (live rig 5 fun l => { l with state := .tripped }) (mgmt 6#8 1#8 5#8 0#16 []))
    (liveAt s 5).state = .ready ∧ (liveAt s 5).grant = none ∧
    reply .recover rig (mgmt 6#8 1#8 5#8 0#16 []) = [1#8, 30#8, 6#8, 5#8] := by decide +kernel

def someCause : CauseRecord :=
  { first := .filter, time := 0x01020304#32, hoist := some 5, group := none, filterHits := some [0, 3],
    capture := some [0xAA#8], later := [.overload, .silence] }
theorem test_causes_are_read_and_cleared :
    reply .readCause { rig with causeRecord := some someCause } (mgmt 8#8 0#8 0#8 0#16 []) =
      [0#8, 0#8, 8#8, 0#8, 0#8, 10#8, 1#8, 2#8, 3#8, 4#8, 5#8, 255#8, 0#8, 9#8, 1#8, 0x04#8, 0x01#8] ∧
    (after .clearCause (headed { rig with causeRecord := some someCause } (mgmt 7#8 0#8 0#8 0#16 []))).causeRecord = none := by
  decide +kernel

theorem test_identity_is_written_once :
    (after .setIdentity (headed rig (mgmt 9#8 0#8 0#8 0#16 [1#8, 2#8, 3#8, 4#8]))).rigIdentity = some 0x01020304#32 ∧
    reply .setIdentity { rig with rigIdentity := some 0#32 } (mgmt 9#8 0#8 0#8 0#16 [1#8, 2#8, 3#8, 4#8]) =
      [1#8, 27#8, 9#8, 0#8] := by decide +kernel

theorem test_motion_off_holds_all :
    let s := after .setMotion (headed (truss .moving) (mgmt 10#8 0#8 0#8 0#16 []))
    s.motionEnable = false ∧ (liveAt s 16).state = .held ∧ (groupAt s 4).live.state = .holding := by decide +kernel

theorem test_port_mode_takes_the_move_out_of_next :
    let s := after .setPortMode (headed { rig with
      nextFrame := some { frame := moveFrom 0x0105#16 1 8 1#8, role := .granted 5 } } (mgmt 11#8 0#8 1#8 0#16 []))
    s.portMode = .holdOnly ∧ s.nextFrame = none ∧ notice s .refuse = some (14#8, 0x21#8) := by decide +kernel

theorem test_bad_operation_is_malformed :
    reply .mgmtBadOperation rig (mgmt 13#8 0#8 0#8 0#16 []) = [1#8, 1#8, 13#8, 0#8] := by decide +kernel

def resetAsked : State := { after .lineReset (headed rig (mgmt 12#8 0#8 0#8 0#16 [])) with uWire := none }
theorem test_line_reset_waits_for_its_reply :
    (liveAt resetAsked 5).state = .ready ∧ (after .lineResetTakesEffect resetAsked).motionEnable = false ∧
    (liveAt (after .lineResetTakesEffect resetAsked) 5).state = .offline ∧
    ((after .lineResetTakesEffect resetAsked).uWire.map fun f => f.kind) = some 0x4F#8 := by decide +kernel

theorem test_power_on_reset_forgets_everything :
    after .powerOnReset { rig with pending := [.move] } = { State.reset with pending := [.move] } := by decide +kernel

/-! ## Witnesses: for each statement with premises, states and operands that meet them, clause by clause -/

theorem completes_next {o : Host.Outcome State Fault Refusal} (s : State) (h : completes o = true) :
    o = .next (nextOr s o) := by
  cases o <;> simp_all [completes, nextOr]

theorem witness_StepRunsFrontCommand : ({ rig with pending := [.ownPoll, .move] } : State).pending = .ownPoll :: [.move] := rfl

def ticking : State :=
  { dwelling with
    groups := (inGroup dwelling fun l => { l with track := some { track with dwell := some 2 } }).groups
    pollTimers := rig.pollTimers.set 5 (some 18)
    silence := { rig.silence with state := .running, count := 498 } }

/-- Every kind of count one step before its limit. -/
def expiring : State :=
  { live dwelling 5 (fun l => { l with sampleAge := 199 }) with
    pollTimers := rig.pollTimers.set 5 (some 19)
    silence := { rig.silence with state := .running, count := 499 } }

theorem witness_IdleStepCountsOneMillisecond :
    ticking.pending = [] ∧ expiriesDue ticking = [] ∧ expiring.pending = [] ∧
    expiriesDue expiring = [.stale 5, .pollTimeout 5, .dwell 4, .silence] := by decide +kernel

theorem witness_ExecKeepsWaitingQueue : exec .ownPoll rig = .next (after .ownPoll rig) :=
  completes_next _ (by decide +kernel)

theorem witness_NoCandidateWaitsForIdleTransmitter :
    (finish State.reset).onWire = none ∧ (finish State.reset).nextFrame = none ∧ (finish State.reset).uWire = none ∧
    (finish State.reset).replySlot = none ∧
    (finish { State.reset with replySlot := some { frame := somePass, resets := true } }).replySlot =
      some { frame := somePass, resets := true } := by decide +kernel

def manyOrders : List StopOrder :=
  [5, 9, 16, 17].map fun h => { kind := .hold, scope := .hoist h, pendingList := [h], origin := .part, relatedSeq := 0#8, cause := none }

/-- Every queue at its capacity, with a stop waiting that collapses the lane. -/
def full : State :=
  { truss .moving with
    pending := [.uPortArrival (frameContent (short 0x23#8 0x0300#16))]
    intake := List.replicate 8 { frame := somePass, epoch := 0#16 }, lane := manyOrders
    pollPromote := [someEntry, someEntry], motionQueue := List.replicate 32 someEntry
    relayQueue := List.replicate 16 somePass, tagCounter := 255#8 }

theorem witness_QueuesStayWithinCapacity : WithinCapacity full := by decide +kernel
theorem witness_StopLaneStaysSound : LaneSound full := by decide +kernel
theorem witness_AbsentHoistsStayAtReset : AbsentAtReset full := by decide +kernel
theorem witness_TagCounterAndMap : TagCounterSound full ∧ MapSound full := by decide +kernel
theorem witness_InternalBatchesAgreeWithGroups : BatchesSound full := by decide +kernel
theorem witness_MovableHoistsHoldReadings : ReadingsSound full := by decide +kernel

theorem witness_invariants_step : step full = .next (nextOr State.reset (step full)) :=
  completes_next _ (by decide +kernel)

theorem witness_PartTagsIdentityAndMapAreKept :
    ({ full with rigIdentity := some 7#32 } : State).rigIdentity = some 7#32 ∧
    completes (step { full with rigIdentity := some 7#32 }) ∧
    slotOfAddr full 0x013F#16 = some 63 ∧ addrOfSlot full 0 = some 0x0100#16 ∧ slotOfAddr full 0x0140#16 = none := by
  decide +kernel

theorem witness_FirstCauseIsWrittenAndLatched :
    ({ full with causeRecord := some someCause } : State).causeRecord = some someCause ∧
    completes (step { full with causeRecord := some someCause }) ∧
    laneAfter rig (partOrder .halt (.hoist 5) (some .overload) 1#8 (some 5)) ≠ none ∧ rig.causeRecord = none := by
  decide +kernel

theorem witness_ArmedGroupKeepsItsRecords :
    completes (step full) ∧ armed full 4 = true ∧ armed (nextOr State.reset (step { full with pending := [.trackStep] })) 4 = true := by
  decide +kernel

theorem witness_StopOnMemberStopsTruss : armedGroupOf (truss .moving) 16 = some 4 := by decide +kernel

/-- A lane of two HALTs and a HOLD, which the orders of the next test merge into, replace in and enter. -/
def mixedLane : State :=
  { rig with lane :=
      [{ kind := .halt, scope := .group 4, pendingList := [17], origin := .part, relatedSeq := 1#8, cause := some .share },
       { kind := .halt, scope := .raw 0x0300#16, pendingList := [], origin := .part, relatedSeq := 2#8, cause := none },
       { kind := .hold, scope := .hoist 5, pendingList := [5], origin := .part, relatedSeq := 3#8, cause := none }] }

def laneAfterStop (k : StopKind) (sc : Scope) : List (Scope × List Slot × Byte) :=
  (admitStop mixedLane (partOrder k sc none 9#8 none)).lane.map fun x => (x.scope, x.pendingList, x.relatedSeq)

/-- Each step of R131 is reached: HALT ALL, a merge, two replacements and an entrance; the Seq 9 is the admitted order's. -/
theorem witness_LaneTakesAdmittedOrder :
    laneAfterStop .halt .all = [(.all, [], 9#8)] ∧
    laneAfterStop .hold (.hoist 16) = [(.group 4, [16, 17], 1#8), (.raw 0x0300#16, [], 2#8), (.hoist 5, [5], 3#8)] ∧
    laneAfterStop .halt (.hoist 5) = [(.group 4, [17], 1#8), (.raw 0x0300#16, [], 2#8), (.hoist 5, [5], 9#8)] ∧
    laneAfterStop .hold .all = [(.group 4, [17], 1#8), (.raw 0x0300#16, [], 2#8), (.all, [], 9#8)] ∧
    laneAfterStop .halt (.hoist 9) =
      [(.group 4, [17], 1#8), (.raw 0x0300#16, [], 2#8), (.hoist 9, [9], 9#8), (.hoist 5, [5], 3#8)] := by decide +kernel

theorem witness_PurgeLeavesNoCoveredMove :
    let left : Entry := { frame := moveFrom 0x0105#16 9000 250 17#8, role := .granted 5 }
    let other : Entry := { frame := moveFrom 0xF010#16 1 8 1#8, role := .passThrough }
    let s := { truss .moving with motionQueue := [left, someEntry, other], nextFrame := some other }
    let after := fun (sc : Scope) => admitStop s (partOrder .hold sc none 0#8 none)
    (after (.group 4)).motionQueue = [left, someEntry, other] ∧ (after (.hoist 5)).motionQueue = [someEntry, other] ∧
    (after (.raw 0xF010#16)).motionQueue = [left, someEntry] ∧ (after (.raw 0xF010#16)).nextFrame = none ∧
    (after .all).motionQueue = [someEntry] ∧ (after (.hoist 5)).nextFrame = some other ∧ isMoveFor left 5 ∧
    moveSlot someEntry = none := by decide +kernel

theorem witness_AdmissionActs :
    laneAfter (truss .moving) (partOrder .halt (.group 4) (some .share) 1#8 (some 16)) ≠ none ∧
    laneAfter { rig with lane := manyOrders } (partOrder .halt .all none 1#8 none) ≠ none := by decide +kernel

theorem witness_FullLaneCollapses :
    let o := partOrder .hold (.raw 0x0300#16) none 1#8 none
    full.lane.length = 4 ∧ ¬(o.kind = .halt ∧ o.scope = .all) ∧
    (∀ x ∈ full.lane, scopeCovers full x.scope o.scope = true → atLeastAsStrong x.kind o.kind = false) ∧
    (∀ x ∈ full.lane, scopeCovers full o.scope x.scope = true → atLeastAsStrong o.kind x.kind = false) ∧
    full.causeRecord = none ∧ ({ full with causeRecord := some someCause } : State).causeRecord = some someCause := by
  decide +kernel

/-- R133: the collapse records the order's own cause and then STOP_OVERFLOW, and raises no TRIP. -/
theorem test_collapse_records_both_causes :
    let s := admitStop full (partOrder .hold (.raw 0x0300#16) (some .filter) 1#8 none)
    (s.causeRecord.map fun r => (r.first, r.later)) = some (.filter, [.stopOverflow]) ∧ notice s .trip = none ∧
    notice s .stopOverflow = some (13#8, 0x23#8) := by decide +kernel

theorem witness_NoticeRaiseKeepsLatest :
    noticeLevel rig (sourceIndex .clamp) ≠ 0 ∧
    noticeLevel { rig with line := { rig.line with noticeLevels := Table.fill 16 0 } } (sourceIndex .clamp) = 0 := by
  decide +kernel

theorem witness_FrameContentRoundTrip :
    ({ somePass with payload := List.replicate 40 0xA5#8 } : Frame).payload.length ≤ 40 ∧
    (receive (frameContent somePass)).toOption = some somePass := by decide +kernel

theorem witness_ReceptionErrorRaisesLineError :
    ([] : List Byte).length < 7 ∧ 40 < ((List.replicate 7 41#8).getD 6 0#8).toNat ∧
    ((List.replicate 8 0#8).length ≠ 9 + ((List.replicate 8 0#8).getD 6 0#8).toNat) ∧
    crc ((List.replicate 9 0#8).take 7) ≠ 0#16 := by decide +kernel

theorem witness_RecordFieldsRoundTrip :
    (let c : HoistConfig :=
      { HoistConfig.powerOn with
        softLow := 65000, softHigh := 65000, speedCeiling := 600, underLimit := 7998, derateStart := 7999
        overLimit := 8000, weight := 1024, offset := -2000 }
     hoistOfFields (hoistFields c) = c) ∧
    (let t : Filter := { Filter.powerOn with offset := 46, mask := 0x80000001#32, action := .haltAll, actionGroup := 15 }
     filterOfFields (filterFields t) = t) ∧
    (let c : LineConfig :=
      { LineConfig.powerOn with
        sweepInterval := 1000, pollTimeout := 200, ageLimit := 2000, silenceLimit := 5000, silenceAction := .haltAll
        arrivalWindow := 50 }
     lineOfFields (lineFields c) = c) ∧
    (let d : TrackStep := { base := 65000, speed := 600, dwell := 60000, last := false }
     trackOfFields (trackFields d) = d) := by decide +kernel

theorem witness_ClassifierRoutesByKindAndDest :
    ([short 0x21#8 0xF010#16, short 0x41#8 0x0105#16, short 0x21#8 0x0105#16, short 0x2E#8 0xFFFE#16,
      moveFrom 0xEFFF#16 1 8 1#8, moveFrom 0xFFFE#16 1 8 1#8, short 0x25#8 0x0001#16, short 0x27#8 0xFFFE#16,
      mgmt 1#8 0#8 0#8 0#16 [], gmoveFrom 1 8 1#8, { gmoveFrom 1 8 1#8 with dest := 0x0105#16 }, goFrame].map classOf) =
    [.passThrough, .passThrough, .refused .malformed, .refused .malformed, .move, .refused .badDest, .poll, .beat, .mgmt,
     .gmove 4, .refused .badDest, .go 4] := by decide +kernel

def anyFrame : Filter := { Filter.powerOn with enabled := true, direction := .both }
def dropping : State := { rig with filters := rig.filters.set 3 { anyFrame with action := .drop } }
def filtered (a : FilterAction) : State :=
  { rig with filters := rig.filters.set 3 { anyFrame with action := a, actionGroup := 4, capture := true } }

theorem witness_UPortFrameIsRouted :
    NoFilterEnabled rig ∧ ¬IsDroppedBy rig goFrame .down ∧ classOf goFrame = .go 4 ∧ rig.intake.length < 8 ∧
    8 ≤ full.intake.length ∧ ¬IsDroppedBy full goFrame .down ∧ ¬IsDroppedBy (filtered .mark) goFrame .down ∧
    classOf (short 0x21#8 0x0105#16) = .refused .malformed ∧ classOf (short 0x27#8 0xFFFE#16) = .beat ∧
    IsDroppedBy dropping goFrame .down := by decide +kernel

theorem witness_ConsoleStopIsAdmitted :
    NoFilterEnabled rig ∧ filterMatches (dropping.filters.get 3) (short 0x23#8 0x0105#16) .down = true ∧
    ¬IsDroppedBy dropping (short 0x23#8 0x0105#16) .down ∧ (short 0x23#8 0x0105#16).kind = 0x23#8 ∧ (short 0x24#8 0xF010#16).kind = 0x24#8 ∧
    slotOfAddr rig 0x0105#16 = some 5 ∧ slotOfAddr rig 0x0300#16 = none := by decide +kernel

/-- Filters 1 (HOLD_GROUP), 3 (DROP) and 7 (HALT_ALL) match every frame, so that 3 is the lowest marker. -/
def manyFilters : State :=
  { rig with filters := ((rig.filters.set 1 { anyFrame with action := .holdGroup, actionGroup := 4 }).set 3
      { anyFrame with action := .drop }).set 7 { anyFrame with action := .haltAll, capture := true } }

theorem witness_FiltersMatchAndAct :
    hitSet rig goFrame .down = [] ∧ hitSet manyFilters goFrame .down = [1, 3, 7] ∧ hitSet (filtered .haltAll) goFrame .up = [3] ∧
    isMarker (manyFilters.filters.get 1) = false ∧ isMarker (manyFilters.filters.get 3) = true ∧
    isMarker (manyFilters.filters.get 7) = false := by decide +kernel

/-- R164: the stop actions come in increasing number, then one FILTER for the lowest marker. -/
theorem test_hit_set_acts_in_order :
    let s := filterBank manyFilters goFrame .down
    (s.lane.map fun o => (o.kind, o.scope)) = [(.halt, .all)] ∧ (groupAt s 4).live.state = .tripped ∧
    (s.causeRecord.map fun r => (r.first, r.filterHits, r.later)) = some (.filter, some [1, 3, 7], [.filter]) ∧
    notice s .filter = some (3#8, 2#8) := by decide +kernel

/-- R7: slot 6 has Present no and Group 4 in its record, and no notice names that group; a Present slot 16 gives it. -/
theorem test_absent_hoist_has_no_group :
    let absent := fun (s : State) => putHoist s 6 { hoistAt s 6 with cfg := { cfgAt s 6 with present := false, group := some 4 } }
    let named := fun (s : State) (src : NoticeSource) => (s.notices.get (sourceIndex src)).map fun n => (n.hoist, n.group)
    named (filterBank (absent (filtered .mark)) (short 0x21#8 0x0106#16) .down) .filter = some (some 6, none) ∧
    named (filterBank (absent (filtered .mark)) (short 0x21#8 0x0110#16) .down) .filter = some (some 16, some 4) ∧
    named (offerRelay (absent full) { somePass with src := 0x0106#16 }) .relayLoss = some (some 6, none) ∧
    named (after .move (headed (absent rig) (moveFrom 0x0106#16 25000 8 1#8))) .refuse = some (some 6, none) := by
  decide +kernel

theorem witness_DPortFrameIsRelayed :
    NoFilterEnabled rig ∧ somePass.kind ≠ 0x41#8 ∧ rig.relayQueue.length < 16 ∧ 16 ≤ full.relayQueue.length ∧
    ¬IsDroppedBy rig somePass .up ∧ ¬IsDroppedBy full somePass .up ∧ IsDroppedBy dropping somePass .up := by
  decide +kernel

theorem witness_SampleIsAppliedAndRelayed :
    let f := sample 5 65000 8000 4#8 0#8
    let bad := sample 5 65001 0 0#8 0#8
    f.kind = 0x41#8 ∧ f.payload.length = 6 ∧ slotOfAddr rig f.src = some 5 ∧ (cfgAt rig 5).present = true ∧
    driveStateOf (payloadByte f 4) = some .fault ∧ fieldAt f 0 ≤ 65000 ∧ fieldAt f 2 ≤ 8000 ∧ 65000 < fieldAt bad 0 ∧
    slotOfAddr rig (sample 6 0 0 0#8 0#8).src = some 6 ∧ (cfgAt rig 6).present = false ∧
    (short 0x41#8 0xFFFE#16).payload.length ≠ 6 ∧ ¬IsDroppedBy rig f .up ∧ IsDroppedBy dropping f .up := by decide +kernel

/-- R155 and R29: an own poll's answer is sunk under SINK and applied; one of another Len is malformed and relayed. -/
theorem test_sample_is_sunk_or_relayed :
    let sink := { rig with line := { rig.line with ownSampleRelay := .sink } }
    let arrives := fun (s : State) (f : Frame) => after (.dPortArrival (frameContent f)) s
    let f := { sample 5 4200 410 0#8 0#8 with dest := 0xFFFE#16 }
    (arrives sink f).relayQueue = [] ∧ (liveAt (arrives sink f) 5).position = some 4200 ∧
    (arrives rig f).relayQueue = [f] ∧
    (arrives sink (short 0x41#8 0xFFFE#16)).relayQueue = [short 0x41#8 0xFFFE#16] ∧
    notice (arrives sink (short 0x41#8 0xFFFE#16)) .refuse = some (1#8, 0x41#8) := by decide +kernel

theorem witness_LoadConditionFollowsWindow :
    let ruled : State → Reading → DriveState → HoistState := fun s r d =>
      (liveAt (driveStateRule (storeReading s 5 r) 5 r d) 5).state
    let moving := live rig 5 (granted 9000 250 17#8)
    let heavy := readingOf (sample 5 65000 900 0#8 0#8)
    let light := readingOf (sample 5 0 19 1#8 17#8)
    let low := readingOf (sample 5 0 20 1#8 17#8)
    validDrive heavy = some .idle ∧ (effectiveLimits rig 5).overLimit ≤ heavy.load ∧ ruled rig heavy .idle = .ready ∧
    validDrive light = some .moving ∧ light.load < (effectiveLimits moving 5).underLimit ∧
    ruled moving light .moving = .moving ∧
    validDrive low = some .moving ∧ ¬(low.load < (effectiveLimits moving 5).underLimit) ∧
    ¬((effectiveLimits moving 5).derateStart < low.load) := by decide +kernel

theorem witness_DriveStateRuleTable :
    (cfgAt rig 5).present = true ∧ armedGroupOf rig 5 = none ∧ (cfgAt rig 16).present = true ∧
    armedGroupOf rig 16 = some 4 ∧
    ∀ st ∈ [HoistState.offline, .ready, .held, .moving, .tripped],
      (liveAt (live rig 5 fun l => { l with state := st }) 5).state = st := by decide +kernel

theorem witness_ArrivalOrMiss :
    let s := live rig 5 (granted 9000 250 17#8)
    (liveAt s 5).grant = some { target := 9000, speed := 250, tag := 17#8 } ∧ armedGroupOf s 5 = none ∧
    (liveAt (truss .moving) 16).grant = some { target := 9000, speed := 160, tag := 41#8 } ∧
    armedGroupOf (truss .moving) 16 = some 4 ∧
    (8995 : Int) - 9000 ≤ s.line.arrivalWindow ∧ (9000 : Int) - 8995 ≤ s.line.arrivalWindow ∧
    ¬((9000 : Int) - 8994 ≤ s.line.arrivalWindow) := by decide +kernel

/-- R16: a member's miss holds its truss with cause ARRIVAL_MISS. -/
theorem test_member_miss_holds_the_truss :
    let s := reported (truss .moving) 16 8994 520 0#8 41#8
    (groupAt s 4).live.state = .holding ∧ (groupAt s 4).live.tripCause = some .arrivalMiss ∧
    (liveAt s 17).state = .held := by decide +kernel

def allIn (s : State) : State :=
  changeHoists s fun h r => if isMember s 4 h then { r with live := { r.live with arrived := true } } else r

/-- The step of descriptor 10 with Dwell 0, every member arrived. -/
def rushed : State :=
  { allIn (inGroup (truss .moving) fun l => { l with track := some track }) with
    trackPool := rig.trackPool.set 10 { base := 20000, speed := 250, dwell := 0, last := false } }

theorem witness_LastArrivalCompletes :
    (groupAt (allIn (truss .slowed)) 4).live.track = none ∧ inProgress (groupAt (allIn (truss .slowed)) 4).live = true ∧
    (∀ s ∈ [allIn (truss .slowed), allIn (inGroup (truss .moving) fun l => { l with track := some track }),
        allIn (inGroup (truss .moving) fun l => { l with track := some { track with cursor := 12 } })],
      ∀ h ∈ members s 4, (liveAt s h).arrived = true ∧
        (liveAt s h).grant.map (·.tag) = (groupAt s 4).live.grant.map (·.tag)) ∧
    track.dwell = none ∧ (rig.trackPool.get 12).last = true ∧ (rig.trackPool.get 10).last = false ∧
    (rig.trackPool.get 10).dwell ≠ 0 ∧ (rushed.trackPool.get 10).last = false ∧ (rushed.trackPool.get 10).dwell = 0 ∧
    (11 : TrackIx).val = track.cursor.val + 1 ∧ rushed.internalBatches = [] ∧
    rushed.motionQueue.length + (members rushed 4).length ≤ 32 ∧ ¬(29 + (members rushed 4).length ≤ 32) ∧
    (∀ h ∈ members rushed 4, (liveAt rushed h).arrived = true ∧
      (liveAt rushed h).grant.map (·.tag) = (groupAt rushed 4).live.grant.map (·.tag)) := by decide +kernel

/-- R123: with Dwell 0 the last arrival takes the next step in its own event. -/
theorem test_dwell_zero_goes_on_at_once :
    ((groupAt (examineArrival rushed 4 0#8) 4).live.track.map fun t => (t.cursor, t.dwell)) = some (11, none) ∧
    (examineArrival rushed 4 0#8).motionQueue.length = 4 ∧
    (groupAt (examineArrival { rushed with internalBatches := [.wave 5] } 4 0#8) 4).live.track =
      some { track with cursor := 11, dwell := some 0 } := by decide +kernel

theorem witness_VerdictIsWorseOfParts :
    1 ≤ [310, 295, 350, 305].sum ∧
    (∀ h ∈ members rig 4, (liveAt rig h).position = some (8000 + (cfgAt rig h).offset.toNat) ∧
      (liveAt rig h).load = some (if h = 16 then 520 else if h = 17 then 610 else if h = 18 then 760 else 640)) ∧
    IsGreatestOf 8000 ((members rig 4).map fun h => ((8000 + (cfgAt rig h).offset.toNat : Nat) : Int) - (cfgAt rig h).offset) ∧
    IsLeastOf 8000 ((members rig 4).map fun h => ((8000 + (cfgAt rig h).offset.toNat : Nat) : Int) - (cfgAt rig h).offset) ∧
    (groupAt rig 4).cfg.shareFloor ≤ 520 + 610 + 760 + 640 ∧
    ¬((groupAt { rig with groups := Table.fill 16 { cfg := { GroupConfig.powerOn with shareFloor := 64000 },
                                                    live := GroupLive.reset } } 4).cfg.shareFloor ≤ 2530) := by
  decide +kernel

def even (s : State) : State :=
  changeHoists s fun _ r => { r with live := { r.live with load := some 590 } }
def verdictAt (s : State) (p : Nat) (ld : Nat) : State :=
  live (even s) 18 fun l => { l with position := some p, load := some ld }

/-- In group 4, slot 18 at Position 8150 with Load 590 is CLEAN, 8200 WARN, 8250 HOLD, and Load 3000 TRIP. -/
theorem witness_EvaluationStoresAndActs :
    ((List.map (fun x : Nat × Nat => (evaluationOf (verdictAt (truss .moving) x.1 x.2) 4).verdict)
      [(8150, 590), (8200, 590), (8250, 590), (8150, 3000)]) = [.clean, .warn, .hold, .trip]) ∧
    (∀ st ∈ [GroupState.ready, .moving, .slowed, .holding],
      isChecked (groupAt (truss st) 4).live.state = true ∧ (evaluationOf (verdictAt (truss st) 8200 590) 4).verdict = .warn ∧
      (evaluationOf (verdictAt (truss st) 8150 590) 4).verdict = .clean) ∧
    isDwelling (groupAt dwelling 4).live = true ∧ isDwelling (groupAt (truss .moving) 4).live = false ∧
    (groupAt (truss .slowed) 4).live.cleanStreak < 3 ∧
    (groupAt (inGroup (truss .slowed) fun l => { l with cleanStreak := 3 }) 4).live.cleanStreak = 3 ∧
    (groupAt (truss .moving) 4).live.grant = some { base := 9000, speed := 160, tag := 41#8 } ∧
    rig.lane.length < 4 ∧ armedGroupOf rig 16 = some 4 ∧ (liveAt rig 16).fresh = true ∧
    (∀ m ∈ members rig 4, (liveAt rig m).fresh = true ∧ (liveAt rig m).sampleAge < rig.line.ageLimit) ∧
    armedGroupOf rig 5 = none ∧ (liveAt (live rig 19 fun l => { l with sampleAge := 200 }) 19).sampleAge ≥ 200 := by
  decide +kernel

/-! ### Moves -/

theorem witness_MoveIsGranted :
    let f := moveFrom 0x0109#16 25000 8 127#8
    let s := headed rig f
    AtHead s f 0#16 [] ∧ f.kind = 0x21#8 ∧ f.payload.length = 5 ∧ slotOfAddr s f.dest = some 9 ∧ RoomFor s 1 ∧
    LineOpen s 0#16 ∧ (payloadByte f 4).toNat ≤ 127 ∧ 8 ≤ fieldAt f 2 ∧ (cfgAt s 9).present = true ∧
    (∀ g, (cfgAt s 9).group = some g → (groupAt s g).live.state = .parked) ∧ isMovable (liveAt s 9).state = true ∧
    (liveAt s 9).loadCondition ≠ .over ∧ (liveAt s 9).load = some 905 := by decide +kernel

/-- With test_move_refusals, which reaches every code of the chain but LINE_SILENT, here reached by the stamp 1. -/
theorem witness_MoveIsRefused :
    let f := moveFrom 0xEFFF#16 25000 8 127#8
    let g := moveFrom 0x0105#16 25000 8 127#8
    let s := headed rig f
    AtHead s f 0#16 [] ∧ f.kind = 0x21#8 ∧ f.payload.length = 5 ∧ f.dest.toNat ≤ 0xEFFF ∧ RoomFor s 1 ∧
    slotOfAddr s f.dest = none ∧
    AtHead { rig with intake := [{ frame := g, epoch := 1#16 }] } g 1#16 [] ∧ slotOfAddr rig g.dest = some 5 ∧
    rig.motionEnable = true ∧ rig.portMode = .normal ∧ (1#16 : BitVec 16) ≠ rig.silence.epoch ∧
    (let u := headed (live rig 5 fun l => { l with state := .tripped, loadCondition := .over }) g
     slotOfAddr u g.dest = some 5 ∧ (liveAt u 5).state = .tripped ∧ (liveAt u 5).loadCondition = .over ∧
     (liveAt rig 5).state = .ready ∧ (liveAt rig 5).loadCondition ≠ .over ∧ (payloadByte g 4).toNat ≤ 127 ∧
     8 ≤ fieldAt g 2 ∧ (cfgAt u 5).present = true ∧ (cfgAt u 5).group = none ∧ RoomFor u 1) := by decide +kernel

/-- R19, R53, R62: an OVER SAMPLE trips its hoist, and a MOVE after it is refused with TRIPPED, code 6 (log entry 26). -/
theorem test_over_sample_then_move :
    let s := applySample rig 5 (readingOf (sample 5 65000 8000 0#8 0#8))
    (liveAt s 5).state = .tripped ∧ (liveAt s 5).loadCondition = .over ∧
    hoistRefusal s 5 = some .tripped := by decide +kernel

/-- R6, R53: a READY hoist that a write of its load window has made OVER is refused with OVERLOAD (section 3.6, MOVE G). -/
theorem test_over_window_then_move :
    hoistRefusal (live rig 5 fun l => { l with loadCondition := .over }) 5 = some .overload := by decide +kernel

theorem witness_GrantsStayWithinLimits :
    (cfgAt rig 9).softLow ≤ (cfgAt rig 9).softHigh ∧ (cfgAt rig 9).softLow ≤ 21500 ∧ 21500 ≤ (cfgAt rig 9).softHigh ∧
    8 ≤ (effectiveLimits rig 16).ceiling ∧ (effectiveLimits rig 16).derateStart < (effectiveLimits rig 16).overLimit ∧
    SpanOf rig 4 1050 19750 ∧ 18 ∈ members rig 4 ∧ (cfgAt rig 16).limitSource = .group ∧ (cfgAt rig 16).group = some 4 ∧
    (cfgAt rig 9).limitSource = .own ∧ (cfgAt rig 9).group = none ∧
    (∀ h ∈ members rig 4, (liveAt rig h).load.isSome = true ∧ 8 ≤ (effectiveLimits rig h).ceiling) := by decide +kernel

def loadOf (h : Slot) : Nat := if h = 16 then 520 else if h = 17 then 610 else if h = 18 then 760 else 640
def addrOf (h : Slot) : LineAddr := 0x0100#16 + BitVec.ofNat 16 h.val

def gmoveHeads : List State :=
  [GroupState.ready, .moving, .slowed, .holding].map fun st => headed (truss st) (gmoveFrom 20000 250 41#8)

theorem witness_GmoveIsGranted :
    let f := gmoveFrom 20000 250 41#8
    f.kind = 0x22#8 ∧ f.payload.length = 5 ∧ f.dest = 0xF000#16 + 4#16 ∧ (payloadByte f 4).toNat ≤ 127 ∧ fieldAt f 2 = 250 ∧
    ∀ s ∈ gmoveHeads, AtHead s f 0#16 [] ∧ RoomFor s (members s 4).length ∧ LineOpen s 0#16 ∧
      (groupAt s 4).live.state ≠ .parked ∧ (groupAt s 4).live.state ≠ .tripped ∧ (groupAt s 4).live.lastVerdict ≠ .hold ∧
      (groupAt s 4).live.track = none := by decide +kernel
theorem witness_GmoveIsGranted_members :
    ∀ s ∈ gmoveHeads, AddressedBy s 4 addrOf ∧ MembersFit s 4 ∧ SpanOf s 4 1050 19750 := by decide +kernel
theorem witness_GmoveIsGranted_speed : ∀ s ∈ gmoveHeads, SlowestOf s 4 loadOf 250 160 := by decide +kernel

def gmoveRefusals : List State :=
  [{ rig with motionEnable := false }, { rig with portMode := .holdOnly }, { rig with silence := { rig.silence with epoch := 1#16 } },
   inGroup rig fun l => { l with state := .tripped }, inGroup rig fun l => { l with state := .holding, lastVerdict := .hold },
   inGroup (truss .moving) fun l => { l with track := some track }, live rig 19 fun l => { l with state := .offline },
   putHoist rig 18 { member 19000 20100 150 760 with live := { baseHoist.live with position := some 8150 } }]

/-- The checks in order (R87), with the frame stamped 0 in every state; the last state has Lo 18850 above Hi 17850 once slot
19 reaches no higher than 18000. -/
theorem test_gmove_refusals :
    let f := gmoveFrom 20000 250 41#8
    let low := fun (s : State) => putHoist s 19 { hoistAt s 19 with cfg := { cfgAt s 19 with softHigh := 18000 } }
    let at0 := fun (s : State) => ({ s with intake := [{ frame := f, epoch := 0#16 }] } : State)
    (gmoveRefusals.map fun s => notice (after .gmove (at0 (low s))) .refuse) =
      ([13#8, 14#8, 17#8, 8#8, 8#8, 15#8, 9#8, 10#8].map fun c => some (c, 0x22#8)) ∧
    SpanOf (low (gmoveRefusals.getD 7 rig)) 4 18850 17850 ∧ RoomFor (at0 rig) (members rig 4).length := by decide +kernel

/-- R87 checks 4 and 5: a part tag and a speed of 7 are refused, each with its code. -/
theorem test_gmove_refuses_tag_and_speed :
    notice (after .gmove (headed rig (gmoveFrom 20000 250 128#8))) .refuse = some (12#8, 0x22#8) ∧
    notice (after .gmove (headed rig (gmoveFrom 20000 7 41#8))) .refuse = some (11#8, 0x22#8) := by decide +kernel

/-- Every refusing state of test_gmove_refusals takes the GMOVE at its head. -/
theorem witness_GmoveIsRefused :
    let f := gmoveFrom 20000 250 41#8
    f.kind = 0x22#8 ∧ f.payload.length = 5 ∧ f.dest = 0xF000#16 + 4#16 ∧
    ∀ s ∈ gmoveRefusals, let t : State := { s with intake := [{ frame := f, epoch := 0#16 }] }
      AtHead t f 0#16 [] ∧ RoomFor t (members t 4).length := by decide +kernel

/-- Group 7 has no members, and its frames are taken while a due own POLL claims an entry. -/
theorem witness_refused_without_members :
    let s := live { rig with motionQueue := [{ frame := short 0x25#8 0x0109#16, role := .poll (some 9) }] } 9 fun l =>
      { l with sampleAge := 50 }
    let m := { gmoveFrom 20000 250 41#8 with dest := 0xF007#16 }
    let o := { goFrame with dest := 0xF007#16 }
    dueClaims s = true ∧ members s 7 = [] ∧ RoomFor s (members s 7).length ∧ m.payload.length = 5 ∧ o.payload = [] ∧
    m.dest = 0xF000#16 + 7#16 ∧ (groupAt s 7).live.state = .parked ∧
    notice (after .gmove (headed s m)) .refuse = some (8#8, 0x22#8) ∧
    notice (after .go (headed s o)) .refuse = some (8#8, 0x26#8) := by decide +kernel

theorem witness_GoIsRefused :
    let s := headed rig goFrame
    AtHead s goFrame 0#16 [] ∧ goFrame.kind = 0x26#8 ∧ goFrame.payload = [] ∧ goFrame.dest = 0xF000#16 + 4#16 ∧
    RoomFor s (members s 4).length ∧ LineOpen s 0#16 ∧ (groupAt s 4).live.state = .ready ∧
    (groupAt s 4).cfg.trackStart = some 10 ∧ (10 : TrackIx) ≤ 12 ∧ (s.trackPool.get 12).last = true ∧
    (let t := live s 17 fun l => { l with loadCondition := .over }
     members t 4 = [16] ++ 17 :: [18, 19] ∧ (liveAt t 17).loadCondition = .over ∧ (addrOfSlot t 16).isSome = true ∧
     isMovable (liveAt t 16).state = true ∧ (liveAt t 16).loadCondition ≠ .over) ∧
    (let t := putHoist s 18 { member 19000 20100 150 760 with live := baseHoist.live }
     MembersFit t 4 ∧ (∀ h ∈ members t 4, (addrOfSlot t h).isSome = true) ∧ SpanOf t 4 18850 19750 ∧
     SpanOf (putHoist t 19 { member 1000 18000 150 640 with live := baseHoist.live }) 4 18850 17850) := by decide +kernel

/-- A first step that is refused raises TRACK_ERROR alone: MEMBER_STATE with its culprit, and GROUP_RANGE (R119, R124). -/
theorem test_refused_first_step :
    let t := live rig 17 fun l => { l with loadCondition := .over }
    let n := putHoist (putHoist rig 18 { member 19000 20100 150 760 with live := baseHoist.live }) 19
      { member 1000 18000 150 640 with live := baseHoist.live }
    notice (after .go (headed t goFrame)) .trackError = some (9#8, 10#8) ∧
    notice (after .go (headed n goFrame)) .trackError = some (10#8, 10#8) ∧
    (groupAt (after .go (headed t goFrame)) 4).live.state = .ready := by decide +kernel

theorem witness_GoStartsTrack :
    let s := headed rig goFrame
    AddressedBy s 4 addrOf ∧ MembersFit s 4 ∧ SpanOf s 4 1050 19750 ∧
    SlowestOf s 4 loadOf (s.trackPool.get 10).speed 160 := by decide +kernel

theorem witness_TrackStepIsTaken :
    stepDue.internalBatches = [.step 4] ∧
    (groupAt stepDue 4).live.track = some { track with cursor := 12, dwell := some 0 } ∧
    stepDue.motionQueue.length + (members stepDue 4).length ≤ 32 ∧
    ¬(29 + (members stepDue 4).length ≤ 32) ∧ LineOpen stepDue 0#16 ∧ inProgress (groupAt stepDue 4).live = true ∧
    MembersFit stepDue 4 ∧ AddressedBy stepDue 4 addrOf ∧ SpanOf stepDue 4 1050 19750 ∧ SlowestOf stepDue 4 loadOf 60 60 ∧
    members stepDue 4 = [] ++ 16 :: [17, 18, 19] := by decide +kernel

theorem witness_RewriteWaveIsAdmitted :
    waved.internalBatches = [.wave 4] ∧ (groupAt waved 4).live.wave = some { tag := 130#8, speed := 80 } ∧
    (groupAt waved 4).live.grant = some { base := 9000, speed := 160, tag := 41#8 } ∧ AddressedBy waved 4 addrOf ∧
    waved.motionQueue.length + (members waved 4).length ≤ 32 ∧ 32 < 29 + (members waved 4).length := by decide +kernel

theorem witness_PollsArePlaced :
    let f := short 0x25#8 0x0105#16
    let s := headed rig f
    let due := live s 9 fun l => { l with sampleAge := 50 }
    let queued := { s with motionQueue := [{ frame := f, role := .poll (some 5) }] }
    AtHead s f 0#16 [] ∧ f.kind = 0x25#8 ∧ f.payload = [] ∧ s.pollPromote.length < 2 ∧ s.motionQueue = [] ∧
    duePromotes s = false ∧ duePromotes due = true ∧ (∃ e ∈ queued.motionQueue, e.frame.dest = f.dest) ∧ RoomFor queued 1 ∧
    isDue due 9 = true ∧ addrOfSlot due 9 = some 0x0109#16 ∧ (cfgAt due 9).present = true ∧
    due.line.sweepInterval ≤ (liveAt due 9).sampleAge ∧ (liveAt due 9).pollOutstanding = false ∧
    (∀ k, k < 9 → isDue due k = false) ∧ (∀ h, isDue s h = false) ∧
    ¬RoomFor { queued with internalBatches := [.wave 4] } 1 := by decide +kernel

theorem witness_HeadsWaitForRoom :
    let s := headed rig somePass
    AtHead s somePass 0#16 [] ∧ classOf somePass = .passThrough ∧ RoomFor s 1 ∧ 32 ≤ full.motionQueue.length ∧
    classOf goFrame = .go 4 ∧ members s 4 ≠ [] ∧
    (let due := live { s with motionQueue := [{ frame := short 0x25#8 0x0109#16, role := .poll (some 9) }] } 9 fun l =>
      { l with sampleAge := 50 }
     dueClaims due = true) ∧ operationOf .arm ≠ none ∧ classOf somePass ≠ .move ∧ (∀ g, classOf somePass ≠ .gmove g) ∧
    classOf somePass ≠ .mgmt := by decide +kernel

/-! ### Management -/

def asks (s : State) (op table index : Byte) (mask : BitVec 16) (values : List Byte) : Bool :=
  let f := mgmt op table index mask values
  decide (MgmtTakes (headed s f) f 0#16 [] op)

theorem witness_MgmtIsAnsweredOnce :
    (∀ op ∈ [1#8, 2#8, 3#8, 4#8, 5#8, 6#8, 7#8, 8#8, 9#8, 10#8, 11#8, 12#8, 0#8, 13#8, 255#8],
      asks rig op 1#8 5#8 0#16 [] = true) ∧
    (let f := mgmt 1#8 1#8 5#8 0#16 []
     let s := { headed rig f with rigIdentity := some 1#32 }
     MgmtAtHead s f 0#16 [] ∧ s.rigIdentity = some 1#32 ∧ (1#32 : BitVec 32) ≠ mgmtIdentity f) := by decide +kernel

theorem witness_ReadsReturnRecords :
    (∀ t ∈ [0#8, 1#8, 2#8, 3#8, 4#8, 5#8, 6#8, 7#8], asks rig 1#8 t 1#8 0#16 [] = true ∧ asks rig 3#8 t 15#8 0#16 [] = true) ∧
    asks rig 1#8 1#8 64#8 0#16 [] = true ∧ asks rig 8#8 0#8 2#8 0#16 [] = true ∧
    ({ rig with causeRecord := some someCause } : State).causeRecord = some someCause := by decide +kernel

/-- The six whole-record writes, each at boundary values of its ranges, complete with DONE. -/
theorem witness_AcceptedWritesCommit :
    let c : HoistConfig :=
      { cfgAt rig 5 with
        softLow := 65000, softHigh := 65000, speedCeiling := 600, underLimit := 7998, derateStart := 7999
        overLimit := 8000, weight := 1024, offset := -2000 }
    let k : GroupConfig :=
      { (groupAt rig 3).cfg with
        speedCeiling := 10, skewWarn := 1, skewLimit := 2, shareWarn := 1, shareTolerance := 2, shareFloor := 64000 }
    let e : MapEntry := { enabled := true, base := 0xEFC0#16, spanExp := 5, slotBase := 32 }
    let t : Filter := { Filter.powerOn with enabled := true, offset := 46, action := .haltAll, actionGroup := 15 }
    let d : TrackStep := { base := 65000, speed := 600, dwell := 60000, last := false }
    let n : LineConfig := { rig.line with sweepInterval := 5, pollTimeout := 4, ageLimit := 10, silenceLimit := 50 }
    let bare := { rig with addressMap := State.reset.addressMap }
    (reply .write rig (mgmt 2#8 1#8 5#8 0x07FF#16 (hoistFields c).flatten) = [0#8, 0#8, 2#8, 5#8]) ∧
    (reply .write rig (mgmt 2#8 2#8 3#8 0x03FF#16 (groupFields k).flatten) = [0#8, 0#8, 2#8, 3#8]) ∧
    (reply .write bare (mgmt 2#8 3#8 15#8 0x000F#16 (mapFields e).flatten) = [0#8, 0#8, 2#8, 15#8]) ∧
    (reply .write rig (mgmt 2#8 4#8 15#8 0x03FF#16 (filterFields t).flatten) = [0#8, 0#8, 2#8, 15#8]) ∧
    (reply .write rig (mgmt 2#8 5#8 127#8 0x000F#16 (trackFields d).flatten) = [0#8, 0#8, 2#8, 127#8]) ∧
    (reply .write rig (mgmt 2#8 6#8 0#8 0x01FF#16 (lineFields n).flatten) = [0#8, 0#8, 2#8, 0#8]) ∧
    (reply .write rig (mgmt 2#8 1#8 16#8 0x07FF#16 (hoistFields c).flatten) = [1#8, 21#8, 2#8, 16#8]) ∧
    asks rig 2#8 6#8 0#8 0x01FF#16 (lineFields n).flatten = true := by decide +kernel

/-- A line WRITE that ends a poll timer, makes a MOVING hoist and a member of an armed group stale, and expires the Silence
Timer. -/
def lowered : LineConfig := { rig.line with sweepInterval := 5, pollTimeout := 4, ageLimit := 10, silenceLimit := 50 }
def lineWrite : Frame := mgmt 2#8 6#8 0#8 0x01FF#16 (lineFields lowered).flatten
def aging : State :=
  let s := live (live rig 5 fun l => { granted 9000 250 17#8 l with sampleAge := 10, pollOutstanding := true }) 16 fun l =>
    { l with sampleAge := 199 }
  headed { s with pollTimers := s.pollTimers.set 5 (some 4), silence := { s.silence with state := .running, count := 50 } }
    lineWrite

theorem witness_AcceptedWritesCommit_line :
    MgmtTakes aging lineWrite 0#16 [] 0x02#8 ∧ 5 + 4 < lowered.ageLimit ∧ (∀ i, lowered.noticeLevels.get i ≤ 7) ∧
    aging.pollTimers.get 5 = some 4 ∧ aging.line.pollTimeout ≠ 4 ∧ aging.line.ageLimit = 200 ∧
    (cfgAt aging 5).present = true ∧ (liveAt aging 5).sampleAge = 10 ∧ (liveAt aging 5).state = .moving ∧
    (liveAt aging 16).sampleAge = 199 ∧ armedGroupOf aging 16 = some 4 ∧ 50 < aging.line.silenceLimit := by decide +kernel

/-- R148: the stale orders come before the order of the silence expiry, and the first of them is the Cause Record. -/
theorem test_line_write_expires_in_order :
    let s := after .write aging
    (liveAt s 5).state = .tripped ∧ (liveAt s 5).pollOutstanding = false ∧ s.pollTimers.get 5 = none ∧
    (liveAt s 16).state = .offline ∧ (groupAt s 4).live.state = .holding ∧ s.silence.state = .expired ∧
    (s.causeRecord.map fun r => (r.first, r.hoist, r.later)) = some (.stale, some 5, [.stale, .silence]) := by
  decide +kernel

/-- Write B of section 11.2, a mask of no fields and a line WRITE of one field meet the premise on the merged record. -/
theorem witness_AcceptedWritesCommit_partial :
    let narrow : HoistConfig :=
      { cfgAt rig 5 with softLow := 1000, softHigh := 30000, underLimit := 20, derateStart := 700, overLimit := 900 }
    let wide : HoistConfig := { narrow with softHigh := 33000, overLimit := 1000 }
    let s := putHoist rig 5 { hoistAt rig 5 with cfg := narrow }
    let b := mgmt 2#8 1#8 5#8 0x0110#16 [0x80#8, 0xE8#8, 0x03#8, 0xE8#8]
    mergeFields (payloadByte b 7 ++ payloadByte b 8) (hoistFields narrow) (b.payload.drop 9) = some (hoistFields wide) ∧
    mergeFields 0x0000#16 (hoistFields narrow) [] = some (hoistFields narrow) ∧
    mergeFields 0x0002#16 (lineFields rig.line) [19#8] = some (lineFields { rig.line with pollTimeout := 19 }) ∧
    asks s 2#8 1#8 5#8 0x0110#16 [0x80#8, 0xE8#8, 0x03#8, 0xE8#8] = true ∧
    cfgAt (after .write (headed s b)) 5 = wide ∧ cfgAt (after .write (headed s (mgmt 2#8 1#8 5#8 0#16 []))) 5 = narrow := by
  decide +kernel

/-- R176: a line WRITE withdraws notices only where it selects Notice Levels. -/
theorem test_levels_act_when_selected :
    let quiet : LineConfig := { rig.line with noticeLevels := Table.fill 16 0 }
    let s := refusedWith rig none none 1#8 0x21#8 0#8
    let t : State := { s with line := quiet }
    ((after .write (headed t (mgmt 2#8 6#8 0#8 0x0002#16 [19#8]))).notices.get 8).isSome = true ∧
    ((after .write (headed s (mgmt 2#8 6#8 0#8 0x0100#16 (List.replicate 16 0#8)))).notices.get 8) = none := by
  decide +kernel

def rawOf (values : List Byte) (mask : BitVec 16) : List (List Byte) :=
  (mergeFields mask (hoistFields (cfgAt rig 5)) values).getD []

/-- The merged copies that reach each failing field, with group 3 holding sixteen others for GROUP_FULL. -/
theorem witness_WriteFormAndRefusal :
    let crowd := { rig with hoists := Table.build fun h => if 16 ≤ h.val ∧ h.val < 32 then
      { baseHoist with cfg := { baseHoist.cfg with group := some 3 } } else hoistAt rig h }
    asks rig 2#8 1#8 5#8 0x0001#16 [2#8] = true ∧
    mergeFields 0x1000#16 (hoistFields (cfgAt rig 5)) [1#8] = none ∧
    mergeFields 0x0001#16 (hoistFields (cfgAt rig 5)) [2#8] = some (rawOf [2#8] 0x0001#16) ∧
    reply .write rig (mgmt 2#8 1#8 5#8 0x0001#16 [2#8]) = [1#8, 19#8, 2#8, 5#8, 0#8] ∧
    reply .write rig (mgmt 2#8 1#8 5#8 0x0002#16 [16#8]) = [1#8, 19#8, 2#8, 5#8, 1#8] ∧
    reply .write crowd (mgmt 2#8 1#8 5#8 0x0002#16 [3#8]) = [1#8, 23#8, 2#8, 5#8, 1#8] ∧
    reply .write rig (mgmt 2#8 1#8 5#8 0x0004#16 [2#8]) = [1#8, 19#8, 2#8, 5#8, 2#8] ∧
    reply .write rig (mgmt 2#8 1#8 5#8 0x0008#16 (twoBytes 65001)) = [1#8, 19#8, 2#8, 5#8, 3#8] ∧
    reply .write rig (mgmt 2#8 1#8 5#8 0x0020#16 (twoBytes 9)) = [1#8, 19#8, 2#8, 5#8, 5#8] ∧
    reply .write rig (mgmt 2#8 1#8 5#8 0x0040#16 (twoBytes 700)) = [1#8, 20#8, 2#8, 5#8, 7#8] ∧
    reply .write rig (mgmt 2#8 1#8 5#8 0x0010#16 (twoBytes 65001)) = [1#8, 19#8, 2#8, 5#8, 4#8] ∧
    reply .write rig (mgmt 2#8 1#8 5#8 0x0100#16 (twoBytes 700)) = [1#8, 20#8, 2#8, 5#8, 8#8] ∧
    reply .write rig (mgmt 2#8 1#8 5#8 0x0200#16 (twoBytes 1025)) = [1#8, 19#8, 2#8, 5#8, 9#8] ∧
    reply .write rig (mgmt 2#8 1#8 5#8 0x0400#16 (twoBytes 63535)) = [1#8, 19#8, 2#8, 5#8, 10#8] := by decide +kernel

/-- The other tables' checks at boundary values: each refuses with its reason and field (R41, R75, R115, R148, R161). -/
theorem test_write_refusals_of_other_tables :
    reply .write rig (mgmt 2#8 2#8 3#8 0x0002#16 (twoBytes 50)) = [1#8, 20#8, 2#8, 3#8, 2#8] ∧
    reply .write rig (mgmt 2#8 2#8 3#8 0x0200#16 [128#8]) = [1#8, 19#8, 2#8, 3#8, 9#8] ∧
    reply .write rig (mgmt 2#8 3#8 1#8 0x000F#16 [1#8, 0x01#8, 0x3F#8, 0#8, 0#8]) = [1#8, 22#8, 2#8, 1#8, 3#8] ∧
    reply .write rig (mgmt 2#8 3#8 1#8 0x0006#16 [0x01#8, 0x41#8, 1#8]) = [1#8, 19#8, 2#8, 1#8, 2#8] ∧
    reply .write rig (mgmt 2#8 4#8 0#8 0x0010#16 [47#8]) = [1#8, 19#8, 2#8, 0#8, 4#8] ∧
    reply .write rig (mgmt 2#8 5#8 0#8 0x0004#16 (twoBytes 60001)) = [1#8, 19#8, 2#8, 0#8, 2#8] ∧
    reply .write rig (mgmt 2#8 6#8 0#8 0x0004#16 (twoBytes 70)) = [1#8, 20#8, 2#8, 0#8, 2#8] ∧
    reply .write rig (mgmt 2#8 6#8 1#8 0x0000#16 []) = [1#8, 32#8, 2#8, 1#8] ∧
    reply .write rig (mgmt 2#8 0#8 0#8 0x0000#16 []) = [1#8, 31#8, 2#8, 0#8] := by decide +kernel

theorem witness_GroupsAreArmedAndParked :
    asks parked 4#8 0#8 16#8 0#16 [] = true ∧ asks parked 5#8 0#8 4#8 0#16 [] = true ∧
    (groupAt parked 4).live.state = .parked ∧ (members parked 4).length = 4 ∧ (members parked 3).length < 2 ∧
    (∀ h ∈ members parked 4, (liveAt parked h).state = .ready ∧ addrOfSlot parked h = some (addrOf h)) ∧
    ((members parked 4).map fun h => (cfgAt parked h).weight).sum = 1024 ∧
    (∀ h ∈ members parked 4, (liveAt parked h).position = some (8000 + (cfgAt parked h).offset.toNat)) ∧
    reply .arm (live parked 16 fun l => { l with state := .tripped }) (mgmt 4#8 0#8 4#8 0#16 []) = [1#8, 9#8, 4#8, 4#8] ∧
    reply .arm rig (mgmt 4#8 0#8 4#8 0#16 []) = [1#8, 8#8, 4#8, 4#8] ∧
    reply .arm parked (mgmt 4#8 0#8 3#8 0#16 []) = [1#8, 24#8, 4#8, 3#8] ∧
    reply .arm (putHoist parked 16 { member 1000 20000 0 520 with cfg := { (cfgAt rig 16) with weight := 255 } })
      (mgmt 4#8 0#8 4#8 0#16 []) = [1#8, 25#8, 4#8, 4#8] ∧
    reply .park (live rig 16 fun l => { l with driveState := some .moving }) (mgmt 5#8 0#8 4#8 0#16 []) =
      [1#8, 33#8, 5#8, 4#8] := by decide +kernel

def tripped : State :=
  changeHoists (inGroup rig fun l => { l with state := .tripped }) fun h r =>
    if r.cfg.present then { r with live := { r.live with state := .tripped, sampleAge := if h = 5 then 199 else 3 } } else r

theorem witness_RecoverRestoresWhatPasses :
    asks tripped 6#8 1#8 5#8 0#16 [] = true ∧ (liveAt tripped 5).sampleAge < tripped.line.ageLimit ∧
    reply .recover tripped (mgmt 6#8 1#8 5#8 0#16 []) = [0#8, 0#8, 6#8, 5#8] ∧
    reply .recover tripped (mgmt 6#8 1#8 16#8 0#16 []) = [1#8, 7#8, 6#8, 16#8] ∧
    reply .recover tripped (mgmt 6#8 2#8 4#8 0#16 []) = [0#8, 0#8, 6#8, 4#8] ∧
    reply .recover rig (mgmt 6#8 2#8 4#8 0#16 []) = [1#8, 8#8, 6#8, 4#8] ∧
    reply .recover (live tripped 16 fun l => { l with driveState := none }) (mgmt 6#8 2#8 4#8 0#16 []) =
      [1#8, 30#8, 6#8, 4#8] ∧
    reply .recover tripped (mgmt 6#8 0#8 0#8 0#16 []) = [0#8, 0#8, 6#8, 0#8] ∧
    reply .recover (live tripped 9 fun l => { l with sampleAge := 200 }) (mgmt 6#8 0#8 0#8 0#16 []) =
      [1#8, 30#8, 6#8, 0#8] ∧
    reply .recover rig (mgmt 6#8 3#8 0#8 0#16 []) = [1#8, 31#8, 6#8, 0#8] ∧
    reply .recover rig (mgmt 6#8 1#8 64#8 0#16 []) = [1#8, 32#8, 6#8, 64#8] := by decide +kernel

theorem witness_MotionAndPortModeAreSet :
    asks rig 10#8 0#8 1#8 0#16 [] = true ∧ asks rig 11#8 0#8 2#8 0#16 [] = true ∧ rig.rigIdentity = none ∧
    reply .setMotion rig (mgmt 10#8 0#8 1#8 0#16 []) = [1#8, 29#8, 10#8, 1#8] ∧
    reply .setMotion { rig with rigIdentity := some 0#32 } (mgmt 10#8 0#8 1#8 0#16 []) = [0#8, 0#8, 10#8, 1#8] ∧
    (∀ h, (liveAt rig h).state ≠ .moving) ∧ (∀ g, inProgress (groupAt rig g).live = false) ∧
    (liveAt (truss .moving) 16).state = .moving ∧
    reply .setPortMode (truss .moving) (mgmt 11#8 0#8 2#8 0#16 []) = [1#8, 33#8, 11#8, 2#8] ∧
    reply .setPortMode rig (mgmt 11#8 0#8 3#8 0#16 []) = [1#8, 32#8, 11#8, 3#8] ∧
    (after .setPortMode (headed rig (mgmt 11#8 0#8 2#8 0#16 []))).nextFrame = none ∧
    (after .setPortMode (headed rig (mgmt 11#8 0#8 1#8 0#16 []))).nextFrame = some someEntry ∧
    moveSlot { frame := moveFrom 0x0105#16 1 8 1#8, role := .granted 5 } = some 5 := by decide +kernel

theorem witness_IdentityCauseAndLineReset :
    asks rig 9#8 0#8 0#8 0#16 [1#8, 2#8, 3#8] = true ∧ asks rig 9#8 0#8 0#8 0#16 [1#8, 2#8, 3#8, 4#8] = true ∧
    asks { rig with rigIdentity := some 0#32 } 9#8 0#8 0#8 0#16 [1#8, 2#8, 3#8, 4#8] = true ∧
    asks rig 7#8 0#8 0#8 0#16 [] = true ∧ asks rig 12#8 0#8 0#8 0#16 [] = true := by decide +kernel

theorem witness_ResetsGiveTheirValues :
    (resetAsked.replySlot.map (·.resets)) = some true ∧ resetAsked.uWire = none ∧
    ({ resetAsked with uWire := some somePass } : State).uWire ≠ none ∧ rig.replySlot = none := by decide +kernel

theorem witness_DownstreamSelectionOrder :
    let begun : Entry := { frame := moveFrom 0x0111#16 1 8 1#8, role := .batch 17 0#8 true }
    let unsent := { rig with lane := [{ kind := .hold, scope := .group 3, pendingList := [], origin := .part,
                                        relatedSeq := 0#8, cause := none }] }
    rig.onWire = some someEntry ∧ rig.nextFrame = some someEntry ∧ rig.portMode = .normal ∧ rig.lane = [] ∧
    State.reset.onWire = none ∧ isBegun begun = true ∧ isBegun someEntry = false ∧ moveSlot begun = some 17 ∧
    moveSlot someEntry = none ∧ (unsent.lane.map (·.pendingList)) = [[]] ∧ namesSlots (.group 3) = true ∧
    (full.lane.head?.map fun o => (o.scope, o.pendingList)) = some (.hoist 5, [] ++ 5 :: []) ∧
    addrOfSlot full 5 = some 0x0105#16 ∧ namesSlots (.hoist 5) = true := by decide +kernel

/-- R38, R39 and R141: HOLD_ONLY discards a batch with a REFUSE and sends the POLL behind it, ISOLATE discards both. -/
theorem test_modes_discard_at_selection :
    let m := fun (h : Slot) => ({ frame := moveFrom 0x0110#16 1 8 1#8, role := .batch h 3#8 false } : Entry)
    let p : Entry := { frame := short 0x25#8 0x0105#16, role := .poll (some 5) }
    let sent := fun (mode : PortMode) => after .dPortTransmitCompletion { rig with motionQueue := [m 16, m 17, p], portMode := mode }
    (sent .normal).motionQueue = [{ m 17 with role := .batch 17 3#8 true }, p] ∧ (sent .normal).nextFrame = some (m 16) ∧
    (sent .holdOnly).nextFrame = some p ∧ notice (sent .holdOnly) .refuse = some (14#8, 0x21#8) ∧
    (sent .isolate).nextFrame = none ∧ (sent .isolate).motionQueue = [] ∧ (sent .isolate).pollTimers.get 5 = some 0 ∧
    notice (sent .isolate) .refuse = none := by decide +kernel

theorem witness_UpstreamSelectionOrder :
    let s := refusedWith rig none none 1#8 0x21#8 0#8
    let bare := { State.reset with uWire := some somePass }
    rig.uWire = some somePass ∧ DPortSettled rig ∧ DPortSettled { rig with nextFrame := none } ∧ DPortSettled bare ∧
    bare.onWire = none ∧ bare.uWire = some somePass ∧ State.reset.uWire = none ∧ rig.replySlot = none ∧
    ({ bare with replySlot := some { frame := somePass, resets := true } } : State).replySlot =
      some { frame := somePass, resets := true } ∧
    (s.notices.get 8).isSome = true ∧ (∀ j, s.notices.get j ≠ none → j = 8) ∧ s.lastWasNotice = false ∧
    (∀ i, rig.notices.get i = none) ∧ rig.relayQueue = [] ∧
    full.relayQueue = somePass :: List.replicate 15 somePass := by decide +kernel

theorem witness_StaleExpiryActsByState :
    (cfgAt rig 6).present = false ∧ (cfgAt rig 5).present = true ∧ (liveAt rig 5).sampleAge + 1 ≠ rig.line.ageLimit ∧
    (liveAt expiring 5).sampleAge + 1 = expiring.line.ageLimit ∧ (cfgAt expiring 5).present = true ∧
    (liveAt rig 5).state = .ready ∧ armedGroupOf rig 5 = none ∧ armedGroupOf rig 16 ≠ none ∧
    (∀ st ∈ [HoistState.offline, .tripped, .moving, .held],
      (liveAt (live rig 5 fun l => { l with state := st }) 5).state = st) := by decide +kernel

theorem witness_CountsExpire :
    rig.pollTimers.get 5 = none ∧ ticking.pollTimers.get 5 = some 18 ∧ 18 + 1 < ticking.line.pollTimeout ∧
    expiring.pollTimers.get 5 = some 19 ∧ expiring.line.pollTimeout ≤ 19 + 1 ∧ rig.silence.state ≠ .running ∧
    ticking.silence.state = .running ∧ ticking.silence.count + 1 < ticking.line.silenceLimit ∧
    expiring.silence.state = .running ∧ expiring.line.silenceLimit ≤ expiring.silence.count + 1 ∧
    (groupAt ticking 4).live.track = some { track with dwell := some 2 } ∧ (groupAt rig 4).live.track = none ∧
    (groupAt dwelling 4).live.track = some { track with dwell := some 1 } ∧ (11 : TrackIx).val = track.cursor.val + 1 ∧
    dwelling.internalBatches = [] ∧ dwelling.motionQueue.length + (members dwelling 4).length ≤ 32 ∧
    ({ dwelling with internalBatches := [.wave 5] } : State).internalBatches.head? ≠ some (.step 4) := by decide +kernel

end Sys2Proof.Tests
end

/-! # Sitting 1: what a stop order does to the records

The closed forms of an admission on the Hoist Table and on the Group Table, with and without a collapse, from which every
later proof reads what a stop order does. -/
section

namespace Sys2Proof.Machine

variable (s : State)

/-! ## Records that an operation leaves alone -/

theorem hoistAt_congr {s t : State} (h : t.hoists = s.hoists) (k : Slot) : hoistAt t k = hoistAt s k := by
  simp [hoistAt, h]

theorem liveAt_congr {s t : State} (h : t.hoists = s.hoists) (k : Slot) : liveAt t k = liveAt s k := by
  simp [liveAt, hoistAt, h]

theorem cfgAt_congr {s t : State} (h : t.hoists = s.hoists) (k : Slot) : cfgAt t k = cfgAt s k := by
  simp [cfgAt, hoistAt, h]

theorem groupAt_congr {s t : State} (h : t.groups = s.groups) (g : GroupNo) : groupAt t g = groupAt s g := by
  simp [groupAt, h]

theorem isMember_congr {s t : State} (h : ∀ k, cfgAt t k = cfgAt s k) (g : GroupNo) (k : Slot) :
    isMember t g k = isMember s g k := by
  simp [isMember, h]

theorem members_congr {s t : State} (h : ∀ k, cfgAt t k = cfgAt s k) (g : GroupNo) : members t g = members s g := by
  simp [members, funext (isMember_congr h g)]

theorem coversHoist_congr {s t : State} (h : ∀ k, cfgAt t k = cfgAt s k) (sc : Scope) (k : Slot) :
    coversHoist t sc k = coversHoist s sc k := by
  cases sc <;> simp [coversHoist, h, isMember_congr h]

theorem groupOf_congr {s t : State} (h : ∀ k, cfgAt t k = cfgAt s k) (k : Slot) : groupOf t k = groupOf s k := by
  simp [groupOf, h]

theorem armedGroupOf_congr {s t : State} (h : ∀ k, cfgAt t k = cfgAt s k) (ha : ∀ g, armed t g = armed s g) (k : Slot) :
    armedGroupOf t k = armedGroupOf s k := by
  simp [armedGroupOf, h, ha]

@[simp] theorem hoistAt_raiseNotice (src : NoticeSource) (p : NoticePayload) (k : Slot) :
    hoistAt (raiseNotice s src p) k = hoistAt s k := hoistAt_congr (by simp) k

@[simp] theorem liveAt_raiseNotice (src : NoticeSource) (p : NoticePayload) (k : Slot) :
    liveAt (raiseNotice s src p) k = liveAt s k := liveAt_congr (by simp) k

@[simp] theorem cfgAt_raiseNotice (src : NoticeSource) (p : NoticePayload) (k : Slot) :
    cfgAt (raiseNotice s src p) k = cfgAt s k := cfgAt_congr (by simp) k

@[simp] theorem groupAt_raiseNotice (src : NoticeSource) (p : NoticePayload) (g : GroupNo) :
    groupAt (raiseNotice s src p) g = groupAt s g := groupAt_congr (by simp) g

/-- The live part of a hoist is that of its record. -/
theorem live_hoistAt (h : Slot) : (hoistAt s h).live = liveAt s h := rfl

/-- The configured part of a hoist is that of its record. -/
theorem cfg_hoistAt (h : Slot) : (hoistAt s h).cfg = cfgAt s h := rfl

/-- Two records with the same two parts are the same. -/
theorem hoistAt_eq_of_parts {s t : State} {h : Slot} (hc : cfgAt t h = cfgAt s h) (hl : liveAt t h = liveAt s h) :
    hoistAt t h = hoistAt s h := by
  have : ∀ r : Hoist, r = ⟨r.cfg, r.live⟩ := fun _ => rfl
  rw [this (hoistAt t h), this (hoistAt s h), cfg_hoistAt, cfg_hoistAt, live_hoistAt, live_hoistAt, hc, hl]

/-! ## Membership and armed groups (R7, R21) -/

/-- Membership is Present yes and the group's number in the record (R7). -/
theorem isMember_iff (g : GroupNo) (h : Slot) :
    isMember s g h = true ↔ (cfgAt s h).present = true ∧ (cfgAt s h).group = some g := by
  simp [isMember]

theorem present_of_isMember {s : State} {g : GroupNo} {h : Slot} (hm : isMember s g h = true) :
    (cfgAt s h).present = true := ((isMember_iff s g h).1 hm).1

/-- A group is armed in every state but PARKED. -/
theorem armed_iff (g : GroupNo) : armed s g = true ↔ (groupAt s g).live.state ≠ .parked := by
  simp [armed]

theorem armed_eq_false_iff (g : GroupNo) : armed s g = false ↔ (groupAt s g).live.state = .parked := by
  simp [armed]

/-- The armed group of a hoist is the one that it is a member of, when that group is armed (R21). -/
theorem armedGroupOf_eq_some_iff (h : Slot) (g : GroupNo) :
    armedGroupOf s h = some g ↔ isMember s g h = true ∧ armed s g = true := by
  unfold armedGroupOf
  rw [isMember_iff]
  cases hc : (cfgAt s h).group with
  | none => simp
  | some k =>
    by_cases hp : (cfgAt s h).present = true ∧ armed s k = true
    · simp only [hp.1, hp.2, Bool.and_self, if_true, Option.some.injEq, true_and]
      constructor
      · rintro rfl; exact ⟨rfl, hp.2⟩
      · exact fun e => e.1
    · have : ((cfgAt s h).present && armed s k) = false := by simpa using hp
      simp only [this, Bool.false_eq_true, if_false, reduceCtorEq, Option.some.injEq, false_iff]
      rintro ⟨⟨h1, rfl⟩, h2⟩
      exact hp ⟨h1, h2⟩

/-- A hoist has no armed group exactly when every group that it is a member of is PARKED (R21). -/
theorem armedGroupOf_eq_none_iff (h : Slot) :
    armedGroupOf s h = none ↔ ∀ g, isMember s g h = true → (groupAt s g).live.state = .parked := by
  rw [Option.eq_none_iff_forall_not_mem]
  simp only [Option.mem_def, armedGroupOf_eq_some_iff, armed_iff]
  exact forall_congr' fun g => by tauto

/-- The group a notice names for a hoist is its group when it is Present (R7). -/
theorem ownGroup_eq_groupOf (h : Slot) : ownGroup s h = groupOf s h := rfl

/-! ## The effects of one admission (R10, R81, R82, R134) -/

/-- The live part of a covered hoist after an order (R10, R134). -/
def stoppedLive (o : StopIssue) (l : HoistLive) : HoistLive :=
  { l with state := stoppedHoist o.kind l.state
           lastStopCause := if o.cause.isSome then o.cause else l.lastStopCause }

theorem hoistAt_admissionEffects (o : StopIssue) (h : Slot) :
    hoistAt (admissionEffects s o) h =
      if coversHoist s o.scope h then { hoistAt s h with live := stoppedLive o (liveAt s h) } else hoistAt s h := by
  have : hoistAt (admissionEffects s o) h = hoistAt (stopHoists s o) h := hoistAt_congr (by simp [admissionEffects]) h
  rw [this, stopHoists, hoistAt_changeHoists]
  rfl

theorem groupAt_admissionEffects (o : StopIssue) (g : GroupNo) :
    groupAt (admissionEffects s o) g =
      if coversGroup o.scope g then
        { groupAt s g with live := stopGroupLive o.kind o.cause (groupAt s g).live }
      else groupAt s g := by
  have : groupAt (admissionEffects s o) g = groupAt (stopGroups (stopHoists s o) o) g :=
    groupAt_congr (by simp [admissionEffects]) g
  rw [this]
  simp [stopGroups, groupAt]

@[simp] theorem cfgAt_admissionEffects (o : StopIssue) (h : Slot) : cfgAt (admissionEffects s o) h = cfgAt s h := by
  unfold cfgAt
  rw [hoistAt_admissionEffects]
  split <;> rfl

/-- The effect of a stop on a hoist is the table of R10. -/
theorem stoppedHoist_eq (k : StopKind) (st : HoistState) : stoppedHoist k st = hoistUnderStop k st := by
  cases k <;> cases st <;> rfl

/-! ## Admissions on the two tables, with the collapse (R131, R133, R134) -/

/-- Without a collapse the hoists are as the order's own effects leave them. -/
theorem hoistAt_admitStop_of_room (o : StopIssue) (hl : laneAfter s o ≠ none) (h : Slot) :
    hoistAt (admitStop s o) h = hoistAt (admissionEffects s o) h := by
  obtain ⟨lane, -, he⟩ | ⟨hn, -⟩ := admitStop_cases s o
  · rw [he, hoistAt_congr (stopNotice_hoists _ _), hoistAt_admissionEffects, hoistAt_admissionEffects]
    rfl
  · exact absurd hn hl

/-- Without a collapse the groups are as the order's own effects leave them. -/
theorem groupAt_admitStop_of_room (o : StopIssue) (hl : laneAfter s o ≠ none) (g : GroupNo) :
    groupAt (admitStop s o) g = groupAt (admissionEffects s o) g := by
  obtain ⟨lane, -, he⟩ | ⟨hn, -⟩ := admitStop_cases s o
  · rw [he, groupAt_congr (stopNotice_groups _ _), groupAt_admissionEffects, groupAt_admissionEffects]
    rfl
  · exact absurd hn hl

/-- The state on which a collapse admits its HALT ALL: the order's own effects have been taken (R133). -/
def beforeOverflow (o : StopIssue) : State :=
  { stopNotice (admissionEffects s o) o with
    lane := [laneOrder (stopNotice (admissionEffects s o) o) (overflowStop o)] }

theorem hoistAt_beforeOverflow (o : StopIssue) (h : Slot) :
    hoistAt (beforeOverflow s o) h = hoistAt (admissionEffects s o) h := hoistAt_congr (by simp [beforeOverflow]) h

theorem cfgAt_beforeOverflow (o : StopIssue) (h : Slot) : cfgAt (beforeOverflow s o) h = cfgAt s h :=
  (cfgAt_congr (by simp [beforeOverflow]) h).trans (cfgAt_admissionEffects s o h)

theorem groupAt_beforeOverflow (o : StopIssue) (g : GroupNo) :
    groupAt (beforeOverflow s o) g = groupAt (admissionEffects s o) g := groupAt_congr (by simp [beforeOverflow]) g

/-- A collapse trips every Present hoist, with Last Stop Cause STOP_OVERFLOW (R133). -/
theorem hoistAt_collapse (o : StopIssue) (h : Slot) :
    hoistAt (collapse s o) h =
      if (cfgAt s h).present then
        { hoistAt s h with live := { liveAt s h with state := .tripped, lastStopCause := some .stopOverflow } }
      else hoistAt s h := by
  have he : hoistAt (collapse s o) h = hoistAt (admissionEffects (beforeOverflow s o) (overflowStop o)) h :=
    hoistAt_raiseNotice _ _ _ h
  have hc : coversHoist (beforeOverflow s o) (overflowStop o).scope h = (cfgAt s h).present := by
    simp [coversHoist, overflowStop, partStop, cfgAt_beforeOverflow]
  rw [he, hoistAt_admissionEffects, hc, ← live_hoistAt (beforeOverflow s o), hoistAt_beforeOverflow,
    hoistAt_admissionEffects]
  by_cases hp : (cfgAt s h).present = true
  · simp only [hp, if_true]
    split <;> simp [stoppedLive, overflowStop, partStop, stoppedHoist, live_hoistAt]
  · have hno : coversHoist s o.scope h = false := by simp [coversHoist, hp]
    simp [hp, hno]

/-- A collapse trips every armed group, with Trip Cause STOP_OVERFLOW (R133). -/
theorem groupAt_collapse (o : StopIssue) (g : GroupNo) :
    groupAt (collapse s o) g =
      if (groupAt s g).live.state = .parked then groupAt s g
      else { groupAt s g with live := { (groupAt s g).live with
        state := .tripped, wave := none, track := none, cleanStreak := 0, tripCause := some .stopOverflow } } := by
  have he : groupAt (collapse s o) g = groupAt (admissionEffects (beforeOverflow s o) (overflowStop o)) g :=
    groupAt_raiseNotice _ _ _ g
  rw [he, groupAt_admissionEffects, groupAt_beforeOverflow, groupAt_admissionEffects]
  generalize groupAt s g = r
  cases hst : r.live.state <;> cases o.kind <;> cases coversGroup o.scope g <;>
    simp [stopGroupLive, overflowStop, partStop, coversGroup, stoppedGroup, hst]

theorem admitStop_eq_collapse {s : State} {o : StopIssue} (hl : laneAfter s o = none) :
    admitStop s o = collapse s o := by simp [admitStop, hl]

/-- The hoist record after any admission: by the order's own effects, or tripped by the collapse (R133, R134). -/
theorem hoistAt_admitStop (o : StopIssue) (h : Slot) :
    hoistAt (admitStop s o) h =
      if laneAfter s o ≠ none then
        if coversHoist s o.scope h then { hoistAt s h with live := stoppedLive o (liveAt s h) } else hoistAt s h
      else if (cfgAt s h).present then
        { hoistAt s h with live := { liveAt s h with state := .tripped, lastStopCause := some .stopOverflow } }
      else hoistAt s h := by
  split
  · next hl => rw [hoistAt_admitStop_of_room s o hl, hoistAt_admissionEffects]
  · next hl => rw [admitStop_eq_collapse (not_not.1 hl), hoistAt_collapse]

/-- The group record after any admission: by the order's own effects, or tripped by the collapse (R133, R134). -/
theorem groupAt_admitStop (o : StopIssue) (g : GroupNo) :
    groupAt (admitStop s o) g =
      if laneAfter s o ≠ none then
        if coversGroup o.scope g then { groupAt s g with live := stopGroupLive o.kind o.cause (groupAt s g).live }
        else groupAt s g
      else if (groupAt s g).live.state = .parked then groupAt s g
      else { groupAt s g with live := { (groupAt s g).live with
        state := .tripped, wave := none, track := none, cleanStreak := 0, tripCause := some .stopOverflow } } := by
  split
  · next hl => rw [groupAt_admitStop_of_room s o hl, groupAt_admissionEffects]
  · next hl => rw [admitStop_eq_collapse (not_not.1 hl), groupAt_collapse]

/-- No admission changes a configuration (R76). -/
@[simp] theorem cfgAt_admitStop (o : StopIssue) (h : Slot) : cfgAt (admitStop s o) h = cfgAt s h := by
  simp only [← cfg_hoistAt]
  rw [hoistAt_admitStop]
  repeat' split
  all_goals rfl

/-- An admission leaves a hoist that is not Present alone (R10). -/
theorem liveAt_admitStop_of_absent {s : State} {h : Slot} (hp : (cfgAt s h).present = false) (o : StopIssue) :
    liveAt (admitStop s o) h = liveAt s h := by
  simp only [← live_hoistAt]
  rw [hoistAt_admitStop]
  simp [coversHoist, hp]

/-- A hoist that an order covers is in the state of R10, or tripped by the collapse. -/
theorem state_admitStop_of_covered {s : State} {o : StopIssue} {h : Slot} (hc : coversHoist s o.scope h = true) :
    (liveAt (admitStop s o) h).state = stoppedHoist o.kind (liveAt s h).state ∨
      (liveAt (admitStop s o) h).state = .tripped := by
  have hp : (cfgAt s h).present = true := by simp [coversHoist] at hc; exact hc.1
  simp only [← live_hoistAt (admitStop s o)]
  rw [hoistAt_admitStop]
  split
  · simp [stoppedLive]
  · simp

/-- The group of a GROUP order is in the state of R81, or tripped by the collapse. -/
theorem state_admitStop_of_group {s : State} {o : StopIssue} {g : GroupNo} (hc : coversGroup o.scope g = true)
    (ha : (groupAt s g).live.state ≠ .parked) :
    (groupAt (admitStop s o) g).live.state = stoppedGroup o.kind (groupAt s g).live.state ∨
      (groupAt (admitStop s o) g).live.state = .tripped := by
  rw [groupAt_admitStop]
  split
  · simp [ha, stopGroupLive]
  · simp

/-! ## The statements about admissions -/

/-- A stop leaves an armed group HOLDING or TRIPPED, and a HALT leaves it TRIPPED (R81). -/
theorem stoppedGroup_of_armed (k : StopKind) (st : GroupState) (ha : st ≠ .parked) :
    (stoppedGroup k st = .holding ∨ stoppedGroup k st = .tripped) ∧ (k = .halt → stoppedGroup k st = .tripped) := by
  cases k <;> cases st <;> simp_all [stoppedGroup]

/-- A stop leaves no hoist READY or MOVING, and a HALT leaves it TRIPPED (R10). -/
theorem stoppedHoist_stands (k : StopKind) (st : HoistState) :
    stoppedHoist k st ≠ .ready ∧ stoppedHoist k st ≠ .moving ∧ (k = .halt → stoppedHoist k st = .tripped) := by
  cases k <;> cases st <;> simp [stoppedHoist]

/-- Widening an order of an armed group's member (R21). -/
theorem widen_of_armed {s : State} {o : StopIssue} {h : Slot} {g : GroupNo} (hs : o.scope = .hoist h)
    (hg : armedGroupOf s h = some g) : widen s o = { o with scope := .group g } := by
  simp [widen, hs, hg]

/-- An order of a hoist outside every armed group is issued as it is (R21). -/
theorem widen_of_lone {s : State} {o : StopIssue} {h : Slot} (hs : o.scope = .hoist h)
    (hg : armedGroupOf s h = none) : widen s o = o := by
  simp [widen, hs, hg]

/-- Settles O16: the order is widened to the group, and its admission stops the group and each member, by its own effects
or by the collapse of the lane. -/
theorem stopOnMemberStopsTruss : Obligations.StopOnMemberStopsTruss := by
  intro s o h g hs hg
  obtain ⟨-, harmed⟩ := (armedGroupOf_eq_some_iff s h g).1 hg
  have hpark := (armed_iff s g).1 harmed
  rw [issueStop, widen_of_armed hs hg]
  have hgroup := state_admitStop_of_group (s := s) (o := { o with scope := .group g }) (g := g)
    (by simp [coversGroup]) hpark
  have hhoist : ∀ m ∈ members s g, _ := fun m hm =>
    state_admitStop_of_covered (s := s) (o := { o with scope := .group g }) (h := m)
      (by simpa [coversHoist, (isMember_iff s g m)] using hm)
  obtain ⟨hstate, hhalt⟩ := stoppedGroup_of_armed o.kind _ hpark
  refine ⟨?_, fun m hm => ?_, fun hk => ⟨?_, fun m hm => ?_⟩⟩
  · rcases hgroup with e | e <;> simp [e, hstate]
  · obtain ⟨hr, hm', -⟩ := stoppedHoist_stands o.kind (liveAt s m).state
    rcases hhoist m hm with e | e <;> simp [e, hr, hm']
  · rcases hgroup with e | e <;> simp [e, hhalt hk]
  · rcases hhoist m hm with e | e <;> simp [e, (stoppedHoist_stands o.kind (liveAt s m).state).2.2 hk]

/-- Settles O18: without a collapse the admission is its own effects, which follow the table of R10. -/
theorem admissionActsOnHoists : Obligations.AdmissionActsOnHoists := by
  intro s o hl h
  rw [hoistAt_admitStop_of_room s o hl, hoistAt_admissionEffects]
  have hcause : (if o.cause.isSome = true then o.cause else (liveAt s h).lastStopCause) =
      if o.cause = none then (liveAt s h).lastStopCause else o.cause := by
    cases o.cause <;> simp
  simp only [stoppedLive, stoppedHoist_eq, hcause]

end Sys2Proof.Machine
end


/-! # Sitting 1: what the close of an event leaves alone

The two transmitters change no record; of the poll timers they start only those of Present hoists. -/
section

namespace Sys2Proof.Machine

/-- The records of `t` are those of `s`, and so are the poll timers of the hoists that are not Present. -/
structure SameRecords (s t : State) : Prop where
  hoists : t.hoists = s.hoists
  groups : t.groups = s.groups
  timers : ∀ h, (cfgAt s h).present = false → t.pollTimers.get h = s.pollTimers.get h

theorem SameRecords.refl (s : State) : SameRecords s s := ⟨rfl, rfl, fun _ _ => rfl⟩

theorem SameRecords.trans {s t u : State} (h1 : SameRecords s t) (h2 : SameRecords t u) : SameRecords s u where
  hoists := h2.hoists.trans h1.hoists
  groups := h2.groups.trans h1.groups
  timers h hp := (h2.timers h (by rw [cfgAt_congr h1.hoists]; exact hp)).trans (h1.timers h hp)

theorem SameRecords.of_eq {s t : State} (hh : t.hoists = s.hoists) (hg : t.groups = s.groups)
    (ht : t.pollTimers = s.pollTimers) : SameRecords s t := ⟨hh, hg, fun _ _ => by rw [ht]⟩

/-- A raise touches no record. -/
theorem sameRecords_raiseNotice (s : State) (src : NoticeSource) (p : NoticePayload) :
    SameRecords s (raiseNotice s src p) := .of_eq (by simp) (by simp) (by simp)

/-- A poll timer is started for a Present hoist alone (R153). -/
theorem sameRecords_startPollTimer (s : State) (slot : Option Slot) : SameRecords s (startPollTimer s slot) := by
  cases slot with
  | none => exact .refl s
  | some h =>
    by_cases hp : (cfgAt s h).present = true
    · refine ⟨by simp [startPollTimer, hp], by simp [startPollTimer, hp], fun k hk => ?_⟩
      have hne : k ≠ h := by rintro rfl; simp [hp] at hk
      simp [startPollTimer, hp, Table.get_set_of_ne _ _ hne]
    · simpa [startPollTimer, hp] using SameRecords.refl s

/-- Forming a stop frame takes at most a Seq (R33, R136). -/
theorem stopEntry_state (s : State) (o : StopOrder) (a : LineAddr) :
    (stopEntry s o a).2 = s ∨ (stopEntry s o a).2 = stepSeq s 1 := by
  unfold stopEntry
  split
  · exact .inl rfl
  · exact .inr rfl

theorem sameRecords_stopEntry (s : State) (o : StopOrder) (a : LineAddr) : SameRecords s (stopEntry s o a).2 := by
  rcases stopEntry_state s o a with e | e <;> rw [e]
  · exact .refl s
  · exact .of_eq rfl rfl rfl

theorem sameRecords_emitStop (s : State) (o : StopOrder) (rest : List StopOrder) :
    SameRecords s (emitStop s o rest).2 := by
  have lane : ∀ (u : State) (l : List StopOrder), SameRecords u { u with lane := l } := fun _ _ => .of_eq rfl rfl rfl
  unfold emitStop
  split
  · exact (sameRecords_stopEntry s o _).trans (lane _ _)
  · exact (sameRecords_stopEntry s o _).trans (lane _ _)
  all_goals
    split
    · exact lane s _
    · exact (sameRecords_stopEntry s o _).trans (lane _ _)

theorem sameRecords_takeMotion (s : State) (e : Entry) (rest : List Entry) : SameRecords s (takeMotion s e rest).2 := by
  unfold takeMotion
  split <;> exact .of_eq rfl rfl rfl

theorem sameRecords_selectBehindLane {s t : State} {e : Option Entry} (h : selectBehindLane s = some (e, t)) :
    SameRecords s t := by
  unfold selectBehindLane at h
  split at h
  · cases h
  · cases h; exact .of_eq rfl rfl rfl
  · next m ms _ _ =>
    have := sameRecords_takeMotion s m ms
    rw [Option.some.inj h] at this; exact this
  · next m ms _ _ _ _ =>
    split at h
    · have := sameRecords_takeMotion s m ms
      rw [Option.some.inj h] at this; exact this
    · cases h; exact .of_eq rfl rfl rfl

theorem sameRecords_selectOne {s t : State} {e : Option Entry} (h : selectOne s = some (e, t)) : SameRecords s t := by
  unfold selectOne at h
  split at h
  · next o rest _ =>
    have := sameRecords_emitStop s o rest
    rw [Option.some.inj h] at this; exact this
  · exact sameRecords_selectBehindLane h

theorem sameRecords_discardFrame (s : State) (e : Entry) : SameRecords s (discardFrame s e) := by
  unfold discardFrame
  split
  · exact .refl s
  · exact sameRecords_startPollTimer s _
  · exact sameRecords_raiseNotice s _ _

theorem sameRecords_fillNext (fuel : Nat) (s : State) : SameRecords s (fillNext fuel s) := by
  induction fuel generalizing s with
  | zero => exact .refl s
  | succ n ih =>
    unfold fillNext
    split
    · exact .refl s
    · split
      · exact .refl s
      · next t h => exact (sameRecords_selectOne h).trans (ih t)
      · next e t h =>
        split
        · exact (sameRecords_selectOne h).trans ((sameRecords_discardFrame t e).trans (ih _))
        · exact (sameRecords_selectOne h).trans (.of_eq rfl rfl rfl)

theorem sameRecords_advance (s : State) : SameRecords s (advance s) := by
  unfold advance
  split
  · next e _ _ =>
    exact SameRecords.trans (t := { s with onWire := some e, nextFrame := none }) (.of_eq rfl rfl rfl)
      (sameRecords_startPollTimer _ _)
  · exact .refl s
  · exact .refl s

theorem sameRecords_settleStage (s : State) : SameRecords s (settleStage s) :=
  (sameRecords_fillNext _ s).trans ((sameRecords_advance _).trans (sameRecords_fillNext _ _))

theorem sameRecords_arbitrate (s : State) : SameRecords s (arbitrate s) := by
  have notice : ∀ i, SameRecords s (sendNotice s i) := fun i => by
    unfold sendNotice; split <;> exact .of_eq rfl rfl rfl
  have relay : SameRecords s (sendRelay s) := by
    unfold sendRelay; split <;> exact .of_eq rfl rfl rfl
  unfold arbitrate
  split
  · exact .refl s
  · split
    · split <;> exact .of_eq rfl rfl rfl
    · split
      · split
        · exact notice _
        · exact relay
      · exact relay

/-- The close of an event changes no record, and starts the poll timers of Present hoists alone (R142, R153, R177). -/
theorem sameRecords_finish (s : State) : SameRecords s (finish s) :=
  (sameRecords_settleStage s).trans (sameRecords_arbitrate _)

end Sys2Proof.Machine
end


/-! # Sitting 1: the invariants of the hoist records

`Keeps s t` says what a part of an event does to absent hoists (O9) and to the readings of movable ones (O12). It is closed
under composition, each shared operation has one lemma that it keeps both, and each command is a composition of those. -/
section

namespace Sys2Proof.Machine

/-! ## The relation -/

/-- The members of a group in this state must be movable (R89, R101). -/
abbrev NeedsMovable (l : GroupLive) : Prop := l.state = .ready ∨ inProgress l = true

/-- A wave is pending only in SLOWED, and a track runs only in MOVING or SLOWED (R85, R95, R117). -/
abbrev BatchesInMotion (l : GroupLive) : Prop :=
  (l.wave.isSome = true → l.state = .slowed) ∧ (l.track.isSome = true → inProgress l = true)

/-- Every group's wave and track are in motion. -/
abbrev AllInMotion (s : State) : Prop := ∀ g, BatchesInMotion (groupAt s g).live

/-- The hoist's record and its poll timer are as R5 wants them while it is absent. -/
abbrev IsAtReset (s : State) (h : Slot) : Prop := liveAt s h = HoistLive.reset ∧ s.pollTimers.get h = none

theorem allInMotion_of_batchesSound {s : State} (h : BatchesSound s) : AllInMotion s := fun g =>
  ⟨fun hw => ((h.2 g).2.2.1 hw).1, (h.2 g).2.2.2⟩

/-- What every part of an event keeps, but for a change of the configuration. -/
structure Keeps (s t : State) : Prop where
  cfg : ∀ h, cfgAt t h = cfgAt s h
  absent : ∀ h, (cfgAt s h).present = false → IsAtReset s h → IsAtReset t h
  batches : AllInMotion s → AllInMotion t
  readings : AllInMotion s → ReadingsSound s → ReadingsSound t

theorem Keeps.refl (s : State) : Keeps s s := ⟨fun _ => rfl, fun _ _ h => h, id, fun _ h => h⟩

theorem Keeps.trans {s t u : State} (h1 : Keeps s t) (h2 : Keeps t u) : Keeps s u where
  cfg h := (h2.cfg h).trans (h1.cfg h)
  absent h hp hr := h2.absent h (by rw [h1.cfg h]; exact hp) (h1.absent h hp hr)
  batches hb := h2.batches (h1.batches hb)
  readings hb hr := h2.readings (h1.batches hb) (h1.readings hb hr)

theorem Keeps.absentAtReset {s t : State} (h : Keeps s t) (ha : AbsentAtReset s) : AbsentAtReset t := fun k hp =>
  have hp' : (cfgAt s k).present = false := by rw [← h.cfg k]; exact hp
  h.absent k hp' (ha k hp')

/-- A change is kept when it is sound hoist by hoist and group by group. -/
theorem Keeps.of_local {s t : State} (hcfg : ∀ h, cfgAt t h = cfgAt s h)
    (habs : ∀ h, (cfgAt s h).present = false → IsAtReset s h → IsAtReset t h)
    (hread : ∀ h, HoistReadingsSound (liveAt s h) → HoistReadingsSound (liveAt t h))
    (hgroup : ∀ g, BatchesInMotion (groupAt s g).live →
      BatchesInMotion (groupAt t g).live ∧ (NeedsMovable (groupAt t g).live → NeedsMovable (groupAt s g).live ∧
        ∀ h, isMember s g h = true → isMovable (liveAt s h).state = true → isMovable (liveAt t h).state = true)) :
    Keeps s t where
  cfg := hcfg
  absent := habs
  batches hb g := (hgroup g (hb g)).1
  readings hb hr := by
    refine ⟨fun h => hread h (hr.1 h), fun g hn h hm => ?_⟩
    obtain ⟨hs, hmov⟩ := (hgroup g (hb g)).2 hn
    rw [members_congr hcfg] at hm
    exact hmov h ((mem_members s g h).1 hm) (hr.2 g hs h hm)

/-- A change that reaches no record is kept. -/
theorem SameRecords.keeps {s t : State} (h : SameRecords s t) : Keeps s t :=
  .of_local (cfgAt_congr h.hoists)
    (fun k hp hr => ⟨(liveAt_congr h.hoists k).trans hr.1, (h.timers k hp).trans hr.2⟩)
    (fun k hr => by rw [liveAt_congr h.hoists]; exact hr)
    (fun g hb => by
      rw [groupAt_congr h.groups]
      exact ⟨hb, fun hn => ⟨hn, fun k _ hm => by rw [liveAt_congr h.hoists]; exact hm⟩⟩)

theorem Keeps.of_eq {s t : State} (hh : t.hoists = s.hoists) (hg : t.groups = s.groups)
    (ht : t.pollTimers = s.pollTimers) : Keeps s t := (SameRecords.of_eq hh hg ht).keeps

/-- Changes of live parts of Present hoists are kept when each is sound and leaves a movable hoist movable. -/
theorem Keeps.of_lives {s t : State} (hg : t.groups = s.groups) (ht : t.pollTimers = s.pollTimers)
    (hcfg : ∀ h, cfgAt t h = cfgAt s h)
    (hlive : ∀ h, liveAt t h = liveAt s h ∨ ((cfgAt s h).present = true ∨ (IsAtReset s h → liveAt t h = HoistLive.reset)) ∧
      (HoistReadingsSound (liveAt s h) → HoistReadingsSound (liveAt t h)) ∧
      (isMovable (liveAt s h).state = true → isMovable (liveAt t h).state = true)) : Keeps s t := by
  refine .of_local hcfg (fun h hp hr => ⟨?_, by rw [ht]; exact hr.2⟩) (fun h hr => ?_) (fun g hb => ?_)
  · rcases hlive h with e | ⟨hp' | hp', -⟩
    · exact e.trans hr.1
    · simp [hp] at hp'
    · exact hp' hr
  · rcases hlive h with e | ⟨-, hs, -⟩
    · rw [e]; exact hr
    · exact hs hr
  · rw [groupAt_congr hg]
    refine ⟨hb, fun hn => ⟨hn, fun h _ hm => ?_⟩⟩
    rcases hlive h with e | ⟨-, -, hs⟩
    · rw [e]; exact hm
    · exact hs hm

/-- A change of one Present hoist's live part. -/
theorem Keeps.changeLive {s : State} {h : Slot} {f : HoistLive → HoistLive} (hp : (cfgAt s h).present = true)
    (hread : HoistReadingsSound (liveAt s h) → HoistReadingsSound (f (liveAt s h)))
    (hmov : isMovable (liveAt s h).state = true → isMovable (f (liveAt s h)).state = true) :
    Keeps s (changeLive s h f) := by
  refine .of_lives rfl rfl (fun k => by simp) fun k => ?_
  by_cases hk : k = h
  · subst hk
    simp only [liveAt_changeLive_self]
    exact .inr ⟨.inl hp, hread, hmov⟩
  · exact .inl (by simp [liveAt_changeLive, hk])

/-- A change of group live parts that pends no batch out of motion and brings no group to READY, MOVING or SLOWED. -/
theorem Keeps.of_groups {s t : State} (hh : t.hoists = s.hoists) (ht : t.pollTimers = s.pollTimers)
    (hgroup : ∀ g, BatchesInMotion (groupAt s g).live → BatchesInMotion (groupAt t g).live ∧
      (NeedsMovable (groupAt t g).live → NeedsMovable (groupAt s g).live)) : Keeps s t :=
  .of_local (cfgAt_congr hh) (fun k _ hr => ⟨(liveAt_congr hh k).trans hr.1, by rw [ht]; exact hr.2⟩)
    (fun k hr => by rw [liveAt_congr hh]; exact hr)
    (fun g hb => ⟨(hgroup g hb).1, fun hn => ⟨(hgroup g hb).2 hn, fun k _ hm => by rw [liveAt_congr hh]; exact hm⟩⟩)

theorem Keeps.changeGroup {s : State} {g : GroupNo} {f : GroupLive → GroupLive}
    (hgroup : BatchesInMotion (groupAt s g).live → BatchesInMotion (f (groupAt s g).live) ∧
      (NeedsMovable (f (groupAt s g).live) → NeedsMovable (groupAt s g).live)) : Keeps s (changeGroup s g f) := by
  refine .of_groups rfl rfl fun k hb => ?_
  rw [groupAt_changeGroup]
  split
  · next e => subst e; exact hgroup hb
  · exact ⟨hb, id⟩

/-! ## Notices and the close of an event -/

theorem keeps_raiseNotice (s : State) (src : NoticeSource) (p : NoticePayload) : Keeps s (raiseNotice s src p) :=
  (sameRecords_raiseNotice s src p).keeps

theorem keeps_raiseClamp (s : State) (a b : Bool) (d : Byte) (h : Option Slot) (g : Option GroupNo) (q : Byte) :
    Keeps s (raiseClamp s a b d h g q) := .of_eq (by simp) (by simp) (by simp)

theorem keeps_refuseFrame (s : State) (f : Frame) (r : Reason) : Keeps s (refuseFrame s f r) := keeps_raiseNotice _ _ _

theorem keeps_finish (s : State) : Keeps s (finish s) := (sameRecords_finish s).keeps

/-! ## Stop orders -/

/-- A stop makes no hoist movable (R10). -/
theorem isMovable_of_stoppedHoist {k : StopKind} {st : HoistState} (h : isMovable (stoppedHoist k st) = true) :
    isMovable st = true := by
  revert h
  cases k <;> cases st <;> simp [stoppedHoist]

/-- A stopped hoist needs its readings only when it needed them before, and it is not MOVING (R10). -/
theorem hoistReadingsSound_stoppedLive (o : StopIssue) (l : HoistLive) (h : HoistReadingsSound l) :
    HoistReadingsSound (stoppedLive o l) := by
  obtain ⟨hmov, hfresh, hdrive, -⟩ := h
  exact ⟨fun hm => hmov (isMovable_of_stoppedHoist hm), hfresh, hdrive,
    fun hm => absurd hm (stoppedHoist_stands _ _).2.1⟩

/-- A TRIPPED hoist needs neither readings nor a grant. -/
theorem hoistReadingsSound_tripped (l : HoistLive) (c : Option CauseKind) (h : HoistReadingsSound l) :
    HoistReadingsSound { l with state := .tripped, lastStopCause := c } :=
  ⟨by simp, h.2.1, h.2.2.1, by simp⟩

theorem hoistReadingsSound_admitStop (s : State) (o : StopIssue) (h : Slot) (hr : HoistReadingsSound (liveAt s h)) :
    HoistReadingsSound (liveAt (admitStop s o) h) := by
  simp only [← live_hoistAt (admitStop s o)]
  rw [hoistAt_admitStop]
  split
  · split
    · exact hoistReadingsSound_stoppedLive _ _ hr
    · exact hr
  · split
    · exact hoistReadingsSound_tripped _ _ hr
    · exact hr

/-- A group that is still to hold movable members after an admission was so before, and the order covers neither it nor a
member of it: an order of one hoist reaches no armed group, since issued orders are widened (R21). -/
theorem groupAt_admitStop_of_needsMovable {s : State} {o : StopIssue} {g : GroupNo}
    (hs : ∀ h, o.scope = .hoist h → armedGroupOf s h = none) (hn : NeedsMovable (groupAt (admitStop s o) g).live) :
    groupAt (admitStop s o) g = groupAt s g ∧ coversGroup o.scope g = false ∧
      ∀ h, isMember s g h = true → liveAt (admitStop s o) h = liveAt s h := by
  have armedState : ∀ {l : GroupLive}, NeedsMovable l → l.state ≠ .parked := by
    intro l hl hp; simp [NeedsMovable, inProgress, hp] at hl
  rw [groupAt_admitStop] at hn
  by_cases hl : laneAfter s o ≠ none
  · simp only [hl, ne_eq, not_false_eq_true, if_true] at hn
    have hcov : coversGroup o.scope g = false := by
      by_contra hc
      simp only [Bool.not_eq_false] at hc
      simp only [hc, if_true] at hn
      by_cases hp : (groupAt s g).live.state = .parked
      · simp [stopGroupLive, hp, NeedsMovable, inProgress] at hn
      · obtain ⟨e | e, -⟩ := stoppedGroup_of_armed o.kind _ hp <;>
          simp [stopGroupLive, hp, NeedsMovable, inProgress, e] at hn
    refine ⟨by rw [groupAt_admitStop]; simp [hl, hcov], hcov, fun h hm => ?_⟩
    simp only [hcov, Bool.false_eq_true, if_false] at hn
    have hno : coversHoist s o.scope h = false := by
      cases hsc : o.scope with
      | hoist k =>
        have hne : h ≠ k := by
          rintro rfl
          exact armedState hn ((armedGroupOf_eq_none_iff s h).1 (hs h hsc) g hm)
        simp [coversHoist, hne]
      | group k =>
        have hne : g ≠ k := by rintro rfl; simp [hsc, coversGroup] at hcov
        simp [coversHoist, isMember, ((isMember_iff s g h).1 hm).2, hne]
      | all => simp [hsc, coversGroup] at hcov
      | raw a => simp [coversHoist]
    simp only [← live_hoistAt (admitStop s o)]
    rw [hoistAt_admitStop]
    simp [hl, hno, live_hoistAt]
  · simp only [hl, if_false] at hn
    split at hn
    · next hp => exact absurd hp (armedState hn)
    · simp [NeedsMovable, inProgress] at hn

theorem batchesInMotion_admitStop (s : State) (o : StopIssue) (g : GroupNo)
    (hb : BatchesInMotion (groupAt s g).live) : BatchesInMotion (groupAt (admitStop s o) g).live := by
  rw [groupAt_admitStop]
  split
  · split
    · unfold stopGroupLive
      split
      · exact hb
      · simp [BatchesInMotion]
    · exact hb
  · split
    · exact hb
    · simp [BatchesInMotion]

/-- An admission after a change that makes only members of its own groups immovable, as of a stale hoist (R150). -/
theorem Keeps.admitStop_after {s u : State} {o : StopIssue} (hcfg : ∀ h, cfgAt u h = cfgAt s h)
    (hgroups : u.groups = s.groups) (htimers : u.pollTimers = s.pollTimers)
    (hlive : ∀ h, liveAt u h = liveAt s h ∨ (cfgAt s h).present = true ∧
      (HoistReadingsSound (liveAt s h) → HoistReadingsSound (liveAt u h)) ∧
      ∀ g, isMember s g h = true → coversGroup o.scope g = true)
    (hs : ∀ h, o.scope = .hoist h → armedGroupOf s h = none) : Keeps s (admitStop u o) := by
  have hs' : ∀ h, o.scope = .hoist h → armedGroupOf u h = none := fun h e => by
    rw [armedGroupOf_congr hcfg fun g => by simp [armed, groupAt_congr hgroups]]; exact hs h e
  refine .of_local (fun h => by simp [hcfg]) (fun h hp hr => ⟨?_, by simp [htimers, hr.2]⟩) (fun h hr => ?_)
    (fun g hb => ?_)
  · rw [liveAt_admitStop_of_absent (by rw [hcfg]; exact hp)]
    rcases hlive h with e | ⟨hp', -⟩
    · exact e.trans hr.1
    · simp [hp] at hp'
  · apply hoistReadingsSound_admitStop
    rcases hlive h with e | ⟨-, hs, -⟩
    · rw [e]; exact hr
    · exact hs hr
  · rw [← groupAt_congr hgroups] at hb
    refine ⟨batchesInMotion_admitStop u o g hb, fun hn => ?_⟩
    obtain ⟨hg, hcov, hkeep⟩ := groupAt_admitStop_of_needsMovable hs' hn
    rw [hg, groupAt_congr hgroups] at hn
    refine ⟨hn, fun h hm hmov => ?_⟩
    rw [hkeep h (by rw [isMember_congr hcfg]; exact hm)]
    rcases hlive h with e | ⟨-, -, hall⟩
    · rw [e]; exact hmov
    · simp [hall g hm] at hcov

theorem keeps_admitStop {s : State} {o : StopIssue} (hs : ∀ h, o.scope = .hoist h → armedGroupOf s h = none) :
    Keeps s (admitStop s o) :=
  .admitStop_after (fun _ => rfl) rfl rfl (fun _ => .inl rfl) hs

/-- A widened order reaches a whole armed group or none of it (R21). -/
theorem scope_widen (s : State) (o : StopIssue) (h : Slot) (hs : (widen s o).scope = .hoist h) :
    armedGroupOf s h = none := by
  obtain ⟨k, g, -, -, e⟩ | ⟨hno, e⟩ := widen_cases s o
  · rw [e] at hs; simp at hs
  · rw [e] at hs; exact hno h hs

theorem keeps_issueStop (s : State) (o : StopIssue) : Keeps s (issueStop s o) := keeps_admitStop (scope_widen s o)

theorem keeps_issueHoistStop (s : State) (k : StopKind) (h : Slot) (c : CauseKind) (seq : Byte) :
    Keeps s (issueHoistStop s k h c seq) := keeps_issueStop _ _

/-! ## Batches -/

/-- A grant leaves the record sound when the hoist has its readings (R9, R57). -/
theorem hoistReadingsSound_takeGrant (g : Grant) (l : HoistLive) (hr : HasReading l) :
    HoistReadingsSound (takeGrant g l) :=
  ⟨fun _ => hr, fun _ => hr, fun _ _ => hr, fun _ => rfl⟩

theorem queueBatch_records (s : State) (p : BatchPlan) : SameRecords s (queueBatch s p) := .of_eq rfl rfl rfl

@[simp] theorem groupAt_cancelBatch (s : State) (g k : GroupNo) : groupAt (cancelBatch s g) k = groupAt s k := rfl

theorem keeps_withBatches (s : State) (l : List InternalBatch) : Keeps s { s with internalBatches := l } :=
  .of_eq rfl rfl rfl

theorem keeps_cancelBatch (s : State) (g : GroupNo) : Keeps s (cancelBatch s g) := .of_eq rfl rfl rfl

theorem cfgAt_grantMembers (s : State) (p : BatchPlan) (h : Slot) : cfgAt (grantMembers s p) h = cfgAt s h := by
  simp only [← cfg_hoistAt, grantMembers, hoistAt_changeHoists]
  split <;> rfl

theorem liveAt_grantMembers (s : State) (p : BatchPlan) (h : Slot) :
    liveAt (grantMembers s p) h =
      if isMember s p.group h then
        takeGrant { target := memberTarget s p.base h, speed := p.speed, tag := p.tag } (liveAt s h)
      else liveAt s h := by
  simp only [← live_hoistAt, grantMembers, hoistAt_changeHoists]
  split <;> rfl

/-- Granting a batch is kept when each member has its readings once its record is sound. -/
theorem keeps_grantMembers {s : State} {p : BatchPlan}
    (hm : ∀ h, isMember s p.group h = true → HoistReadingsSound (liveAt s h) → HasReading (liveAt s h)) :
    Keeps s (grantMembers s p) := by
  refine .of_lives rfl rfl (cfgAt_grantMembers s p) fun h => ?_
  rw [liveAt_grantMembers]
  split
  · next hmem =>
    exact .inr ⟨.inl (present_of_isMember hmem), fun hr => hoistReadingsSound_takeGrant _ _ (hm h hmem hr),
      fun _ => rfl⟩
  · exact .inl rfl

/-- A grant leaves the group MOVING or SLOWED when its state is one that may be granted (R93). -/
theorem grantedState_inProgress {l : GroupLive} (hp : l.state ≠ .parked) (ht : l.state ≠ .tripped) :
    grantedState l = .moving ∨ grantedState l = .slowed := by
  unfold grantedState
  split <;> simp_all
  exact (em _).symm

/-- A member that passes check 9 is movable (R87). -/
theorem isMovable_of_fit {s : State} {h : Slot} (hf : memberUnfit s h = false) :
    isMovable (liveAt s h).state = true := by
  simp only [memberUnfit, Bool.or_eq_false_iff] at hf
  obtain ⟨⟨⟨-, ho⟩, ht⟩, -⟩ := hf
  cases hst : (liveAt s h).state <;> simp_all

/-- The granted group is as its grant leaves it (R93). -/
theorem groupAt_admitBatch (s : State) (p : BatchPlan) (g : GroupNo) :
    groupAt (admitBatch s p) g =
      if g = p.group then
        { groupAt s g with
          live := groupTakesGrant p (enterState (grantedState (groupAt s g).live) (groupAt s g).live) }
      else groupAt s g := by
  unfold admitBatch
  rw [groupAt_changeGroup]
  split
  · next e => subst e; rfl
  · rfl

theorem liveAt_admitBatch (s : State) (p : BatchPlan) (h : Slot) :
    liveAt (admitBatch s p) h = liveAt (grantMembers (queueBatch s p) p) h := rfl

/-- The admission of a batch to a group whose members are fit: every member becomes MOVING, the group MOVING or SLOWED, and
a track may start (R93, R121). -/
theorem Keeps.grantedBatch {s t : State} {p : BatchPlan} (hh : t.hoists = (grantMembers s p).hoists)
    (ht : t.pollTimers = s.pollTimers)
    (hfit : ∀ h, isMember s p.group h = true → memberUnfit s h = false)
    (hother : ∀ g, g ≠ p.group → (groupAt t g).live = (groupAt s g).live)
    (hself : BatchesInMotion (groupAt s p.group).live → BatchesInMotion (groupAt t p.group).live) : Keeps s t where
  cfg h := (cfgAt_congr hh h).trans (cfgAt_grantMembers s p h)
  absent h hp hr := by
    refine ⟨?_, by rw [ht]; exact hr.2⟩
    rw [liveAt_congr hh, liveAt_grantMembers, if_neg, hr.1]
    intro hm
    rw [present_of_isMember hm] at hp
    cases hp
  batches hb g := by
    by_cases e : g = p.group
    · subst e; exact hself (hb _)
    · rw [hother g e]; exact hb g
  readings hb hr := by
    have hkeep : Keeps s (grantMembers s p) :=
      keeps_grantMembers fun h hm hs => hs.1 (isMovable_of_fit (hfit h hm))
    obtain ⟨hread, hmov⟩ := hkeep.readings hb hr
    refine ⟨fun h => by rw [liveAt_congr hh]; exact hread h, fun g hn h hm => ?_⟩
    rw [members_congr (cfgAt_congr hh)] at hm
    rw [liveAt_congr hh]
    by_cases e : g = p.group
    · subst e
      rw [liveAt_grantMembers, if_pos]
      · rfl
      · rw [members_congr (cfgAt_grantMembers s p)] at hm; exact (mem_members _ _ _).1 hm
    · rw [hother g e] at hn
      exact hmov g hn h hm

/-- Entering MOVING or SLOWED keeps the group's wave in SLOWED, whatever track then runs. -/
theorem batchesInMotion_grant {p : BatchPlan} {l : GroupLive} (hp : l.state ≠ .parked) (ht : l.state ≠ .tripped)
    (hb : BatchesInMotion l) (track : Option Track) :
    BatchesInMotion { groupTakesGrant p (enterState (grantedState l) l) with track := track } := by
  refine ⟨fun hw => ?_, fun _ => ?_⟩
  · have : l.state = .slowed := hb.1 hw
    simp [groupTakesGrant, enterState, grantedState, this]
  · rcases grantedState_inProgress hp ht with e | e <;> simp [inProgress, groupTakesGrant, enterState, e]

/-- The group checks 6, 7 and 9 have passed (R87). -/
theorem fit_of_memberRefusal {s : State} {g : GroupNo} (hr : memberRefusal s g = none) (h : Slot)
    (hm : isMember s g h = true) : memberUnfit s h = false := by
  unfold memberRefusal at hr
  split at hr
  · cases hr
  · next hno =>
    simp only [List.any_eq_true, not_exists, not_and, Bool.not_eq_true] at hno
    exact hno h ((mem_members s g h).2 hm)

theorem state_of_groupStateRefusal {s : State} {g : GroupNo} (hr : groupStateRefusal s g = none) :
    (groupAt s g).live.state ≠ .parked ∧ (groupAt s g).live.state ≠ .tripped := by
  simp only [groupStateRefusal] at hr
  split at hr
  · cases hr
  · next hno => exact not_or.1 hno

theorem stepRefusal_eq_none {s : State} {g : GroupNo} {epoch : BitVec 16} (hr : stepRefusal s g epoch = none) :
    groupStateRefusal s g = none ∧ memberRefusal s g = none := by
  simp only [stepRefusal, Option.or_eq_none_iff] at hr
  exact hr.2

theorem gmoveRefusal_eq_none {s : State} {f : Frame} {epoch : BitVec 16} {g : GroupNo}
    (hr : gmoveRefusal s f epoch g = none) : groupStateRefusal s g = none ∧ memberRefusal s g = none := by
  simp only [gmoveRefusal, Option.or_eq_none_iff] at hr
  exact ⟨hr.2.2.1, hr.2.2.2.2⟩

theorem keeps_grantGmove {s : State} {f : Frame} {g : GroupNo} (hst : groupStateRefusal s g = none)
    (hmem : memberRefusal s g = none) : Keeps s (grantGmove s f g) := by
  obtain ⟨hp, ht⟩ := state_of_groupStateRefusal hst
  unfold grantGmove
  refine .trans ?_ (keeps_raiseClamp _ _ _ _ _ _ _)
  generalize hplan : BatchPlan.mk _ _ _ _ _ = p
  have hg : p.group = g := by rw [← hplan]
  subst hg
  refine .grantedBatch (p := p) rfl rfl (fit_of_memberRefusal hmem) (fun k hk => ?_) fun hb => ?_
  · rw [groupAt_admitBatch, if_neg hk]
  · rw [groupAt_admitBatch, if_pos rfl]
    exact batchesInMotion_grant hp ht hb _

theorem keeps_admitStep {s : State} {g : GroupNo} {tr : Track} (hst : groupStateRefusal s g = none)
    (hmem : memberRefusal s g = none) : Keeps s (admitStep s g tr) := by
  obtain ⟨hp, ht⟩ := state_of_groupStateRefusal hst
  unfold admitStep
  refine .trans ?_ (keeps_raiseClamp _ _ _ _ _ _ _)
  generalize hplan : BatchPlan.mk _ _ _ _ _ = p
  have hg : p.group = g := by rw [← hplan]
  subst hg
  refine .grantedBatch (p := p) rfl rfl (fit_of_memberRefusal hmem) (fun k hk => ?_) fun hb => ?_
  · rw [groupAt_changeGroup, if_neg hk, groupAt_admitBatch, if_neg hk]; rfl
  · rw [groupAt_changeGroup, if_pos rfl, groupAt_admitBatch, if_pos rfl]
    exact batchesInMotion_grant hp ht hb _

theorem keeps_raiseTrackError (s : State) (g : GroupNo) (tr : Track) (r : Reason) (h : Option Slot) :
    Keeps s (raiseTrackError s g tr r h) := keeps_raiseNotice _ _ _

theorem keeps_failStep (s : State) (g : GroupNo) (tr : Track) (r : Reason) : Keeps s (failStep s g tr r) :=
  .trans (keeps_admitStop (by simp [partStop])) (keeps_raiseTrackError _ _ _ _ _)

theorem keeps_takeDueStep (s : State) (g : GroupNo) : Keeps s (takeDueStep s g) := by
  have hc := keeps_cancelBatch s g
  unfold takeDueStep
  split
  · exact hc
  · dsimp only
    split
    · next hr =>
      obtain ⟨hst, hmem⟩ := stepRefusal_eq_none hr
      exact hc.trans (keeps_admitStep hst hmem)
    · exact hc.trans (keeps_failStep _ _ _ _)

theorem keeps_takeIfOldest (s : State) (g : GroupNo) : Keeps s (takeIfOldest s g) := by
  unfold takeIfOldest
  split
  · exact keeps_takeDueStep s g
  · exact .refl s

theorem keeps_makeStepDue (s : State) (g : GroupNo) : Keeps s (makeStepDue s g) := by
  have hdue : Keeps s (changeGroup s g fun l =>
      { l with track := l.track.map fun tr => { tr with cursor := nextCursor tr.cursor, dwell := some 0 } }) :=
    .changeGroup fun hb => ⟨⟨hb.1, fun ht => hb.2 (by simpa using ht)⟩, id⟩
  unfold makeStepDue
  dsimp only
  exact hdue.trans ((keeps_withBatches _ _).trans (keeps_takeIfOldest _ g))

/-- The oldest wave is admitted to a SLOWED group, whose members are movable (R96, R101). -/
theorem keeps_admitWave (s : State) (g : GroupNo) : Keeps s (admitWave s g) := by
  unfold admitWave
  split
  · exact keeps_cancelBatch s g
  · next w hw =>
    generalize hplan : BatchPlan.mk _ _ _ _ _ = p
    have hg : p.group = g := by rw [← hplan]
    subst hg
    have hmembers : Keeps s (grantMembers (queueBatch (cancelBatch s p.group) p) p) := by
      refine ⟨cfgAt_grantMembers _ p, fun h hp hr => ⟨?_, hr.2⟩, id, fun hb hr => ?_⟩
      · rw [liveAt_grantMembers, if_neg]
        · exact hr.1
        · intro hm
          have := present_of_isMember hm
          simp only [cfgAt_congr (s := s) (t := queueBatch (cancelBatch s p.group) p) rfl, hp] at this
          cases this
      · have hslow : (groupAt s p.group).live.state = .slowed := (hb p.group).1 (by simp [hw])
        refine (keeps_grantMembers fun h hm hs => hs.1 ?_).readings
          (s := queueBatch (cancelBatch s p.group) p) hb hr
        exact hr.2 p.group (.inr (by simp [inProgress, hslow])) h ((mem_members s _ h).2 hm)
    exact hmembers.trans (.changeGroup fun hb => ⟨⟨by simp, hb.2⟩, id⟩)

/-! ## Completion and the Group Check -/

theorem keeps_completeGroup {s : State} {g : GroupNo} (seq : Byte) (hp : inProgress (groupAt s g).live = true)
    (ht : (groupAt s g).live.track = none) : Keeps s (completeGroup s g seq) := by
  unfold completeGroup
  refine .trans (.trans (.changeGroup fun _ => ⟨⟨by simp, by simp [ht]⟩, fun _ => .inr hp⟩) (keeps_cancelBatch _ g))
    (keeps_raiseNotice _ _ _)

theorem keeps_completeStep {s : State} {g : GroupNo} {tr : Track} (seq : Byte)
    (ht : (groupAt s g).live.track = some tr) : Keeps s (completeStep s g tr seq) := by
  have hwave : Keeps s (cancelBatch (changeGroup s g fun l => { l with wave := none }) g) :=
    .trans (.changeGroup fun hb => ⟨⟨by simp, hb.2⟩, id⟩) (keeps_cancelBatch _ g)
  have hlive : (groupAt (cancelBatch (changeGroup s g fun l => { l with wave := none }) g) g).live =
      { (groupAt s g).live with wave := none } := by simp
  unfold completeStep
  refine hwave.trans ?_
  generalize cancelBatch (changeGroup s g fun l => { l with wave := none }) g = u at hlive
  have htrack : (groupAt u g).live.track.isSome = true := by simp [hlive, ht]
  dsimp only
  split
  · refine .trans (.changeGroup fun hb => ⟨⟨fun hw => ?_, by simp⟩, fun _ => .inr (hb.2 htrack)⟩)
      (keeps_raiseNotice _ _ _)
    simp [hlive] at hw
  · split
    · exact keeps_makeStepDue u g
    · exact .changeGroup fun hb => ⟨⟨hb.1, fun _ => hb.2 htrack⟩, id⟩

end Sys2Proof.Machine
end


/-! # Sitting 1: every event keeps the invariants of the hoist records -/
section

namespace Sys2Proof.Machine

/-! ## Shapes of composition -/

/-- A fold is kept when each of its steps is, from every state that has kept the first. -/
theorem Keeps.foldl {α : Type} {f : State → α → State} (l : List α) (s : State)
    (h : ∀ u, Keeps s u → ∀ x ∈ l, Keeps u (f u x)) : Keeps s (l.foldl f s) := by
  induction l generalizing s with
  | nil => exact .refl s
  | cons x xs ih =>
    have hx : Keeps s (f s x) := h s (.refl s) x (by simp)
    exact hx.trans (ih _ fun u hu y hy => h u (hx.trans hu) y (by simp [hy]))

/-- Changes of the live parts of some Present hoists. -/
theorem Keeps.changeSome {s : State} {p : Slot → Bool} {f : HoistLive → HoistLive}
    (hp : ∀ h, p h = true → (cfgAt s h).present = true ∨ liveAt s h ≠ HoistLive.reset)
    (hread : ∀ h, p h = true → HoistReadingsSound (liveAt s h) → HoistReadingsSound (f (liveAt s h)))
    (hmov : ∀ h, p h = true → isMovable (liveAt s h).state = true → isMovable (f (liveAt s h)).state = true) :
    Keeps s (changeHoists s fun h r => if p h then { r with live := f r.live } else r) := by
  have hlive : ∀ h, liveAt (changeHoists s fun h r => if p h then { r with live := f r.live } else r) h =
      if p h then f (liveAt s h) else liveAt s h := fun h => by
    simp only [← live_hoistAt, hoistAt_changeHoists]
    split <;> rfl
  refine .of_lives rfl rfl (fun h => ?_) fun h => ?_
  · simp only [← cfg_hoistAt, hoistAt_changeHoists]
    split <;> rfl
  · rw [hlive]
    split
    · next e =>
      refine .inr ⟨(hp h e).imp id fun hne hr => absurd hr.1 hne, hread h e, hmov h e⟩
    · exact .inl rfl

/-! ## The Group Check -/

theorem keeps_examineArrival (s : State) (g : GroupNo) (seq : Byte) : Keeps s (examineArrival s g seq) := by
  unfold examineArrival
  split
  · next ht =>
    split
    · next hc =>
      simp only [Bool.and_eq_true] at hc
      exact keeps_completeGroup seq hc.1 ht
    · exact .refl s
  · next tr ht =>
    split
    · exact keeps_completeStep seq ht
    · exact .refl s

theorem keeps_storeEvaluation (s : State) (g : GroupNo) (v : Evaluation) : Keeps s (storeEvaluation s g v) := by
  have hg : Keeps s (changeGroup s g fun l =>
      { l with lastVerdict := v.verdict, lastSkew := some v.skew, lastDmax := v.dmax.or l.lastDmax }) :=
    .changeGroup fun hb => ⟨hb, id⟩
  unfold storeEvaluation
  dsimp only
  exact hg.trans (.changeSome (p := isMember s g) (f := fun l => { l with fresh := false })
    (fun h hm => .inl (present_of_isMember hm)) (fun h _ hr => ⟨hr.1, by simp, hr.2.2.1, hr.2.2.2⟩) fun h _ hm => hm)

theorem keeps_formWave {s : State} {g : GroupNo} (hs : (groupAt s g).live.state = .slowed) :
    Keeps s (formWave s g) := by
  have htag : Keeps s (stepTag s) := .of_eq rfl rfl rfl
  unfold formWave
  refine htag.trans (.trans (.changeGroup fun hb => ⟨⟨fun _ => hs, hb.2⟩, id⟩) (keeps_withBatches _ _))

theorem keeps_warnEffect (s : State) (g : GroupNo) : Keeps s (warnEffect s g) := by
  have streak : ∀ {l : GroupLive}, BatchesInMotion l → BatchesInMotion { l with cleanStreak := 0 } := id
  unfold warnEffect
  split
  · next hm =>
    have hslow : Keeps s (changeGroup s g fun l => { l with state := .slowed, cleanStreak := 0 }) :=
      .changeGroup fun _ => ⟨⟨fun _ => rfl, fun _ => rfl⟩, fun _ => .inr (by simp [inProgress, hm])⟩
    dsimp only
    split
    · exact hslow
    · exact hslow.trans (keeps_formWave (by simp))
  · exact .changeGroup fun hb => ⟨hb, id⟩
  all_goals exact .refl s

theorem keeps_cleanEffect (s : State) (g : GroupNo) : Keeps s (cleanEffect s g) := by
  unfold cleanEffect
  dsimp only
  split
  · next hs =>
    split
    · exact .changeGroup fun hb => ⟨hb, id⟩
    · refine .trans (.changeGroup fun _ => ⟨⟨by simp, fun _ => rfl⟩, fun _ => .inr (by simp [inProgress, hs])⟩)
        (keeps_withBatches _ _)
  · exact .refl s

theorem keeps_evaluateGroup (s : State) (g : GroupNo) (seq : Byte) : Keeps s (evaluateGroup s g seq) := by
  have hwarn : ∀ u v, Keeps u (raiseWarn u g v seq) := fun u v => keeps_raiseNotice _ _ _
  unfold evaluateGroup
  refine (keeps_storeEvaluation s g (evaluationOf s g)).trans ?_
  unfold verdictEffect
  split
  · exact keeps_admitStop (by simp [partStop])
  · split
    · exact .refl _
    · exact keeps_admitStop (by simp [partStop])
  · exact (hwarn _ _).trans (keeps_warnEffect _ g)
  · exact keeps_cleanEffect _ g
  · exact .refl _

theorem keeps_examineRound (s : State) (h : Slot) (seq : Byte) : Keeps s (examineRound s h seq) := by
  unfold examineRound
  split
  · exact .refl s
  · split
    · exact keeps_evaluateGroup _ _ _
    · exact .refl s

/-! ## The application of a SAMPLE -/

/-- The record after steps 1 to 4 of R14: a valid reading is stored whole; of an invalid one FAULT alone. -/
def storedLive (r : Reading) (l : HoistLive) : HoistLive :=
  match validDrive r with
  | some d => { l with position := some r.position, load := some r.load, driveState := some d, sampleAge := 0,
                       fresh := true, pollOutstanding := false }
  | none => { l with driveState := some .fault, sampleAge := 0, pollOutstanding := false }

theorem storedLive_of_valid {r : Reading} {d : DriveState} (h : validDrive r = some d) (l : HoistLive) :
    storedLive r l = { l with position := some r.position, load := some r.load, driveState := some d, sampleAge := 0,
                              fresh := true, pollOutstanding := false } := by
  simp [storedLive, h]

theorem storedLive_of_invalid {r : Reading} (h : validDrive r = none) (l : HoistLive) :
    storedLive r l = { l with driveState := some .fault, sampleAge := 0, pollOutstanding := false } := by
  simp [storedLive, h]

theorem storeReading_eq (s : State) (h : Slot) (r : Reading) :
    storeReading s h r = { changeLive s h (storedLive r) with pollTimers := s.pollTimers.set h none } := by
  unfold storeReading storedLive
  rfl

theorem hoistReadingsSound_storedLive (r : Reading) (l : HoistLive) (h : HoistReadingsSound l) :
    HoistReadingsSound (storedLive r l) := by
  obtain ⟨hmov, hfresh, hdrive, hgrant⟩ := h
  unfold storedLive
  split
  · exact ⟨fun _ => ⟨rfl, rfl⟩, fun _ => ⟨rfl, rfl⟩, fun _ _ => ⟨rfl, rfl⟩, hgrant⟩
  · exact ⟨hmov, hfresh, by simp, hgrant⟩

theorem state_storedLive (r : Reading) (l : HoistLive) : (storedLive r l).state = l.state := by
  unfold storedLive
  split <;> rfl

theorem liveAt_storeReading (s : State) (h k : Slot) (r : Reading) :
    liveAt (storeReading s h r) k = if k = h then storedLive r (liveAt s h) else liveAt s k := by
  rw [storeReading_eq]
  exact liveAt_changeLive s h k _

theorem keeps_storeReading {s : State} {h : Slot} (r : Reading) (hp : (cfgAt s h).present = true) :
    Keeps s (storeReading s h r) := by
  have hlive : Keeps s (changeLive s h (storedLive r)) :=
    .changeLive hp (hoistReadingsSound_storedLive r _) fun hm => by rw [state_storedLive]; exact hm
  rw [storeReading_eq]
  refine hlive.trans (SameRecords.keeps ⟨rfl, rfl, fun k hk => Table.get_set_of_ne _ _ ?_⟩)
  rintro rfl
  simp [hp] at hk

/-- A hoist takes a state for which it has what that state needs. -/
theorem keeps_setHoistState {s : State} {h : Slot} {st : HoistState} (hp : (cfgAt s h).present = true)
    (hr : HasReading (liveAt s h) ∨ isMovable (liveAt s h).state = true) (hs : isMovable st = true)
    (hm : st ≠ .moving) : Keeps s (setHoistState s h st) :=
  .changeLive hp
    (fun hsound => ⟨fun _ => hr.elim id hsound.1, hsound.2.1, hsound.2.2.1, fun e => absurd e hm⟩) fun _ => hs

theorem keeps_arrive {s : State} {h : Slot} (seq : Byte) (hp : (cfgAt s h).present = true)
    (hr : HasReading (liveAt s h)) : Keeps s (arrive s h seq) := by
  have hready : Keeps s (changeLive s h fun l => { l with arrived := true, state := .ready }) :=
    .changeLive hp (fun hs => ⟨fun _ => hr, hs.2.1, hs.2.2.1, by simp⟩) fun _ => rfl
  unfold arrive
  dsimp only
  split
  · exact hready.trans (keeps_examineArrival _ _ seq)
  · exact hready

theorem keeps_missArrival {s : State} {h : Slot} (seq : Byte) (hp : (cfgAt s h).present = true)
    (hr : HasReading (liveAt s h)) : Keeps s (missArrival s h seq) := by
  unfold missArrival
  split
  · exact keeps_issueHoistStop _ _ _ _ _
  · exact (keeps_setHoistState hp (.inl hr) rfl (by simp)).trans (keeps_raiseNotice _ _ _)

theorem keeps_arrivalRule {s : State} {h : Slot} (r : Reading) (hp : (cfgAt s h).present = true)
    (hr : HasReading (liveAt s h)) : Keeps s (arrivalRule s h r) := by
  unfold arrivalRule
  split
  · exact .refl s
  · split
    · exact .refl s
    · split
      · exact keeps_arrive _ hp hr
      · exact keeps_missArrival _ hp hr

theorem keeps_uncommandedRule (s : State) (h : Slot) (seq : Byte) : Keeps s (uncommandedRule s h seq) := by
  unfold uncommandedRule
  split
  · exact keeps_issueHoistStop _ _ _ _ _
  · exact .refl s

/-- The drive-state rule moves a hoist among the movable states only on a valid reading, which has then been stored. -/
theorem keeps_driveStateRule {s : State} {h : Slot} (r : Reading) {d : DriveState} (hp : (cfgAt s h).present = true)
    (hr : d ≠ .fault → HasReading (liveAt s h)) : Keeps s (driveStateRule s h r d) := by
  have ready : ∀ st, isMovable st = true → st ≠ .moving → d ≠ .fault → Keeps s (setHoistState s h st) :=
    fun st h1 h2 h3 => keeps_setHoistState hp (.inl (hr h3)) h1 h2
  unfold driveStateRule
  split
  · exact .refl s
  any_goals exact keeps_issueHoistStop _ _ _ _ _
  · exact ready _ rfl (by simp) (by simp)
  · exact keeps_arrivalRule r hp (hr (by simp))
  · exact .refl s
  · exact .refl s
  · exact (ready _ rfl (by simp) (by simp)).trans (keeps_uncommandedRule _ _ _)
  · exact keeps_uncommandedRule _ _ _
  · exact keeps_uncommandedRule _ _ _
  · exact .refl s
  · exact ready _ rfl (by simp) (by simp)
  · exact ready _ rfl (by simp) (by simp)
  · exact .refl s
  · exact .refl s

theorem keeps_loadRule {s : State} {h : Slot} (r : Reading) (hp : (cfgAt s h).present = true) :
    Keeps s (loadRule s h r) := by
  have hcond : ∀ c, Keeps s (changeLive s h fun l => { l with loadCondition := c }) := fun c =>
    .changeLive hp id id
  unfold loadRule
  dsimp only
  split
  · exact (hcond _).trans (keeps_issueHoistStop _ _ _ _ _)
  · exact hcond _

theorem keeps_stateAndLoad {s : State} {h : Slot} (r : Reading) (hp : (cfgAt s h).present = true)
    (hr : validDrive r ≠ none → HasReading (liveAt s h)) : Keeps s (stateAndLoad s h r) := by
  unfold stateAndLoad
  split
  · next d hd =>
    have hdrive := keeps_driveStateRule (d := d) r hp fun _ => hr (by simp [hd])
    exact hdrive.trans (keeps_loadRule r (by rw [hdrive.cfg]; exact hp))
  · exact keeps_driveStateRule r hp (by simp)

theorem keeps_applySample {s : State} {h : Slot} (r : Reading) (hp : (cfgAt s h).present = true) :
    Keeps s (applySample s h r) := by
  have hstore := keeps_storeReading r hp
  refine (hstore.trans (keeps_stateAndLoad r (by rw [hstore.cfg]; exact hp) fun hv => ?_)).trans
    (keeps_examineRound _ _ _)
  obtain ⟨d, hd⟩ := Option.ne_none_iff_exists'.1 hv
  simp [liveAt_storeReading, storedLive_of_valid hd, HasReading]

/-! ## Filters and arrivals -/

/-- A stop action has a GROUP or ALL scope (R165). -/
theorem stopAction_scope {t : Filter} {k : StopKind} {sc : Scope} (h : stopAction t = some (k, sc)) (x : Slot) :
    sc ≠ .hoist x := by
  unfold stopAction at h
  split at h <;> cases h <;> simp

theorem keeps_filterStop (f : Frame) (d : Direction) (hits : List FilterNo) (s : State) (i : FilterNo) :
    Keeps s (filterStop f d hits s i) := by
  unfold filterStop
  dsimp only
  split
  · exact .refl s
  · next k sc h => exact keeps_admitStop fun x hx => absurd hx (stopAction_scope h x)

theorem keeps_filterNotice (s : State) (f : Frame) (d : Direction) (hits : List FilterNo) :
    Keeps s (filterNotice s f d hits) := by
  unfold filterNotice
  split
  · exact .refl s
  · exact keeps_raiseNotice _ _ _

theorem keeps_filterBank (s : State) (f : Frame) (d : Direction) : Keeps s (filterBank s f d) :=
  (Keeps.foldl _ s fun u _ i _ => keeps_filterStop f d _ u i).trans (keeps_filterNotice _ _ _ _)

theorem keeps_offerIntake (s : State) (f : Frame) : Keeps s (offerIntake s f) := by
  unfold offerIntake
  split
  · exact .of_eq rfl rfl rfl
  · exact keeps_raiseNotice _ _ _

theorem keeps_classify (s : State) (f : Frame) : Keeps s (classify s f) := by
  unfold classify
  split
  · exact keeps_issueStop _ _
  · exact keeps_refuseFrame _ _ _
  · exact .refl s
  all_goals exact keeps_offerIntake _ _

theorem keeps_takeDownstream (s : State) (f : Frame) : Keeps s (takeDownstream s f) := by
  have hreload : Keeps s (reloadSilence s f) := .of_eq rfl rfl rfl
  unfold takeDownstream
  dsimp only
  split
  · exact hreload.trans (keeps_filterBank _ _ _)
  · exact (hreload.trans (keeps_filterBank _ _ _)).trans (keeps_classify _ _)

theorem keeps_sampleMonitor (s : State) (f : Frame) : Keeps s (sampleMonitor s f) := by
  unfold sampleMonitor
  split
  · exact .refl s
  · split
    · exact keeps_refuseFrame _ _ _
    · split
      · split
        · next hp => exact keeps_applySample _ hp
        · exact .refl s
      · exact .refl s

theorem keeps_offerRelay (s : State) (f : Frame) : Keeps s (offerRelay s f) := by
  unfold offerRelay
  split
  · exact .of_eq rfl rfl rfl
  · exact keeps_raiseNotice _ _ _

theorem keeps_takeUpstream (s : State) (f : Frame) : Keeps s (takeUpstream s f) := by
  have hmonitor := (keeps_filterBank s f .up).trans (keeps_sampleMonitor _ f)
  unfold takeUpstream
  dsimp only
  split
  · exact hmonitor
  · exact hmonitor.trans (keeps_offerRelay _ _)

/-! ## Moves and polls -/

/-- A MOVE that is granted goes to a Present hoist in a movable state (R53). -/
theorem hoistRefusal_eq_none {s : State} {h : Slot} (hr : hoistRefusal s h = none) :
    (cfgAt s h).present = true ∧ isMovable (liveAt s h).state = true := by
  unfold hoistRefusal at hr
  repeat' split at hr
  all_goals try cases hr
  next hp _ ho ht _ =>
    refine ⟨by simpa using hp, ?_⟩
    cases hst : (liveAt s h).state <;> simp_all

theorem keeps_grantMove {s : State} {f : Frame} {h : Slot} (hr : hoistRefusal s h = none) :
    Keeps s (grantMove s f h) := by
  obtain ⟨hp, hm⟩ := hoistRefusal_eq_none hr
  unfold grantMove
  dsimp only
  refine .trans ?_ (keeps_raiseClamp _ _ _ _ _ _ _)
  refine .trans ?_ (.changeLive (by exact hp) ?_ fun _ => rfl)
  · exact .of_eq rfl rfl rfl
  · exact fun hs => hoistReadingsSound_takeGrant _ _ (hs.1 hm)

theorem keeps_gateMove (s : State) (e : IntakeEntry) : Keeps s (gateMove s e) := by
  unfold gateMove
  split
  · exact keeps_refuseFrame _ _ _
  · split
    · exact keeps_refuseFrame _ _ _
    · next hr =>
      simp only [moveRefusal, Option.or_eq_none_iff] at hr
      exact keeps_grantMove hr.2.2

theorem keeps_gateGmove (s : State) (e : IntakeEntry) (g : GroupNo) : Keeps s (gateGmove s e g) := by
  unfold gateGmove
  split
  · exact keeps_refuseFrame _ _ _
  · next hr =>
    obtain ⟨hst, hmem⟩ := gmoveRefusal_eq_none hr
    exact keeps_grantGmove hst hmem

theorem keeps_gateGo (s : State) (e : IntakeEntry) (g : GroupNo) : Keeps s (gateGo s e g) := by
  unfold gateGo
  split
  · exact keeps_refuseFrame _ _ _
  · unfold startTrack
    dsimp only
    split
    · next hr =>
      obtain ⟨hst, hmem⟩ := stepRefusal_eq_none hr
      exact keeps_admitStep hst hmem
    · exact keeps_raiseTrackError _ _ _ _ _
  · exact keeps_refuseFrame _ _ _

theorem keeps_markPolled (s : State) (f : Frame) : Keeps s (markPolled s f) := by
  unfold markPolled
  split
  · split
    · next hp => exact .changeLive hp id id
    · exact .refl s
  · exact .refl s

theorem keeps_promotePoll (s : State) (f : Frame) : Keeps s (promotePoll s f) := by
  refine .trans ?_ (keeps_markPolled _ f)
  exact .of_eq rfl rfl rfl

theorem keeps_queuePoll (s : State) (f : Frame) : Keeps s (queuePoll s f) := by
  refine .trans ?_ (keeps_markPolled _ f)
  exact .of_eq rfl rfl rfl

theorem keeps_placeOwnPoll {s t : State} {a : LineAddr} (h : placeOwnPoll s a = some t) : Keeps s t := by
  have hseq : Keeps s (stepSeq s 1) := .of_eq rfl rfl rfl
  unfold placeOwnPoll at h
  dsimp only at h
  split at h
  · cases h; exact hseq.trans (keeps_promotePoll _ _)
  · split at h
    · cases h; exact hseq.trans (keeps_queuePoll _ _)
    · cases h

/-! ## Expiries -/

theorem keeps_endPollTimer (s : State) (h : Slot) : Keeps s (endPollTimer s h) := by
  have hlive : Keeps s (changeLive s h fun l => { l with pollOutstanding := false }) := by
    refine .of_lives rfl rfl (fun k => by simp) fun k => ?_
    by_cases hk : k = h
    · subst hk
      simp only [liveAt_changeLive_self]
      exact .inr ⟨.inr fun hr => by rw [hr.1]; rfl, id, id⟩
    · exact .inl (by simp [liveAt_changeLive, hk])
  unfold endPollTimer
  refine hlive.trans (.of_local (fun _ => rfl) (fun k _ hr => ⟨hr.1, ?_⟩) (fun _ hr => hr)
    fun g hb => ⟨hb, fun hn => ⟨hn, fun _ _ hm => hm⟩⟩)
  rw [Table.get_set]
  split
  · rfl
  · exact hr.2

/-- A stale hoist goes OFFLINE, and an armed group of which it is a member is held in the same event (R150). -/
theorem keeps_staleStop {s : State} {h : Slot} (hp : (cfgAt s h).present = true) : Keeps s (staleStop s h) := by
  have offline : ∀ {l : HoistLive}, HoistReadingsSound l → HoistReadingsSound { l with state := .offline } :=
    fun hr => ⟨by simp, hr.2.1, hr.2.2.1, by simp⟩
  have live : ∀ k, liveAt (setHoistState s h .offline) k =
      if k = h then { liveAt s h with state := .offline } else liveAt s k := fun k => liveAt_changeLive s h k _
  have cfg : ∀ k, cfgAt (setHoistState s h .offline) k = cfgAt s k := fun k => cfgAt_changeLive s h k _
  unfold staleStop
  split
  · exact .refl s
  · exact .refl s
  · exact keeps_issueHoistStop _ _ _ _ _
  all_goals
    dsimp only
    split
    · next g hg =>
      have hw : widen (setHoistState s h .offline) (partStop .hold (.hoist h) (some .stale) 0x00#8 (some h)) =
          { partStop .hold (.hoist h) (some .stale) 0x00#8 (some h) with scope := .group g } :=
        widen_of_armed rfl (by rw [setHoistState, armedGroupOf_changeLive]; exact hg)
      rw [issueHoistStop, issueStop, hw]
      refine .admitStop_after cfg rfl rfl (fun k => ?_) (by simp)
      rw [live]
      split
      · next e =>
        subst e
        refine .inr ⟨hp, offline, fun g' hm => ?_⟩
        have h1 := ((isMember_iff s g' k).1 hm).2
        have h2 := ((isMember_iff s g k).1 ((armedGroupOf_eq_some_iff s k g).1 hg).1).2
        simp [coversGroup, Option.some.inj (h1.symm.trans h2)]
      · exact .inl rfl
    · next hg =>
      refine .of_local cfg (fun k hk hr => ⟨?_, hr.2⟩) (fun k hr => ?_) fun g' hb => ⟨hb, fun hn => ⟨hn, fun k hm hmov => ?_⟩⟩
      · rw [live, if_neg, hr.1]
        rintro rfl
        simp [hp] at hk
      · rw [live]
        split
        · next e => subst e; exact offline hr
        · exact hr
      · rw [live, if_neg]
        · exact hmov
        · rintro rfl
          have := (armedGroupOf_eq_none_iff s k).1 hg g' hm
          have hn' : NeedsMovable (groupAt s g').live := hn
          simp [NeedsMovable, inProgress, this] at hn'

theorem keeps_staleExpire {s : State} {h : Slot} (hp : (cfgAt s h).present = true) : Keeps s (staleExpire s h) := by
  unfold staleExpire
  split
  · exact .refl s
  · exact (keeps_staleStop hp).trans (keeps_raiseNotice _ _ _)

theorem keeps_silenceExpire (s : State) : Keeps s (silenceExpire s) := by
  have htimer : ∀ v, Keeps s { s with silence := v } := fun _ => .of_eq rfl rfl rfl
  unfold silenceExpire
  dsimp only
  exact ((htimer _).trans (keeps_admitStop (by simp [partStop]))).trans (keeps_raiseNotice _ _ _)

/-! ## Records -/

theorem hoistReadingsSound_reevaluate (w : Limits) (l : HoistLive) (h : HoistReadingsSound l) :
    HoistReadingsSound (reevaluate w l) := by
  unfold reevaluate
  split <;> exact h

theorem state_reevaluate (w : Limits) (l : HoistLive) : (reevaluate w l).state = l.state := by
  unfold reevaluate
  split <;> rfl

theorem keeps_commitGroup (s : State) (g : GroupNo) (c : GroupConfig) : Keeps s (commitGroup s g c) := by
  have hcfg : Keeps s (putGroup s g { groupAt s g with cfg := c }) := by
    refine .of_groups rfl rfl fun k hb => ?_
    rw [groupAt_putGroup]
    split
    · next e => subst e; exact ⟨hb, id⟩
    · exact ⟨hb, id⟩
  unfold commitGroup
  dsimp only
  split
  · exact hcfg
  · refine hcfg.trans (.of_lives rfl rfl (fun h => ?_) fun h => ?_)
    · simp only [← cfg_hoistAt, hoistAt_changeHoists]
      split <;> rfl
    · rw [← live_hoistAt (changeHoists _ _), hoistAt_changeHoists]
      split
      · next hc =>
        simp only [Bool.and_eq_true] at hc
        exact .inr ⟨.inl hc.1.1, hoistReadingsSound_reevaluate _ _, fun hm => by rw [state_reevaluate]; exact hm⟩
      · exact .inl rfl

theorem keeps_commitLine (s : State) (c : LineConfig) (levels : Bool) : Keeps s (commitLine s c levels) := by
  have hline : Keeps s { s with line := c } := .of_eq rfl rfl rfl
  have htimers : ∀ u old, Keeps u (endLateTimers u old) := fun u old => by
    unfold endLateTimers
    split
    · exact .refl u
    · exact .foldl _ u fun v _ h _ => keeps_endPollTimer v h
  have hhoists : ∀ u old, Keeps u (expireLateHoists u old) := fun u old => by
    refine .foldl _ u fun v hv h hh => keeps_staleExpire ?_
    simp only [List.mem_filter, Bool.and_eq_true] at hh
    rw [hv.cfg]
    exact hh.2.1.1
  have hsilence : ∀ u old, Keeps u (expireLateSilence u old) := fun u old => by
    unfold expireLateSilence
    split
    · exact keeps_silenceExpire u
    · exact .refl u
  have hall := (hline.trans (htimers _ s.line.pollTimeout)).trans
    ((hhoists _ s.line.ageLimit).trans (hsilence _ s.line.silenceLimit))
  unfold commitLine
  dsimp only
  split
  · exact hall.trans (.of_eq rfl rfl rfl)
  · exact hall

end Sys2Proof.Machine
end


/-! # Sitting 1: every step keeps the invariants of the hoist records -/
section

namespace Sys2Proof.Machine

/-! ## The relation of a whole event -/

/-- What every event keeps, a change of the configuration included. -/
structure KeepsSound (s t : State) : Prop where
  absent : AbsentAtReset s → AbsentAtReset t
  batches : AllInMotion s → AllInMotion t
  readings : AllInMotion s → ReadingsSound s → ReadingsSound t

theorem Keeps.sound {s t : State} (h : Keeps s t) : KeepsSound s t := ⟨h.absentAtReset, h.batches, h.readings⟩

theorem KeepsSound.refl (s : State) : KeepsSound s s := (Keeps.refl s).sound

theorem KeepsSound.trans {s t u : State} (h1 : KeepsSound s t) (h2 : KeepsSound t u) : KeepsSound s u where
  absent h := h2.absent (h1.absent h)
  batches h := h2.batches (h1.batches h)
  readings hb hr := h2.readings (h1.batches hb) (h1.readings hb hr)

/-- The next state of an outcome, when it has one, keeps what `s` has. -/
def KeepsNext (s : State) (x : Host.Outcome State Fault Refusal) : Prop := ∀ t, x = .next t → KeepsSound s t

theorem keepsNext_next {s t : State} (h : KeepsSound s t) : KeepsNext s (.next t) := fun _ e => by cases e; exact h

theorem keepsNext_finish {s t : State} (h : KeepsSound s t) : KeepsNext s (.next (finish t)) :=
  keepsNext_next (h.trans (keeps_finish t).sound)

theorem keepsNext_same (s : State) : KeepsNext s (.next s) := keepsNext_next (.refl s)

theorem keepsNext_fault (s : State) (f : Fault) : KeepsNext s (.fault f) := fun _ e => by cases e

/-- The taking of an Intake head (R48). -/
theorem keepsNext_takeHead {s : State} {act : IntakeEntry → State → Option State}
    (h : ∀ e u v, act e u = some v → KeepsSound u v) : KeepsNext s (takeHead s act) := by
  obtain ⟨e, rest, u, -, ha, he⟩ | ⟨-, he⟩ := takeHead_cases s act
  · have htake : Keeps s { s with intake := rest } := .of_eq rfl rfl rfl
    rw [he]
    exact keepsNext_finish (htake.sound.trans (h e _ u ha))
  · rw [he]; exact keepsNext_same s

/-- A management command keeps what its operation keeps (R182). -/
theorem keepsNext_mgmt {s : State} {accepts : Byte → Bool} {act : State → Frame → MgmtResult}
    (h : ∀ u f, KeepsSound u (act u f).state) : KeepsNext s (takeHead s (mgmtTaken accepts act)) := by
  refine keepsNext_takeHead fun e u v hv => ?_
  have hreply : ∀ (f : Frame) (r : MgmtResult), Keeps r.state (placeReply f r) := fun _ _ => .of_eq rfl rfl rfl
  unfold mgmtTaken answer at hv
  split at hv
  · cases hv
    split
    · exact (hreply _ (refuses u _)).sound
    · exact (h u e.frame).trans (hreply _ _).sound
  · cases hv

/-! ## WRITE (R186) -/

/-- The protection of a hoist record keeps a new configuration out of every armed group (R187). -/
theorem not_needsMovable_of_commit {s : State} {h : Slot} {c : HoistConfig}
    (hprot : hoistProtected s h c = false) {g : GroupNo} (hn : NeedsMovable (groupAt s g).live)
    (hp : c.present = true) : c.group ≠ some g := by
  intro hg
  simp only [hoistProtected, namesArmed, hp, hg, Bool.or_eq_false_iff] at hprot
  have := (armed_eq_false_iff s g).1 (by simpa using hprot.2)
  simp [NeedsMovable, inProgress, this] at hn

/-- The record after its commit: reset when Present goes from yes to no (R5), and otherwise at most evaluated again
(R6). -/
theorem hoistAt_commitHoist (s : State) (h k : Slot) (c : HoistConfig) :
    hoistAt (commitHoist s h c) k =
      if k = h then
        { cfg := c
          live :=
            if (cfgAt s h).present && !c.present then HoistLive.reset
            else if c.present && !sameWindow (effectiveLimits s h) (limitsOf s.groups c) then
              reevaluate (limitsOf s.groups c) (liveAt s h)
            else liveAt s h }
      else hoistAt s k := by
  have timer : ∀ (p : Bool) (u : State) (v : Table 64 (Option Nat)),
      hoistAt (if p then { u with pollTimers := v } else u) k = hoistAt u k := fun p u v => by cases p <;> rfl
  unfold commitHoist
  dsimp only
  rw [timer, hoistAt_putHoist]
  cases c.present <;> simp

theorem cfgAt_commitHoist (s : State) (h k : Slot) (c : HoistConfig) :
    cfgAt (commitHoist s h c) k = if k = h then c else cfgAt s k := by
  rw [← cfg_hoistAt, hoistAt_commitHoist]
  split <;> rfl

theorem liveAt_commitHoist (s : State) (h k : Slot) (c : HoistConfig) :
    liveAt (commitHoist s h c) k =
      if k = h then
        if (cfgAt s h).present && !c.present then HoistLive.reset
        else if c.present && !sameWindow (effectiveLimits s h) (limitsOf s.groups c) then
          reevaluate (limitsOf s.groups c) (liveAt s h)
        else liveAt s h
      else liveAt s k := by
  rw [← live_hoistAt, hoistAt_commitHoist]
  split <;> rfl

/-- A poll timer ends with its hoist (R153). -/
theorem pollTimers_commitHoist (s : State) (h k : Slot) (c : HoistConfig) :
    (commitHoist s h c).pollTimers.get k =
      if k = h ∧ (cfgAt s h).present = true ∧ c.present = false then none else s.pollTimers.get k := by
  unfold commitHoist
  dsimp only
  split
  · next hgone =>
    have : (cfgAt s h).present = true ∧ c.present = false := by simpa using hgone
    simp [this, Table.get_set]
  · next hgone =>
    have : ¬(k = h ∧ (cfgAt s h).present = true ∧ c.present = false) := fun hc => hgone (by simp [hc.2])
    simp [this]

@[simp] theorem groups_commitHoist (s : State) (h : Slot) (c : HoistConfig) : (commitHoist s h c).groups = s.groups := by
  unfold commitHoist
  dsimp only
  split <;> rfl

theorem keepsSound_commitHoist {s : State} {h : Slot} {c : HoistConfig} (hprot : hoistProtected s h c = false) :
    KeepsSound s (commitHoist s h c) where
  absent ha k hk := by
    rw [cfgAt_commitHoist] at hk
    rw [liveAt_commitHoist, pollTimers_commitHoist]
    by_cases e : k = h
    · subst e
      rw [if_pos rfl] at hk
      cases hp : (cfgAt s k).present
      · obtain ⟨hl, ht⟩ := ha k hp
        simp [hk, hl, ht]
      · simp [hk]
    · rw [if_neg e] at hk
      simpa [e] using ha k hk
  batches hb g := by rw [groupAt_congr (groups_commitHoist s h c)]; exact hb g
  readings _ hr := by
    refine ⟨fun k => ?_, fun g hn k hm => ?_⟩
    · rw [liveAt_commitHoist]
      split
      · split
        · simp [HoistReadingsSound, HoistLive.reset]
        · split
          · exact hoistReadingsSound_reevaluate _ _ (hr.1 h)
          · exact hr.1 h
      · exact hr.1 k
    · rw [groupAt_congr (groups_commitHoist s h c)] at hn
      rw [mem_members, isMember_iff, cfgAt_commitHoist] at hm
      by_cases e : k = h
      · rw [if_pos e] at hm
        exact absurd hm.2 (not_needsMovable_of_commit hprot hn hm.1)
      · rw [if_neg e] at hm
        rw [liveAt_commitHoist, if_neg e]
        exact hr.2 g hn k ((mem_members s g k).2 ((isMember_iff s g k).2 hm))

/-- A WRITE of one record leaves the state as it is or commits a merged record that nothing protects (R186). -/
theorem writeRecord_state (s : State) (f : Frame) (present : List (List Byte))
    (validate : List (List Byte) → Option (Nat × Reason)) (protection : List (List Byte) → Option Reason)
    (commit : List (List Byte) → State) :
    (writeRecord s f present validate protection commit).state = s ∨
    ∃ raw, protection raw = none ∧ (writeRecord s f present validate protection commit).state = commit raw := by
  unfold writeRecord
  split
  · exact .inl rfl
  · next raw _ =>
    split
    · exact .inl rfl
    · exact .inl rfl
    · next _ hp => exact .inr ⟨raw, hp, rfl⟩

theorem keepsSound_writeRecord {s : State} {f : Frame} {present : List (List Byte)}
    {validate : List (List Byte) → Option (Nat × Reason)} {protection : List (List Byte) → Option Reason}
    {commit : List (List Byte) → State} (h : ∀ raw, protection raw = none → KeepsSound s (commit raw)) :
    KeepsSound s (writeRecord s f present validate protection commit).state := by
  obtain e | ⟨raw, hp, e⟩ := writeRecord_state s f present validate protection commit
  · rw [e]; exact .refl s
  · rw [e]; exact h raw hp

theorem keepsSound_writeOp (s : State) (f : Frame) : KeepsSound s (writeOp s f).state := by
  have hmap : ∀ i e, Keeps s (commitMap s i e) := fun _ _ => .of_eq rfl rfl rfl
  have hfilter : ∀ i t, Keeps s (commitFilter s i t) := fun _ _ => .of_eq rfl rfl rfl
  have htrack : ∀ i d, Keeps s (commitTrack s i d) := fun _ _ => .of_eq rfl rfl rfl
  unfold writeOp
  split
  · exact .refl s
  · exact .refl s
  · refine keepsSound_writeRecord fun raw hp => keepsSound_commitHoist ?_
    simpa [refusesWhen] using hp
  · exact keepsSound_writeRecord fun _ _ => (keeps_commitGroup _ _ _).sound
  · exact keepsSound_writeRecord fun _ _ => (hmap _ _).sound
  · exact keepsSound_writeRecord fun _ _ => (hfilter _ _).sound
  · exact keepsSound_writeRecord fun _ _ => (htrack _ _).sound
  · exact keepsSound_writeRecord fun _ _ => (keeps_commitLine _ _ _).sound

/-! ## The other operations -/

/-- An accepted ARM goes to a group all of whose members are READY or HELD (R78). -/
theorem keeps_armGroup {s : State} {g : GroupNo} (hr : armRefusal s g = none) : Keeps s (armGroup s g) := by
  have hready : ∀ h, isMember s g h = true → isMovable (liveAt s h).state = true := by
    intro h hm
    unfold armRefusal at hr
    repeat' split at hr
    all_goals try cases hr
    next hany _ _ =>
      simp only [List.any_eq_true, not_exists, not_and, Bool.not_eq_true] at hany
      have := hany h ((mem_members s g h).2 hm)
      simp only [memberNotReady, Bool.or_eq_false_iff] at this
      cases hst : (liveAt s h).state <;> simp_all
  have hlive : ∀ h, liveAt (armGroup s g) h =
      if isMember s g h then { liveAt s h with fresh := false } else liveAt s h := fun h => by
    simp only [← live_hoistAt, armGroup, hoistAt_changeHoists]
    split <;> rfl
  have hgroup : ∀ k, groupAt (armGroup s g) k = if k = g then
      { groupAt s g with live := { GroupLive.reset with state := .ready, lastSkew := some (skewOf s g) } }
      else groupAt s k := fun k => by simp [armGroup, groupAt_changeGroup]
  have hcfg : ∀ h, cfgAt (armGroup s g) h = cfgAt s h := fun h => by
    simp only [← cfg_hoistAt, armGroup, hoistAt_changeHoists]
    split <;> rfl
  refine ⟨hcfg, fun h hp hr => ⟨?_, hr.2⟩, fun hb k => ?_, fun _ hs => ⟨fun h => ?_, fun k hn h hm => ?_⟩⟩
  · rw [hlive, hr.1]; split <;> rfl
  · rw [hgroup]
    split
    · simp [BatchesInMotion, GroupLive.reset]
    · exact hb k
  · rw [hlive]
    split
    · exact ⟨(hs.1 h).1, by simp, (hs.1 h).2.2.1, (hs.1 h).2.2.2⟩
    · exact hs.1 h
  · rw [members_congr hcfg, mem_members] at hm
    have hmov : isMovable (liveAt s h).state = true := by
      rw [hgroup] at hn
      split at hn
      · next e => subst e; exact hready h hm
      · exact hs.2 k hn h ((mem_members s k h).2 hm)
    rw [hlive]
    split <;> exact hmov

theorem keeps_armOp (s : State) (f : Frame) : Keeps s (armOp s f).state := by
  unfold armOp
  split
  · exact .refl s
  · split
    · exact .refl s
    · next hr => exact keeps_armGroup hr

theorem keeps_parkOp (s : State) (f : Frame) : Keeps s (parkOp s f).state := by
  unfold parkOp
  split
  · exact .refl s
  · split
    · exact .refl s
    · next g _ _ _ =>
      show Keeps s (changeGroup s g fun l => { GroupLive.reset with tripCause := l.tripCause })
      exact .changeGroup fun _ => ⟨by simp [BatchesInMotion, GroupLive.reset],
        by simp [NeedsMovable, inProgress, GroupLive.reset]⟩

/-- A hoist that passes the recovery test is TRIPPED and has its readings, since its Drive State is no FAULT (R191). -/
theorem passesRecovery_iff (s : State) (h : Slot) :
    passesRecovery s h = true ↔ (liveAt s h).state = .tripped ∧ (liveAt s h).sampleAge < s.line.ageLimit ∧
      ((liveAt s h).driveState = some .idle ∨ (liveAt s h).driveState = some .moving ∨
        (liveAt s h).driveState = some .held) := by
  simp [passesRecovery, and_assoc, or_assoc]

theorem keeps_clearOnRecover (s : State) : Keeps s (clearOnRecover s) := by
  unfold clearOnRecover
  split
  · exact .of_eq rfl rfl rfl
  · exact .refl s

/-- Recovered hoists become READY on the readings that their Drive State vouches for, and recovered groups HOLDING. -/
theorem keeps_recoverSet {s : State} {p : Slot → Bool} {q : GroupNo → Bool}
    (hp : ∀ h, p h = true → passesRecovery s h = true) (hq : ∀ g, q g = true → groupTripped s g = true) :
    Keeps s (clearOnRecover (recoverSet s p q)) := by
  refine .trans ?_ (keeps_clearOnRecover _)
  unfold recoverSet
  refine .trans (.changeSome (p := p) (f := recoverLive) (fun h hh => .inr fun hr => ?_) (fun h hh hs => ?_)
    fun h _ _ => rfl) (.of_groups rfl rfl fun g hb => ?_)
  · have := ((passesRecovery_iff s h).1 (hp h hh)).1
    simp [hr, HoistLive.reset] at this
  · have hread : HasReading (liveAt s h) := hs.2.2.1
      (by rcases ((passesRecovery_iff s h).1 (hp h hh)).2.2 with e | e | e <;> simp [e])
      (by rcases ((passesRecovery_iff s h).1 (hp h hh)).2.2 with e | e | e <;> simp [e])
    exact ⟨fun _ => hread, fun _ => hread, fun _ _ => hread, by simp [recoverLive]⟩
  · rw [groupAt_changeGroups]
    split
    · next hg =>
      have ht : (groupAt s g).live.state = .tripped := by simpa [groupTripped] using hq g hg
      have hb' : BatchesInMotion (groupAt s g).live := hb
      refine ⟨⟨fun hw => ?_, fun hw => ?_⟩, by simp [NeedsMovable, inProgress, recoverGroupLive]⟩
      · have := hb'.1 hw; simp [ht] at this
      · have := hb'.2 hw; simp [inProgress, ht] at this
    · exact ⟨hb, id⟩

theorem keeps_recoverOp (s : State) (f : Frame) : Keeps s (recoverOp s f).state := by
  have hoist : ∀ h, Keeps s (recoverHoistOp s h).state := fun h => by
    unfold recoverHoistOp
    split
    · exact .refl s
    · split
      · exact .refl s
      · next hp =>
        refine keeps_recoverSet (fun k hk => ?_) (by simp)
        rw [beq_iff_eq] at hk
        simpa [hk] using hp
  have group : ∀ g, Keeps s (recoverGroupOp s g).state := fun g => by
    unfold recoverGroupOp
    split
    · exact .refl s
    · next ht =>
      split
      · exact .refl s
      · next hp =>
        refine keeps_recoverSet (fun k hk => ?_) (fun k hk => ?_)
        · exact List.all_eq_true.1 (by simpa using hp) k ((mem_members s g k).2 hk)
        · rw [beq_iff_eq] at hk
          simpa [hk] using ht
  have all : Keeps s (recoverAllOp s).state := by
    unfold recoverAllOp
    split
    · exact .refl s
    · next hp =>
      refine keeps_recoverSet (fun k hk => ?_) fun _ h => h
      by_contra e
      exact hp (List.any_eq_true.2 ⟨k, by simp [allSlots], by simp [hk, e]⟩)
  unfold recoverOp
  split
  · exact all
  · split
    · exact hoist _
    · exact .refl s
  · split
    · exact group _
    · exact .refl s
  all_goals exact .refl s

theorem keeps_motionOff (s : State) (seq : Byte) : Keeps s (motionOff s seq) := by
  have hoff : Keeps s { s with motionEnable := false } := .of_eq rfl rfl rfl
  have habort : ∀ u, Keeps u (abortTracks u) := fun u => by
    refine .of_groups rfl rfl fun g hb => ?_
    have : groupAt (abortTracks u) g = { groupAt u g with live := { (groupAt u g).live with track := none } } := by
      simp [abortTracks, groupAt, changeGroups]
    rw [this]
    exact ⟨⟨hb.1, by simp⟩, id⟩
  unfold motionOff
  refine .trans ?_ (habort _)
  split
  · exact hoff.trans (keeps_admitStop (by simp [holdAllStop, partStop]))
  · exact hoff

theorem keeps_setMotionOp (s : State) (f : Frame) : Keeps s (setMotionOp s f).state := by
  unfold setMotionOp
  split
  · show Keeps s (if s.motionEnable then motionOff s f.seq else s)
    split
    · exact keeps_motionOff s _
    · exact .refl s
  · split
    · split
      · exact .refl s
      · exact .of_eq rfl rfl rfl
    · exact .refl s

theorem keeps_setPortModeOp (s : State) (f : Frame) : Keeps s (setPortModeOp s f).state := by
  have hmode : ∀ (m : PortMode) (n : Option Entry), Keeps s { s with portMode := m, nextFrame := n } :=
    fun _ _ => .of_eq rfl rfl rfl
  unfold setPortModeOp
  split
  · exact .refl s
  · split
    · exact .refl s
    · split
      · exact .refl s
      · next m _ _ _ =>
        show Keeps s (changeMode s m)
        unfold changeMode
        dsimp only
        split
        · split
          · exact (hmode m none).trans (sameRecords_discardFrame _ _).keeps
          · exact hmode m s.nextFrame
        · exact hmode m s.nextFrame

theorem keeps_readOps (s : State) (f : Frame) :
    (readOp s f).state = s ∧ (readLiveOp s f).state = s ∧ (readCauseOp s f).state = s := by
  refine ⟨?_, ?_, ?_⟩
  · unfold readOp; split <;> rfl
  · unfold readLiveOp; split
    · split <;> rfl
    · split <;> rfl
    all_goals rfl
  · unfold readCauseOp; split
    · rfl
    · split <;> rfl

theorem keeps_clearCauseOp (s : State) (f : Frame) : Keeps s (clearCauseOp s f).state := .of_eq rfl rfl rfl

theorem keeps_setIdentityOp (s : State) (f : Frame) : Keeps s (setIdentityOp s f).state := by
  unfold setIdentityOp
  split
  · exact .refl s
  · split
    · exact .refl s
    · exact .of_eq rfl rfl rfl

/-! ## Resets -/

theorem hoistReadingsSound_reset : HoistReadingsSound HoistLive.reset := by
  simp [HoistReadingsSound, HoistLive.reset]

@[simp] theorem hoistAt_emptyForReset (s : State) (h : Slot) :
    hoistAt (emptyForReset s) h = { hoistAt s h with live := HoistLive.reset } := by
  simp [emptyForReset, hoistAt]

@[simp] theorem groupAt_emptyForReset (s : State) (g : GroupNo) :
    groupAt (emptyForReset s) g = { groupAt s g with live := GroupLive.reset } := by
  simp [emptyForReset, groupAt]

theorem keeps_resetLine (s : State) (seq : Byte) : Keeps s (resetLine s seq) := by
  have hlive : ∀ h, liveAt (emptyForReset s) h = HoistLive.reset := fun h => by rw [← live_hoistAt]; simp
  have hempty : Keeps s (emptyForReset s) := by
    refine .of_local (fun h => by rw [← cfg_hoistAt]; simp [cfg_hoistAt]) (fun h _ _ => ⟨hlive h, ?_⟩)
      (fun h _ => by rw [hlive]; exact hoistReadingsSound_reset) (fun g _ => ?_)
    · simp [emptyForReset]
    · simp [BatchesInMotion, NeedsMovable, inProgress, GroupLive.reset]
  exact hempty.trans (keeps_admitStop (by simp [holdAllStop, partStop]))

theorem hoistAt_reset (h : Slot) :
    hoistAt State.reset h = { cfg := HoistConfig.powerOn, live := HoistLive.reset } := by
  simp [State.reset, hoistAt]

theorem groupAt_reset (g : GroupNo) :
    groupAt State.reset g = { cfg := GroupConfig.powerOn, live := GroupLive.reset } := by
  simp [State.reset, groupAt]

theorem liveAt_reset (h : Slot) : liveAt State.reset h = HoistLive.reset := by rw [← live_hoistAt, hoistAt_reset]

theorem absentAtReset_reset : AbsentAtReset State.reset := fun h _ => ⟨liveAt_reset h, by simp [State.reset]⟩

theorem allInMotion_reset : AllInMotion State.reset := fun g => by
  rw [groupAt_reset]; simp [BatchesInMotion, GroupLive.reset]

theorem readingsSound_reset : ReadingsSound State.reset := by
  refine ⟨fun h => by rw [liveAt_reset]; exact hoistReadingsSound_reset, fun g hn => ?_⟩
  rw [groupAt_reset] at hn
  simp [inProgress, GroupLive.reset] at hn

/-- Settles O6: the tables are filled with their power-on records and every queue is empty. -/
theorem resetMeetsEveryInvariant : Obligations.ResetMeetsEveryInvariant := by
  refine ⟨by simp [State.reset, WithinCapacity], by simp [State.reset, LaneSound, HaltsFirst], absentAtReset_reset,
    by simp [State.reset, TagCounterSound], fun i hi => ?_, ⟨by simp [State.reset], fun g => ?_⟩, readingsSound_reset⟩
  · simp [State.reset, MapEntry.powerOn] at hi
  · rw [GroupBatchesSound, groupAt_reset]
    simp [State.reset, GroupLive.reset]

/-! ## Commands -/

/-- Each expiry keeps the invariants, whatever slot or group it names. -/
theorem keepsNext_staleExpiry (s : State) (n : Nat) : KeepsNext s (execStaleExpiry n s) := by
  unfold execStaleExpiry
  split
  · exact keepsNext_fault _ _
  · split
    · next h _ hdue =>
      simp only [staleDue, Bool.and_eq_true] at hdue
      have hage : Keeps s (changeLive s h fun l => { l with sampleAge := s.line.ageLimit }) :=
        .changeLive hdue.1 id id
      exact keepsNext_finish (hage.trans (keeps_staleExpire (by rw [hage.cfg]; exact hdue.1))).sound
    · exact keepsNext_same s

theorem keepsNext_pollTimeout (s : State) (n : Nat) : KeepsNext s (execPollTimeout n s) := by
  unfold execPollTimeout
  split
  · exact keepsNext_fault _ _
  · split
    · exact keepsNext_finish (keeps_endPollTimer _ _).sound
    · exact keepsNext_same s

theorem keepsNext_silenceTimerExpiry (s : State) : KeepsNext s (execSilenceTimerExpiry s) := by
  have hreach : Keeps s (reachSilenceLimit s) := .of_eq rfl rfl rfl
  unfold execSilenceTimerExpiry
  split
  · exact keepsNext_finish (hreach.trans (keeps_silenceExpire _)).sound
  · exact keepsNext_same s

theorem keepsNext_dwellExpiry (s : State) (n : Nat) : KeepsNext s (execDwellExpiry n s) := by
  unfold execDwellExpiry
  split
  · exact keepsNext_fault _ _
  · split
    · exact keepsNext_finish (keeps_makeStepDue _ _).sound
    · exact keepsNext_same s

theorem keepsNext_powerOnReset (s : State) : KeepsNext s (execPowerOnReset s) :=
  keepsNext_next ⟨fun _ => absentAtReset_reset, fun _ => allInMotion_reset, fun _ _ => readingsSound_reset⟩

theorem keepsNext_uPortArrival (s : State) (content : List Byte) : KeepsNext s (execUPortArrival content s) := by
  unfold execUPortArrival
  split
  · exact keepsNext_finish (keeps_raiseNotice _ _ _).sound
  · exact keepsNext_finish (keeps_takeDownstream _ _).sound

theorem keepsNext_dPortArrival (s : State) (content : List Byte) : KeepsNext s (execDPortArrival content s) := by
  unfold execDPortArrival
  split
  · exact keepsNext_finish (keeps_raiseNotice _ _ _).sound
  · exact keepsNext_finish (keeps_takeUpstream _ _).sound

theorem keepsNext_move (s : State) : KeepsNext s (execMove s) := by
  refine keepsNext_takeHead fun e u v h => ?_
  unfold moveTaken at h
  split at h <;> cases h
  exact (keeps_gateMove _ _).sound

theorem keepsNext_gmove (s : State) : KeepsNext s (execGmove s) := by
  refine keepsNext_takeHead fun e u v h => ?_
  unfold gmoveTaken at h
  split at h
  · split at h <;> cases h
    exact (keeps_gateGmove _ _ _).sound
  all_goals cases h

theorem keepsNext_go (s : State) : KeepsNext s (execGo s) := by
  refine keepsNext_takeHead fun e u v h => ?_
  unfold goTaken at h
  split at h
  · split at h <;> cases h
    exact (keeps_gateGo _ _ _).sound
  all_goals cases h

theorem keepsNext_poll (s : State) : KeepsNext s (execPoll s) := by
  refine keepsNext_takeHead fun e u v h => ?_
  unfold pollTaken at h
  repeat' split at h
  all_goals try cases h
  · exact (keeps_promotePoll _ _).sound
  · exact (keeps_queuePoll _ _).sound

theorem keepsNext_passThroughFrame (s : State) : KeepsNext s (execPassThroughFrame s) := by
  refine keepsNext_takeHead fun e u v h => ?_
  have hqueue : ∀ q, Keeps u { u with motionQueue := q } := fun _ => .of_eq rfl rfl rfl
  unfold passThroughTaken at h
  split at h <;> cases h
  exact (hqueue _).sound

theorem keepsNext_ownPoll (s : State) : KeepsNext s (execOwnPoll s) := by
  unfold execOwnPoll
  split
  · next t ht =>
    obtain ⟨h, -, hh⟩ := List.exists_of_findSome?_eq_some ht
    split at hh
    · obtain ⟨a, -, ha⟩ := Option.bind_eq_some_iff.1 hh
      exact keepsNext_finish (keeps_placeOwnPoll ha).sound
    · cases hh
  · exact keepsNext_same s

theorem keepsNext_rewriteWaveAdmission (s : State) : KeepsNext s (execRewriteWaveAdmission s) := by
  unfold execRewriteWaveAdmission
  split
  · split
    · exact keepsNext_finish (keeps_admitWave _ _).sound
    · exact keepsNext_same s
  all_goals exact keepsNext_same s

theorem keepsNext_trackStep (s : State) : KeepsNext s (execTrackStep s) := by
  unfold execTrackStep
  split
  · split
    · exact keepsNext_finish (keeps_takeDueStep _ _).sound
    · exact keepsNext_same s
  all_goals exact keepsNext_same s

theorem keepsNext_transmitCompletions (s : State) :
    KeepsNext s (execDPortTransmitCompletion s) ∧ KeepsNext s (execUPortTransmitCompletion s) := by
  have hd : Keeps s { s with onWire := none } := .of_eq rfl rfl rfl
  have hu : Keeps s { s with uWire := none } := .of_eq rfl rfl rfl
  refine ⟨?_, ?_⟩
  · unfold execDPortTransmitCompletion
    split
    · exact keepsNext_finish hd.sound
    · exact keepsNext_same s
  · unfold execUPortTransmitCompletion
    split
    · exact keepsNext_finish hu.sound
    · exact keepsNext_same s

theorem keepsNext_lineResetTakesEffect (s : State) : KeepsNext s (execLineResetTakesEffect s) := by
  have hwire : ∀ f, Keeps s { s with uWire := f } := fun _ => .of_eq rfl rfl rfl
  unfold execLineResetTakesEffect
  split
  · split
    · exact keepsNext_finish ((hwire _).trans (keeps_resetLine _ _)).sound
    · exact keepsNext_same s
  all_goals exact keepsNext_same s

/-- Every command keeps the invariants of the hoist records. -/
theorem keepsNext_exec (c : Instr) (s : State) : KeepsNext s (exec c s) := by
  have same : ∀ {u v : State}, v = u → KeepsSound u v := fun e => e ▸ .refl _
  cases c with
  | powerOnReset => exact keepsNext_powerOnReset s
  | uPortArrival content => exact keepsNext_uPortArrival s content
  | dPortArrival content => exact keepsNext_dPortArrival s content
  | move => exact keepsNext_move s
  | gmove => exact keepsNext_gmove s
  | go => exact keepsNext_go s
  | poll => exact keepsNext_poll s
  | passThroughFrame => exact keepsNext_passThroughFrame s
  | read => exact keepsNext_mgmt fun u f => same (keeps_readOps u f).1
  | write => exact keepsNext_mgmt keepsSound_writeOp
  | readLive => exact keepsNext_mgmt fun u f => same (keeps_readOps u f).2.1
  | arm => exact keepsNext_mgmt fun u f => (keeps_armOp u f).sound
  | park => exact keepsNext_mgmt fun u f => (keeps_parkOp u f).sound
  | recover => exact keepsNext_mgmt fun u f => (keeps_recoverOp u f).sound
  | clearCause => exact keepsNext_mgmt fun u f => (keeps_clearCauseOp u f).sound
  | readCause => exact keepsNext_mgmt fun u f => same (keeps_readOps u f).2.2
  | setIdentity => exact keepsNext_mgmt fun u f => (keeps_setIdentityOp u f).sound
  | setMotion => exact keepsNext_mgmt fun u f => (keeps_setMotionOp u f).sound
  | setPortMode => exact keepsNext_mgmt fun u f => (keeps_setPortModeOp u f).sound
  | lineReset => exact keepsNext_mgmt fun u f => .refl u
  | lineResetTakesEffect => exact keepsNext_lineResetTakesEffect s
  | dPortTransmitCompletion => exact (keepsNext_transmitCompletions s).1
  | uPortTransmitCompletion => exact (keepsNext_transmitCompletions s).2
  | staleExpiry n => exact keepsNext_staleExpiry s n
  | pollTimeout n => exact keepsNext_pollTimeout s n
  | silenceTimerExpiry => exact keepsNext_silenceTimerExpiry s
  | dwellExpiry n => exact keepsNext_dwellExpiry s n
  | trackStep => exact keepsNext_trackStep s
  | rewriteWaveAdmission => exact keepsNext_rewriteWaveAdmission s
  | ownPoll => exact keepsNext_ownPoll s
  | mgmtBadOperation => exact keepsNext_mgmt fun u f => .refl u

/-! ## The idle step and the invariants -/

/-- The running counts of a millisecond: an absent hoist has neither an age that steps nor a timer (R146, R149, R153). -/
theorem keeps_stepCounts (s : State) : Keeps s (stepCounts s) := by
  have hhoist : ∀ h, hoistAt (stepCounts s) h =
      { hoistAt s h with live := { liveAt s h with sampleAge := tickAge s h } } := fun h => by
    simp [stepCounts, hoistAt]
  have hlive : ∀ h, liveAt (stepCounts s) h = { liveAt s h with sampleAge := tickAge s h } := fun h => by
    rw [← live_hoistAt, hhoist]
  have hgroup : ∀ g, (groupAt (stepCounts s) g).live = { (groupAt s g).live with
      track := (groupAt s g).live.track.map fun t => { t with dwell := t.dwell.map tickDwell } } := fun g => by
    simp [stepCounts, groupAt]
  refine .of_local (fun h => by rw [← cfg_hoistAt, hhoist]; rfl) (fun h hp hr => ⟨?_, ?_⟩)
    (fun h hr => by rw [hlive]; exact hr) (fun g hb => ?_)
  · rw [hlive, hr.1]
    simp [tickAge, hp, hr.1]
  · have hno : pollDue s h = false := by simp [pollDue, hr.2]
    simp [stepCounts, hno, hr.2]
  · rw [hgroup]
    exact ⟨⟨hb.1, fun ht => hb.2 (by simpa using ht)⟩, fun hn => ⟨hn, fun h _ hm => by rw [hlive]; exact hm⟩⟩

theorem keepsSound_nextOr {s : State} {x : Host.Outcome State Fault Refusal} (h : KeepsNext s x) :
    KeepsSound s (nextOr s x) := by
  cases x with
  | next t => exact h t rfl
  | fault _ => exact .refl s
  | refused _ => exact .refl s

theorem keepsSound_runExpiry (s : State) (x : Expiry) : KeepsSound s (runExpiry s x) := by
  cases x with
  | stale h => exact keepsSound_nextOr (keepsNext_staleExpiry s _)
  | pollTimeout h => exact keepsSound_nextOr (keepsNext_pollTimeout s _)
  | dwell g => exact keepsSound_nextOr (keepsNext_dwellExpiry s _)
  | silence => exact keepsSound_nextOr (keepsNext_silenceTimerExpiry s)

theorem keepsSound_tick (s : State) : KeepsSound s (tick s) := by
  have hfold : ∀ (l : List Expiry) (u : State), KeepsSound u (l.foldl runExpiry u) := by
    intro l
    induction l with
    | nil => exact .refl
    | cons x xs ih => exact fun u => (keepsSound_runExpiry u x).trans (ih _)
  exact (keeps_stepCounts s).sound.trans (hfold _ _)

/-- Every step keeps the invariants of the hoist records. -/
theorem keepsSound_step {s t : State} (h : step s = .next t) : KeepsSound s t := by
  unfold step at h
  split at h
  · next c rest _ =>
    have hpop : Keeps s { s with pending := rest } := .of_eq rfl rfl rfl
    exact hpop.sound.trans (keepsNext_exec c _ t h)
  · cases h; exact keepsSound_tick s

/-- Settles O9: no part of an event changes the live fields or starts the poll timer of a hoist that is not Present, and a
WRITE that makes a hoist absent resets both. -/
theorem absentHoistsStayAtReset : Obligations.AbsentHoistsStayAtReset := fun _ _ ha hstep =>
  (keepsSound_step hstep).absent ha

/-- Settles O12: a hoist becomes movable only on stored readings and MOVING only with a grant, and whatever makes a member
immovable takes its group out of READY, MOVING and SLOWED. -/
theorem movableHoistsHoldReadings : Obligations.MovableHoistsHoldReadings := fun _ _ hr hb _ hstep =>
  (keepsSound_step hstep).readings (allInMotion_of_batchesSound hb) hr

end Sys2Proof.Machine
end


/-! # Sitting 1: frames as they arrive, and what an event leaves alone -/
section

namespace Sys2Proof.Machine

/-! ## A frame is received as it was sent (R23, R34) -/

/-- The two bytes of a field stand for it. -/
@[simp] theorem word16_highByte_lowByte (w : BitVec 16) : word16 (highByte w) (lowByte w) = w := by
  apply BitVec.eq_of_toNat_eq
  have := w.isLt
  simp only [word16, highByte, lowByte, BitVec.toNat_append, BitVec.extractLsb'_toNat]
  rw [← Nat.shiftLeft_add_eq_or_of_lt (by omega)]
  omega

@[simp] theorem length_frameHead (f : Frame) : (frameHead f).length = 7 + f.payload.length := by
  simp [frameHead]; omega

theorem length_frameContent (f : Frame) : (frameContent f).length = 9 + f.payload.length := by
  simp [frameContent]; omega

/-- A frame with at most 40 payload bytes passes the four reception checks and is received as it is (R34). -/
theorem receive_frameContent (f : Frame) (hlen : f.payload.length ≤ 40) : receive (frameContent f) = .ok f := by
  have hhead : ∀ n, n < 7 + f.payload.length → (frameContent f).getD n 0x00#8 = (frameHead f).getD n 0x00#8 := by
    intro n hn
    simp only [frameContent, List.getD_eq_getElem?_getD]
    rw [List.getElem?_append_left (by simpa using hn)]
  have hbyte : ((frameContent f).getD 6 0x00#8).toNat = f.payload.length := by
    rw [hhead 6 (by omega)]
    simp [frameHead, frameLen]; omega
  have hcrc : word16 ((frameContent f).getD (7 + f.payload.length) 0x00#8)
      ((frameContent f).getD (8 + f.payload.length) 0x00#8) = crc (frameHead f) := by
    have h1 : (frameContent f).getD (7 + f.payload.length) 0x00#8 = highByte (crc (frameHead f)) := by
      simp [frameContent, List.getD_eq_getElem?_getD]
    have h2 : (frameContent f).getD (8 + f.payload.length) 0x00#8 = lowByte (crc (frameHead f)) := by
      have : 8 + f.payload.length - (7 + f.payload.length) = 1 := by omega
      simp only [frameContent, List.getD_eq_getElem?_getD]
      rw [List.getElem?_append_right (by simp)]
      simp [this]
    rw [h1, h2, word16_highByte_lowByte]
  have htake : (frameContent f).take (7 + f.payload.length) = frameHead f := by
    rw [frameContent, List.take_append_of_le_length (by simp), ← length_frameHead f, List.take_length]
  have hpayload : ((frameContent f).drop 7).take f.payload.length = f.payload := by
    simp [frameContent, frameHead]
  unfold receive
  simp only [hbyte, length_frameContent, hcrc, htake, hpayload]
  rw [if_neg (by omega), if_neg (by omega), if_neg (by omega), if_neg (by simp)]
  rw [hhead 0 (by omega), hhead 1 (by omega), hhead 2 (by omega), hhead 3 (by omega), hhead 4 (by omega),
    hhead 5 (by omega)]
  simp [frameHead]

/-! ## Parts of an event that leave the stored readings alone -/

/-- What of a hoist's live part a SAMPLE has stored and no stop, grant or completion changes (R8). -/
def reported (l : HoistLive) : Option Nat × Option Nat × Option DriveState × Nat × LoadCondition × Bool :=
  (l.position, l.load, l.driveState, l.sampleAge, l.loadCondition, l.pollOutstanding)

/-- The fields of the state that neither an admission nor the rules of a SAMPLE change after its reading is stored. -/
def surroundings (s : State) :
    Table 16 MapEntry × Table 16 Filter × LineConfig × List IntakeEntry × SilenceTimer × List Frame ×
      Table 64 (Option Nat) :=
  (s.addressMap, s.filters, s.line, s.intake, s.silence, s.relayQueue, s.pollTimers)

/-- `t` differs from `s` in stops, grants, arrivals and group states, not in readings, configuration or surroundings. -/
structure LeavesReadings (s t : State) : Prop where
  surroundings : surroundings t = surroundings s
  cfg : ∀ h, cfgAt t h = cfgAt s h
  groupCfg : ∀ g, (groupAt t g).cfg = (groupAt s g).cfg
  reported : ∀ h, reported (liveAt t h) = reported (liveAt s h)

theorem LeavesReadings.refl (s : State) : LeavesReadings s s := ⟨rfl, fun _ => rfl, fun _ => rfl, fun _ => rfl⟩

theorem LeavesReadings.trans {s t u : State} (h1 : LeavesReadings s t) (h2 : LeavesReadings t u) :
    LeavesReadings s u where
  surroundings := h2.surroundings.trans h1.surroundings
  cfg h := (h2.cfg h).trans (h1.cfg h)
  groupCfg g := (h2.groupCfg g).trans (h1.groupCfg g)
  reported h := (h2.reported h).trans (h1.reported h)

theorem LeavesReadings.of_eq {s t : State} (hs : Machine.surroundings t = Machine.surroundings s)
    (hh : t.hoists = s.hoists) (hg : t.groups = s.groups) : LeavesReadings s t :=
  ⟨hs, cfgAt_congr hh, fun g => by rw [groupAt_congr hg], fun h => by rw [liveAt_congr hh]⟩

section

variable {s t : State} (h : LeavesReadings s t)
include h

theorem LeavesReadings.addressMap : t.addressMap = s.addressMap := congrArg (·.1) h.surroundings
theorem LeavesReadings.filters : t.filters = s.filters := congrArg (·.2.1) h.surroundings
theorem LeavesReadings.line : t.line = s.line := congrArg (·.2.2.1) h.surroundings
theorem LeavesReadings.intake : t.intake = s.intake := congrArg (·.2.2.2.1) h.surroundings
theorem LeavesReadings.silence : t.silence = s.silence := congrArg (·.2.2.2.2.1) h.surroundings
theorem LeavesReadings.relayQueue : t.relayQueue = s.relayQueue := congrArg (·.2.2.2.2.2.1) h.surroundings
theorem LeavesReadings.pollTimers : t.pollTimers = s.pollTimers := congrArg (·.2.2.2.2.2.2) h.surroundings

theorem LeavesReadings.position (k : Slot) : (liveAt t k).position = (liveAt s k).position :=
  congrArg (·.1) (h.reported k)
theorem LeavesReadings.load (k : Slot) : (liveAt t k).load = (liveAt s k).load := congrArg (·.2.1) (h.reported k)
theorem LeavesReadings.driveState (k : Slot) : (liveAt t k).driveState = (liveAt s k).driveState :=
  congrArg (·.2.2.1) (h.reported k)
theorem LeavesReadings.sampleAge (k : Slot) : (liveAt t k).sampleAge = (liveAt s k).sampleAge :=
  congrArg (·.2.2.2.1) (h.reported k)
theorem LeavesReadings.loadCondition (k : Slot) : (liveAt t k).loadCondition = (liveAt s k).loadCondition :=
  congrArg (·.2.2.2.2.1) (h.reported k)
theorem LeavesReadings.pollOutstanding (k : Slot) : (liveAt t k).pollOutstanding = (liveAt s k).pollOutstanding :=
  congrArg (·.2.2.2.2.2) (h.reported k)

theorem LeavesReadings.slotOfAddr (a : LineAddr) : slotOfAddr t a = slotOfAddr s a := by
  simp [Machine.slotOfAddr, h.addressMap]

theorem LeavesReadings.groupOf (k : Slot) : groupOf t k = groupOf s k := groupOf_congr h.cfg k

theorem LeavesReadings.effectiveLimits (k : Slot) : effectiveLimits t k = effectiveLimits s k := by
  have hg : ∀ g, (t.groups.get g).cfg = (s.groups.get g).cfg := h.groupCfg
  simp [Machine.effectiveLimits, limitsOf, h.cfg, hg]

end

theorem leavesReadings_changeLive (s : State) (h : Slot) {f : HoistLive → HoistLive}
    (hf : reported (f (liveAt s h)) = reported (liveAt s h)) : LeavesReadings s (changeLive s h f) := by
  refine ⟨rfl, fun k => by simp, fun _ => rfl, fun k => ?_⟩
  rw [liveAt_changeLive]
  split
  · next e => subst e; exact hf
  · rfl

/-- A change of some hoists' live parts that leaves what they have reported alone. -/
theorem leavesReadings_changeSome (s : State) (p : Slot → Bool) {f : Slot → HoistLive → HoistLive}
    (hf : ∀ h l, reported (f h l) = reported l) :
    LeavesReadings s (changeHoists s fun h r => if p h then { r with live := f h r.live } else r) := by
  refine ⟨rfl, fun h => ?_, fun _ => rfl, fun h => ?_⟩
  · simp only [← cfg_hoistAt, hoistAt_changeHoists]
    split <;> rfl
  · simp only [← live_hoistAt, hoistAt_changeHoists]
    split
    · exact hf h _
    · rfl

theorem leavesReadings_changeGroup (s : State) (g : GroupNo) (f : GroupLive → GroupLive) :
    LeavesReadings s (changeGroup s g f) := ⟨rfl, fun _ => rfl, fun _ => by simp, fun _ => rfl⟩

theorem leavesReadings_withBatches (s : State) (l : List InternalBatch) :
    LeavesReadings s { s with internalBatches := l } := .of_eq rfl rfl rfl

theorem leavesReadings_cancelBatch (s : State) (g : GroupNo) : LeavesReadings s (cancelBatch s g) := .of_eq rfl rfl rfl

theorem leavesReadings_raiseNotice (s : State) (src : NoticeSource) (p : NoticePayload) :
    LeavesReadings s (raiseNotice s src p) := .of_eq (by simp [surroundings]) (by simp) (by simp)

theorem leavesReadings_admitStop (s : State) (o : StopIssue) : LeavesReadings s (admitStop s o) := by
  refine ⟨by simp [surroundings], fun h => by simp, fun g => ?_, fun h => ?_⟩
  · rw [groupAt_admitStop]
    repeat' split
    all_goals rfl
  · simp only [← live_hoistAt]
    rw [hoistAt_admitStop]
    repeat' split
    all_goals rfl

theorem leavesReadings_issueStop (s : State) (o : StopIssue) : LeavesReadings s (issueStop s o) :=
  leavesReadings_admitStop s _

theorem leavesReadings_issueHoistStop (s : State) (k : StopKind) (h : Slot) (c : CauseKind) (seq : Byte) :
    LeavesReadings s (issueHoistStop s k h c seq) := leavesReadings_issueStop s _

/-! ### Batches, track steps and completion -/

theorem leavesReadings_admitBatch (s : State) (p : BatchPlan) : LeavesReadings s (admitBatch s p) := by
  have hqueue : LeavesReadings s (queueBatch s p) := .of_eq rfl rfl rfl
  have hgrant : LeavesReadings (queueBatch s p) (grantMembers (queueBatch s p) p) :=
    leavesReadings_changeSome _ _ (f := fun h l =>
      takeGrant { target := memberTarget (queueBatch s p) p.base h, speed := p.speed, tag := p.tag } l) fun _ _ => rfl
  exact (hqueue.trans hgrant).trans (leavesReadings_changeGroup _ _ _)

theorem leavesReadings_raiseClamp (s : State) (a b : Bool) (d : Byte) (h : Option Slot) (g : Option GroupNo) (q : Byte) :
    LeavesReadings s (raiseClamp s a b d h g q) := .of_eq (by simp [surroundings]) (by simp) (by simp)

theorem leavesReadings_takeDueStep (s : State) (g : GroupNo) : LeavesReadings s (takeDueStep s g) := by
  have htag : ∀ u, LeavesReadings u (stepTag u) := fun _ => .of_eq rfl rfl rfl
  have hc := leavesReadings_cancelBatch s g
  unfold takeDueStep
  split
  · exact hc
  · dsimp only
    split
    · refine hc.trans (.trans ?_ (leavesReadings_raiseClamp _ _ _ _ _ _ _))
      exact ((htag _).trans (leavesReadings_admitBatch _ _)).trans (leavesReadings_changeGroup _ _ _)
    · exact hc.trans ((leavesReadings_admitStop _ _).trans (leavesReadings_raiseNotice _ _ _))

theorem leavesReadings_makeStepDue (s : State) (g : GroupNo) : LeavesReadings s (makeStepDue s g) := by
  unfold makeStepDue takeIfOldest
  dsimp only
  split
  · exact ((leavesReadings_changeGroup _ _ _).trans (leavesReadings_withBatches _ _)).trans
      (leavesReadings_takeDueStep _ g)
  · exact (leavesReadings_changeGroup _ _ _).trans (leavesReadings_withBatches _ _)

theorem leavesReadings_examineArrival (s : State) (g : GroupNo) (seq : Byte) :
    LeavesReadings s (examineArrival s g seq) := by
  have hdiscard : ∀ f, LeavesReadings s (cancelBatch (changeGroup s g f) g) := fun f =>
    (leavesReadings_changeGroup s g f).trans (leavesReadings_cancelBatch _ g)
  unfold examineArrival
  split
  · split
    · exact (hdiscard _).trans (leavesReadings_raiseNotice _ _ _)
    · exact .refl s
  · split
    · unfold completeStep
      refine (hdiscard fun l => { l with wave := none }).trans ?_
      dsimp only
      split
      · exact (leavesReadings_changeGroup _ _ _).trans (leavesReadings_raiseNotice _ _ _)
      · split
        · exact leavesReadings_makeStepDue _ g
        · exact leavesReadings_changeGroup _ _ _
    · exact .refl s

/-! ### The Group Check -/

theorem leavesReadings_evaluateGroup (s : State) (g : GroupNo) (seq : Byte) :
    LeavesReadings s (evaluateGroup s g seq) := by
  have hstore : ∀ v, LeavesReadings s (storeEvaluation s g v) := fun v =>
    (leavesReadings_changeGroup s g _).trans
      (leavesReadings_changeSome _ (isMember s g) (f := fun _ l => { l with fresh := false }) fun _ _ => rfl)
  have htag : ∀ u, LeavesReadings u (stepTag u) := fun _ => .of_eq rfl rfl rfl
  have hwave : ∀ u, LeavesReadings u (formWave u g) := fun u =>
    ((htag u).trans (leavesReadings_changeGroup _ _ _)).trans (leavesReadings_withBatches _ _)
  have hwarn : ∀ u, LeavesReadings u (warnEffect u g) := fun u => by
    unfold warnEffect
    split
    · dsimp only
      split
      · exact leavesReadings_changeGroup _ _ _
      · exact (leavesReadings_changeGroup _ _ _).trans (hwave _)
    · exact leavesReadings_changeGroup _ _ _
    all_goals exact .refl u
  have hclean : ∀ u, LeavesReadings u (cleanEffect u g) := fun u => by
    unfold cleanEffect
    dsimp only
    split
    · split
      · exact leavesReadings_changeGroup _ _ _
      · exact (leavesReadings_changeGroup _ _ _).trans (leavesReadings_withBatches _ _)
    · exact .refl u
  unfold evaluateGroup
  refine (hstore (evaluationOf s g)).trans ?_
  unfold verdictEffect
  split
  · exact leavesReadings_admitStop _ _
  · split
    · exact .refl _
    · exact leavesReadings_admitStop _ _
  · exact (leavesReadings_raiseNotice _ _ _).trans (hwarn _)
  · exact hclean _
  · exact .refl _

theorem leavesReadings_examineRound (s : State) (h : Slot) (seq : Byte) : LeavesReadings s (examineRound s h seq) := by
  unfold examineRound
  split
  · exact .refl s
  · split
    · exact leavesReadings_evaluateGroup _ _ _
    · exact .refl s

/-! ### The drive-state rule and the Filter Bank -/

theorem leavesReadings_setHoistState (s : State) (h : Slot) (st : HoistState) :
    LeavesReadings s (setHoistState s h st) := leavesReadings_changeLive s h rfl

theorem leavesReadings_arrivalRule (s : State) (h : Slot) (r : Reading) : LeavesReadings s (arrivalRule s h r) := by
  have hready : LeavesReadings s (changeLive s h fun l => { l with arrived := true, state := .ready }) :=
    leavesReadings_changeLive s h rfl
  unfold arrivalRule
  split
  · exact .refl s
  · split
    · exact .refl s
    · split
      · unfold arrive
        dsimp only
        split
        · exact hready.trans (leavesReadings_examineArrival _ _ _)
        · exact hready
      · unfold missArrival
        split
        · exact leavesReadings_issueHoistStop _ _ _ _ _
        · exact (leavesReadings_setHoistState _ _ _).trans (leavesReadings_raiseNotice _ _ _)

theorem leavesReadings_uncommandedRule (s : State) (h : Slot) (seq : Byte) :
    LeavesReadings s (uncommandedRule s h seq) := by
  unfold uncommandedRule
  split
  · exact leavesReadings_issueHoistStop _ _ _ _ _
  · exact .refl s

theorem leavesReadings_driveStateRule (s : State) (h : Slot) (r : Reading) (d : DriveState) :
    LeavesReadings s (driveStateRule s h r d) := by
  unfold driveStateRule
  split
  any_goals exact .refl s
  any_goals exact leavesReadings_issueHoistStop _ _ _ _ _
  any_goals exact leavesReadings_setHoistState _ _ _
  any_goals exact leavesReadings_uncommandedRule _ _ _
  · exact leavesReadings_arrivalRule _ _ _
  · exact (leavesReadings_setHoistState _ _ _).trans (leavesReadings_uncommandedRule _ _ _)

theorem leavesReadings_filterStop (f : Frame) (d : Direction) (hits : List FilterNo) (s : State) (i : FilterNo) :
    LeavesReadings s (filterStop f d hits s i) := by
  unfold filterStop
  dsimp only
  split
  · exact .refl s
  · exact leavesReadings_admitStop _ _

theorem leavesReadings_filterStops (f : Frame) (d : Direction) (hits l : List FilterNo) (s : State) :
    LeavesReadings s (l.foldl (filterStop f d hits) s) := by
  induction l generalizing s with
  | nil => exact .refl s
  | cons i is ih => exact (leavesReadings_filterStop f d hits s i).trans (ih _)

theorem leavesReadings_filterBank (s : State) (f : Frame) (d : Direction) : LeavesReadings s (filterBank s f d) := by
  unfold filterBank
  refine (leavesReadings_filterStops f d (hitSet s f d) (hitSet s f d) s).trans ?_
  unfold filterNotice
  split
  · exact .refl _
  · exact leavesReadings_raiseNotice _ _ _

end Sys2Proof.Machine
end


/-! # Sitting 1: the rules of a SAMPLE and the stale expiry -/
section

namespace Sys2Proof.Machine

/-! ## Two changes of one record -/

/-- Two writes of one record are the second. -/
@[simp] theorem set_set {n : Nat} {α : Type} (t : Table n α) (i : Fin n) (x y : α) : (t.set i x).set i y = t.set i y := by
  apply Table.ext_get
  intro j
  simp only [Table.get_set]
  split <;> rfl

/-- Two changes of one hoist's live part are one. -/
theorem changeLive_changeLive (s : State) (h : Slot) (f k : HoistLive → HoistLive) :
    changeLive (changeLive s h f) h k = changeLive s h fun l => k (f l) := by
  simp [changeLive, putHoist, hoistAt, liveAt]

/-- A hoist record is replaced in one hoist alone. -/
theorem hoistAt_changeLive (s : State) (h k : Slot) (f : HoistLive → HoistLive) :
    hoistAt (changeLive s h f) k = if k = h then { hoistAt s h with live := f (liveAt s h) } else hoistAt s k :=
  hoistAt_putHoist s h k _

/-! ## What a raise comes to (R175) -/

theorem notices_raiseNotice (s : State) (src : NoticeSource) (p : NoticePayload) :
    (raiseNotice s src p).notices =
      if noticeLevel s (sourceIndex src) = 0 then s.notices
      else s.notices.set (sourceIndex src) (some
        { repeated := (s.notices.get (sourceIndex src)).isSome, hoist := p.hoist, group := p.group, code := p.code,
          detail := p.detail, relatedSeq := p.relatedSeq, time := s.lineClock }) := by
  unfold raiseNotice
  split <;> rfl

/-- A raise writes the notices alone. -/
theorem raiseNotice_eq_with (s : State) (src : NoticeSource) (p : NoticePayload) :
    raiseNotice s src p = { s with notices := (raiseNotice s src p).notices } := by
  unfold raiseNotice
  split <;> rfl

/-- What a raise writes depends on the notices, their levels and the Line Clock. -/
theorem notices_raiseNotice_congr {s t : State} (hl : t.line = s.line) (hn : t.notices = s.notices)
    (hc : t.lineClock = s.lineClock) (src : NoticeSource) (p : NoticePayload) :
    (raiseNotice t src p).notices = (raiseNotice s src p).notices := by
  have hlevel : ∀ i, noticeLevel t i = noticeLevel s i := fun i => by simp [noticeLevel, hl]
  simp only [notices_raiseNotice, hlevel, hn, hc]

/-! ## Stop orders of one Present hoist -/

/-- The order of one hoist covers it, whether it is widened to its armed group or not (R10, R21). -/
theorem coversHoist_widen {s : State} {o : StopIssue} {h : Slot} (hs : o.scope = .hoist h)
    (hp : (cfgAt s h).present = true) : coversHoist s (widen s o).scope h = true := by
  cases hg : armedGroupOf s h with
  | none => rw [widen_of_lone hs hg, hs]; simp [coversHoist, hp]
  | some g =>
    rw [widen_of_armed hs hg]
    simpa [coversHoist, hp] using ((armedGroupOf_eq_some_iff s h g).1 hg).1

/-- Widening changes the scope alone (R21). -/
theorem widen_kind_cause (s : State) (o : StopIssue) : (widen s o).kind = o.kind ∧ (widen s o).cause = o.cause := by
  obtain ⟨_, _, -, -, e⟩ | ⟨-, e⟩ := widen_cases s o <;> rw [e] <;> exact ⟨rfl, rfl⟩

/-- A Present hoist under its own issued order takes the effect of R10, or is tripped by the collapse of the lane. -/
theorem liveAt_issueStop {s : State} {o : StopIssue} {h : Slot} (hs : o.scope = .hoist h)
    (hp : (cfgAt s h).present = true) :
    liveAt (issueStop s o) h = stoppedLive o (liveAt s h) ∨
      liveAt (issueStop s o) h = { liveAt s h with state := .tripped, lastStopCause := some .stopOverflow } := by
  obtain ⟨hk, hc⟩ := widen_kind_cause s o
  have hlive : stoppedLive (widen s o) (liveAt s h) = stoppedLive o (liveAt s h) := by simp [stoppedLive, hk, hc]
  rw [issueStop, ← live_hoistAt, hoistAt_admitStop, coversHoist_widen hs hp]
  split
  · exact .inl hlive
  · right; simp

/-- A Present hoist under its own HALT is TRIPPED, with the order's cause or STOP_OVERFLOW (R10, R133). -/
theorem halted_issueHoistStop {s : State} {h : Slot} (hp : (cfgAt s h).present = true) (c : CauseKind) (seq : Byte) :
    (liveAt (issueHoistStop s .halt h c seq) h).state = .tripped ∧
      ((liveAt (issueHoistStop s .halt h c seq) h).lastStopCause = some c ∨
        (liveAt (issueHoistStop s .halt h c seq) h).lastStopCause = some .stopOverflow) := by
  rcases liveAt_issueStop (s := s) (o := partStop .halt (.hoist h) (some c) seq (some h)) rfl hp with e | e <;>
    rw [issueHoistStop, e] <;> simp [stoppedLive, stoppedHoist, partStop]

@[simp] theorem cfgAt_issueStop (s : State) (o : StopIssue) (h : Slot) : cfgAt (issueStop s o) h = cfgAt s h :=
  cfgAt_admitStop s _ h

/-! ## The arrival rule (R16) -/

/-- Within the Arrival Window on either side of the target (R16). -/
theorem distance_le_iff (a b w : Nat) : distance a b ≤ w ↔ (a : Int) - b ≤ w ∧ (b : Int) - a ≤ w := by
  unfold distance
  omega

theorem arrivalRule_of_other {s : State} {h : Slot} {r : Reading} {g : Grant} (hg : (liveAt s h).grant = some g)
    (ht : r.tagEcho ≠ g.tag) : arrivalRule s h r = s := by
  simp [arrivalRule, hg, ht]

theorem arrivalRule_of_near {s : State} {h : Slot} {r : Reading} {g : Grant} (hg : (liveAt s h).grant = some g)
    (ht : r.tagEcho = g.tag) (hn : distance r.position g.target ≤ s.line.arrivalWindow) :
    arrivalRule s h r = arrive s h r.seq := by
  simp [arrivalRule, hg, ht, hn]

theorem arrivalRule_of_far {s : State} {h : Slot} {r : Reading} {g : Grant} (hg : (liveAt s h).grant = some g)
    (ht : r.tagEcho = g.tag) (hn : ¬distance r.position g.target ≤ s.line.arrivalWindow) :
    arrivalRule s h r = missArrival s h r.seq := by
  simp [arrivalRule, hg, ht, hn]

/-- Settles O33: a report with the grant's tag is an arrival or a miss by its distance from the target, and each of the two
asks whether the hoist is a member of an armed group. -/
theorem arrivalOrMiss : Obligations.ArrivalOrMiss := by
  intro s h r g hg near arrived
  have hnear : distance r.position g.target ≤ s.line.arrivalWindow ↔ near := distance_le_iff _ _ _
  refine ⟨arrivalRule_of_other hg, fun ht hn k hk => ?_, fun ht hn hk => ?_, fun hk ht hn => ?_, fun hk ht hn => ?_⟩
  · rw [arrivalRule_of_near hg ht (hnear.2 hn)]
    simp [arrive, hk, arrived]
  · rw [arrivalRule_of_far hg ht (mt hnear.1 hn)]
    obtain ⟨k, hk'⟩ := Option.ne_none_iff_exists'.1 hk
    simp [missArrival, hk', issueHoistStop, partStop]
  · rw [arrivalRule_of_near hg ht (hnear.2 hn)]
    have : arrive s h r.seq = arrived := by simp [arrive, hk, arrived]
    rw [this]
    exact ⟨liveAt_changeLive_self s h _, fun k hne => by rw [hoistAt_changeLive, if_neg hne], rfl⟩
  · rw [arrivalRule_of_far hg ht (mt hnear.1 hn)]
    have : missArrival s h r.seq = raiseNotice (setHoistState s h .ready) .miss
        { hoist := some h, group := ownGroup s h, code := 0x00#8, detail := 0x00#8, relatedSeq := r.seq } := by
      simp [missArrival, hk, ownGroup_eq_groupOf]
    rw [this]
    refine ⟨by simp [setHoistState], fun k hne => ?_, ?_, ?_⟩
    · rw [hoistAt_raiseNotice, setHoistState, hoistAt_changeLive, if_neg hne]
    · exact notices_raiseNotice_congr (s := s) (t := setHoistState s h .ready) rfl rfl rfl _ _
    · rw [raiseNotice_eq_with]
      rfl

/-! ## The drive-state rule (R15) -/

/-- A TRIPPED hoist stays as it is, whatever is reported. -/
theorem driveStateRule_of_tripped {s : State} {h : Slot} (hb : (liveAt s h).state = .tripped) (r : Reading)
    (d : DriveState) : driveStateRule s h r d = s := by
  cases d <;> simp [driveStateRule, hb]

/-- HALTED and FAULT halt the hoist from every state but TRIPPED. -/
theorem driveStateRule_of_stopped {s : State} {h : Slot} (hb : (liveAt s h).state ≠ .tripped) (r : Reading) :
    driveStateRule s h r .halted = issueHoistStop s .halt h .driveHalt r.seq ∧
      driveStateRule s h r .fault = issueHoistStop s .halt h .driveFault r.seq := by
  cases e : (liveAt s h).state <;> simp_all [driveStateRule]

/-- The row of an OFFLINE hoist. -/
theorem driveStateRule_of_offline {s : State} {h : Slot} (hb : (liveAt s h).state = .offline) (r : Reading) :
    (∀ d, d = .idle ∨ d = .held → driveStateRule s h r d = setHoistState s h .ready) ∧
      driveStateRule s h r .moving = uncommandedRule (setHoistState s h .ready) h r.seq := by
  refine ⟨fun d hd => ?_, by simp [driveStateRule, hb]⟩
  rcases hd with rfl | rfl <;> simp [driveStateRule, hb]

/-- The rows of a READY and of a HELD hoist. -/
theorem driveStateRule_of_standing {s : State} {h : Slot}
    (hb : (liveAt s h).state = .ready ∨ (liveAt s h).state = .held) (r : Reading) :
    (∀ d, d = .idle ∨ d = .held → driveStateRule s h r d = s) ∧
      driveStateRule s h r .moving = uncommandedRule s h r.seq := by
  refine ⟨fun d hd => ?_, ?_⟩
  · rcases hd with rfl | rfl <;> rcases hb with hb | hb <;> simp [driveStateRule, hb]
  · rcases hb with hb | hb <;> simp [driveStateRule, hb]

/-- The row of a MOVING hoist. -/
theorem driveStateRule_of_moving {s : State} {h : Slot} (hb : (liveAt s h).state = .moving) (r : Reading) :
    driveStateRule s h r .idle = arrivalRule s h r ∧ driveStateRule s h r .moving = s ∧
      driveStateRule s h r .held = setHoistState s h .held := by
  simp [driveStateRule, hb]

/-- Uncommanded motion halts a member of an armed group, and is nothing outside (R17). -/
theorem uncommandedRule_eq (s : State) (h : Slot) (seq : Byte) :
    uncommandedRule s h seq = if armedGroupOf s h = none then s else issueHoistStop s .halt h .uncommanded seq := by
  unfold uncommandedRule
  cases armedGroupOf s h <;> simp

/-- Settles O32: row by row of the table of R15; what a HALT leaves is the effect of an issued order on its own hoist. -/
theorem driveStateRuleTable : Obligations.DriveStateRuleTable := by
  intro s h r d hp before next after halted became uncommanded
  have hlone : armedGroupOf (setHoistState s h .ready) h = armedGroupOf s h := armedGroupOf_changeLive s h _ h
  have hpready : (cfgAt (setHoistState s h .ready) h).present = true := by simpa [setHoistState] using hp
  have hready : (liveAt (setHoistState s h .ready) h).state = .ready := by simp [setHoistState]
  have hrule : ∀ u : State, armedGroupOf u h = armedGroupOf s h → uncommandedRule u h r.seq = uncommanded u :=
    fun u hu => by rw [uncommandedRule_eq, hu]; rfl
  refine ⟨fun hb => driveStateRule_of_tripped hb r d, fun hb hd => ?_, fun hb hd => ?_, fun hb => ⟨fun hd => ?_, fun hd => ?_⟩,
    fun hb => ⟨fun hd => ?_, fun hd => ?_⟩, fun hb => ⟨fun hd => ?_, fun hd => ?_, fun hd => ?_⟩, fun hd => ?_,
    fun hb hd => ?_, fun hb hd => ?_, fun hb hd hg => ?_, fun hb hd => ?_, fun hb hd => ?_⟩
  · subst hd; exact (driveStateRule_of_stopped hb r).1
  · subst hd; exact (driveStateRule_of_stopped hb r).2
  · exact (driveStateRule_of_offline hb r).1 d hd
  · subst hd; exact (driveStateRule_of_offline hb r).2.trans (hrule _ hlone)
  · exact (driveStateRule_of_standing hb r).1 d hd
  · subst hd; exact (driveStateRule_of_standing hb r).2.trans (hrule _ rfl)
  · subst hd; exact (driveStateRule_of_moving hb r).1
  · subst hd; exact (driveStateRule_of_moving hb r).2.1
  · subst hd; exact (driveStateRule_of_moving hb r).2.2
  · by_cases hb : before = .tripped
    · simp only [after, next, driveStateRule_of_tripped hb]; exact hb
    · rcases hd with rfl | rfl
      · simp only [after, next, (driveStateRule_of_stopped hb r).1, (halted_issueHoistStop hp _ _).1]
      · simp only [after, next, (driveStateRule_of_stopped hb r).2, (halted_issueHoistStop hp _ _).1]
  · rcases hd with hd | ⟨rfl, hg⟩
    · simp only [after, next, (driveStateRule_of_offline hb r).1 d hd, hready]
    · simp only [after, next, (driveStateRule_of_offline hb r).2, uncommandedRule_eq, hlone, hg, if_true, hready]
  · rcases hd with hd | ⟨rfl, hg⟩
    · simp only [after, next, (driveStateRule_of_standing hb r).1 d hd, before]
    · simp only [after, next, (driveStateRule_of_standing hb r).2, uncommandedRule_eq, hg, if_true, before]
  · subst hd
    have hnext : ∃ u, (cfgAt u h).present = true ∧ next = issueHoistStop u .halt h .uncommanded r.seq := by
      rcases hb with hb | hb
      · exact ⟨_, hpready, by
          simp only [next, (driveStateRule_of_offline hb r).2, uncommandedRule_eq, hlone, hg, if_false]⟩
      · exact ⟨s, hp, by simp only [next, (driveStateRule_of_standing hb r).2, uncommandedRule_eq, hg, if_false]⟩
    obtain ⟨u, hu, e⟩ := hnext
    simp only [after, e]
    exact halted_issueHoistStop hu _ _
  · subst hd
    simp only [next, (driveStateRule_of_stopped hb r).1]
    exact (halted_issueHoistStop hp _ _).2
  · subst hd
    simp only [next, (driveStateRule_of_stopped hb r).2]
    exact (halted_issueHoistStop hp _ _).2

/-! ## The load rule (R18, R19) -/

/-- The load rule stores the condition of R18 and takes the action of R19 against the hoist's state. -/
theorem loadRule_eq (s : State) (h : Slot) (r : Reading) :
    loadRule s h r =
      let c := loadConditionOf (effectiveLimits s h) r.load
      let kept := changeLive s h fun l => { l with loadCondition := c }
      match loadAction c (liveAt s h).state with
      | some (k, cause) => issueHoistStop kept k h cause r.seq
      | none => kept := by
  unfold loadRule
  rfl

/-- OVER halts a READY, MOVING or HELD hoist, UNDER holds a MOVING one, and nothing else acts (R19). -/
theorem loadAction_eq (c : LoadCondition) (st : HoistState) :
    loadAction c st =
      if c = .over ∧ (st = .ready ∨ st = .moving ∨ st = .held) then some (.halt, .overload)
      else if c = .under ∧ st = .moving then some (.hold, .underload)
      else none := by
  cases c <;> cases st <;> rfl

/-- The load rule leaves the condition in the hoist's record, with an order or without. -/
theorem loadCondition_loadRule (s : State) (h : Slot) (r : Reading) :
    (liveAt (loadRule s h r) h).loadCondition = loadConditionOf (effectiveLimits s h) r.load := by
  rw [loadRule_eq]
  dsimp only
  split
  · rw [(leavesReadings_issueHoistStop _ _ _ _ _).loadCondition]; simp
  · simp

/-- Settles O31: the drive-state rule leaves the effective limits alone, so the condition is that of the limits at the
SAMPLE, and nothing behind the load rule changes it. -/
theorem loadConditionFollowsWindow : Obligations.LoadConditionFollowsWindow := by
  intro s h r d hd w condition ruled kept st isOver isUnder
  have hstored : effectiveLimits (storeReading s h r) h = w := by
    have hcfg : cfgAt (storeReading s h r) h = cfgAt s h := by
      rw [storeReading_eq]; exact cfgAt_changeLive s h h _
    simp only [effectiveLimits, hcfg, w]
    rw [storeReading_eq]
    rfl
  have hlimits : effectiveLimits ruled h = w :=
    ((leavesReadings_driveStateRule _ h r d).effectiveLimits h).trans hstored
  have hcond : loadConditionOf (effectiveLimits ruled h) r.load = condition := by rw [hlimits]; rfl
  have hstate : stateAndLoad (storeReading s h r) h r = loadRule ruled h r := by simp [stateAndLoad, hd, ruled]
  have hload : loadRule ruled h r =
      match loadAction condition st with
      | some (k, cause) => issueHoistStop kept k h cause r.seq
      | none => kept := by rw [loadRule_eq, hcond]
  refine ⟨?_, fun ho => ?_, fun hu => ?_, fun ho hu => ?_⟩
  · unfold applySample
    rw [(leavesReadings_examineRound _ h _).loadCondition, hstate, loadCondition_loadRule, hcond]
  · rw [hstate, hload, loadAction_eq, if_pos ho]
    rfl
  · have hno : ¬isOver := fun ho => by
      have := ho.1.symm.trans hu.1; cases this
    rw [hstate, hload, loadAction_eq, if_neg hno, if_pos hu]
    rfl
  · rw [hstate, hload, loadAction_eq, if_neg ho, if_neg hu]

/-! ## The stale expiry (R150) -/

/-- A slot's own number names it (R1). -/
@[simp] theorem namedSlot_val (h : Slot) : namedSlot h.val = some h := by simp [namedSlot]

/-- The stale expiry is the row of R150 for the hoist's state. -/
theorem staleExpire_eq_afterStale (s : State) (h : Slot) : staleExpire s h = afterStale s h := by
  have hgroup : ∀ u, (∀ k, cfgAt u k = cfgAt s k) → groupOf u h = ownGroup s h := fun u hu => groupOf_congr hu h
  have harm : armedGroupOf (setHoistState s h .offline) h = armedGroupOf s h := armedGroupOf_changeLive s h _ h
  have hgone : ∀ k, cfgAt (setHoistState s h .offline) k = cfgAt s k := fun k => cfgAt_changeLive s h k _
  have hheld : ∀ o, groupOf (issueStop (setHoistState s h .offline) o) h = ownGroup s h := fun o =>
    hgroup _ fun k => (cfgAt_issueStop _ o k).trans (hgone k)
  have hmoved : ∀ o, groupOf (issueStop s o) h = ownGroup s h := fun o => hgroup _ fun k => cfgAt_issueStop s o k
  unfold staleExpire staleStop afterStale raiseStale
  cases hst : (liveAt s h).state
  case offline => simp
  case tripped => simp [hgroup s fun _ => rfl]
  case moving => simp [issueHoistStop, hmoved, partStop]
  all_goals
    cases hg : armedGroupOf s h with
    | none => simp [hgroup _ hgone]; rfl
    | some g => simp [issueHoistStop, hheld, partStop]; rfl

/-- Settles O59: the command is the count's last step, and its effect is the row of R150 for the state as it was. -/
theorem staleExpiryActsByState : Obligations.StaleExpiryActsByState := by
  refine ⟨fun s n hn => ?_, fun s h => ⟨fun hno => ?_, fun hp hdue => ?_⟩⟩
  · show execStaleExpiry n s = _
    have : ¬n < 64 := by omega
    simp [execStaleExpiry, namedSlot, this]
  · show execStaleExpiry h.val s = _
    have : staleDue s h = false := by
      simp only [staleDue, Bool.and_eq_false_iff, beq_eq_false_iff_ne]
      exact hno
    simp [execStaleExpiry, this]
  · intro aged gone stale order outcome
    have hlive : liveAt aged h = { liveAt s h with sampleAge := s.line.ageLimit } := liveAt_changeLive_self s h _
    have hcfg : ∀ k, cfgAt aged k = cfgAt s k := fun k => cfgAt_changeLive s h k _
    have hown : ownGroup aged h = ownGroup s h := groupOf_congr hcfg h
    have harm : armedGroupOf aged h = armedGroupOf s h := armedGroupOf_changeLive s h _ h
    have hgone : (changeLive aged h fun l => { l with state := .offline }) = gone := changeLive_changeLive s h _ _
    have hexec : exec (.staleExpiry h.val) s = .next (finish (afterStale aged h)) := by
      show execStaleExpiry h.val s = _
      have : staleDue s h = true := by simp [staleDue, hp, hdue]
      simp only [execStaleExpiry, namedSlot_val, this, if_true, staleExpire_eq_afterStale, aged]
    have hrow : ∀ u, afterStale aged h = u → outcome u := fun u e => by rw [← e]; exact hexec
    refine ⟨fun hst => hrow _ ?_, fun hst => hrow _ ?_, fun hst => hrow _ ?_, fun hst => ⟨fun hg => hrow _ ?_, fun hg => hrow _ ?_⟩⟩
    · simp [afterStale, hlive, hst]
    · simp [afterStale, hlive, hst, hown, stale]
    · simp [afterStale, hlive, hst, hown, stale, order]
    · rcases hst with hst | hst <;> simp [afterStale, hlive, hst, hown, harm, hg, hgone, stale]
    · rcases hst with hst | hst <;> simp [afterStale, hlive, hst, hown, harm, hg, hgone, stale, order]

end Sys2Proof.Machine
end


/-! # Sitting 1: the Filter Bank and the arrivals -/
section

namespace Sys2Proof.Machine

/-! ## Library facts about lists -/

/-- The least element that satisfies a predicate is the first one of an increasing list. -/
theorem find?_eq_some_of_least {n : Nat} {l : List (Fin n)} {p : Fin n → Bool} {i : Fin n} (hl : l.Pairwise (· < ·))
    (hi : i ∈ l) (hp : p i = true) (hleast : ∀ j ∈ l, p j = true → i ≤ j) : l.find? p = some i := by
  cases h : l.find? p with
  | none => exact absurd hp (List.find?_eq_none.1 h i hi)
  | some j =>
    obtain ⟨hj, before, behind, rfl, hno⟩ := List.find?_eq_some_iff_append.1 h
    have hij : i ≤ j := hleast j (by simp) hj
    rcases List.mem_append.1 hi with hb | hb
    · exact absurd hp (by simpa using hno i hb)
    · rcases List.mem_cons.1 hb with rfl | hb
      · rfl
      · have hlt : j < i := (List.pairwise_cons.1 (List.pairwise_append.1 hl).2.1).1 i hb
        exact absurd hij (not_le.2 hlt)

/-- Mapping the elements that pass a test is a `filterMap`. -/
theorem map_filter_eq_filterMap {α β : Type} (p : α → Bool) (f : α → β) (l : List α) :
    (l.filter p).map f = l.filterMap fun x => if p x then some (f x) else none := by
  induction l with
  | nil => rfl
  | cons x xs ih => cases hp : p x <;> simp [hp, ih]

/-! ## Addresses and notices (R31, R45) -/

/-- The group addresses are 0xF000 to 0xF00F (R31). -/
theorem addrClass_eq_group_iff (a : LineAddr) (g : GroupNo) :
    addrClass a = .group g ↔
      (0xF000 ≤ a.toNat ∧ a.toNat ≤ 0xF00F) ∧ g = Fin.ofNat 16 (a.toNat - 0xF000) := by
  unfold addrClass
  split
  · next h =>
    refine ⟨nofun, fun e => ?_⟩
    rw [h] at e
    exact absurd e.1.1 (by decide)
  · split
    · next h => exact ⟨nofun, fun e => by omega⟩
    · split
      · next h1 h2 =>
        rw [AddrClass.group.injEq, eq_comm]
        exact ⟨fun e => ⟨⟨by omega, h2⟩, e⟩, fun e => e.2⟩
      · next h =>
        refine ⟨fun e => ?_, fun e => absurd e.1.2 h⟩
        repeat' split at e
        all_goals cases e

/-- A group address is no device address (R31). -/
theorem slotOfAddr_of_group (s : State) {a : LineAddr} (h : 0xF000 ≤ a.toNat) : slotOfAddr s a = none := by
  have : isDevice a = false := by
    simp only [isDevice, Bool.and_eq_false_iff, decide_eq_false_iff_not]
    omega
  simp [slotOfAddr, this]

/-- The parties of a notice about a frame's Dest: the slot it maps to, and the group address's group or the group of the
slot's hoist (R45, R7). -/
theorem destParties_eq (s : State) (a : LineAddr) :
    destParties s a = (slotOfAddr s a,
      if 0xF000 ≤ a.toNat ∧ a.toNat ≤ 0xF00F then some (Fin.ofNat 16 (a.toNat - 0xF000))
      else (slotOfAddr s a).bind (ownGroup s)) := by
  unfold destParties
  split
  · next g hg =>
    obtain ⟨hr, rfl⟩ := (addrClass_eq_group_iff a g).1 hg
    rw [if_pos hr, slotOfAddr_of_group s hr.1]
  · next hno =>
    have hr : ¬(0xF000 ≤ a.toNat ∧ a.toNat ≤ 0xF00F) := fun hr =>
      hno _ ((addrClass_eq_group_iff a _).2 ⟨hr, rfl⟩)
    rw [if_neg hr]
    cases slotOfAddr s a <;> rfl

theorem LeavesReadings.destParties {s t : State} (h : LeavesReadings s t) (a : LineAddr) :
    destParties t a = destParties s a := by
  have hown : ownGroup t = ownGroup s := funext h.groupOf
  simp only [destParties_eq, h.slotOfAddr, hown]

/-! ## Matching and dropping (R163, R164) -/

/-- A frame is a HOLD or a HALT by its Kind (R44 step 1). -/
theorem stopKindOf_isNone (f : Frame) : (stopKindOf f).isNone = true ↔ f.kind ≠ 0x23#8 ∧ f.kind ≠ 0x24#8 := by
  unfold stopKindOf kindHold kindHalt
  split
  · next h => simp [h]
  · next h => split <;> simp_all

theorem mem_hitSet (s : State) (f : Frame) (d : Direction) (i : FilterNo) :
    i ∈ hitSet s f d ↔ filterMatches (s.filters.get i) f d = true := by
  simp [hitSet, allFilters]

/-- The drop decision of R164. -/
theorem filterDrops_iff (s : State) (f : Frame) (d : Direction) : filterDrops s f d = true ↔ IsDroppedBy s f d := by
  unfold filterDrops isDropped
  rw [Bool.and_eq_true, stopKindOf_isNone, List.any_eq_true]
  simp only [mem_hitSet, beq_iff_eq]

theorem hitSet_of_noFilter {s : State} (h : NoFilterEnabled s) (f : Frame) (d : Direction) : hitSet s f d = [] := by
  simp [hitSet, allFilters, filterMatches, h]

/-- With no hit the Filter Bank does nothing (R164). -/
theorem filterBank_of_noHit {s : State} {f : Frame} {d : Direction} (h : hitSet s f d = []) : filterBank s f d = s := by
  simp [filterBank, h, filterNotice]

/-- The window positions of a mask, and so the bytes that a filter selects, in increasing position (R163). -/
theorem selectedBytes_eq (t : Filter) (f : Frame) :
    selectedBytes t f = (List.finRange 32).filterMap fun j =>
      if t.mask.getLsbD j.val then some ((frameHead f).getD (t.offset + j.val) 0x00#8) else none := by
  unfold selectedBytes maskPositions
  rw [map_filter_eq_filterMap, ← List.map_coe_finRange_eq_range, List.filterMap_map]
  rfl

theorem windowFits_iff (t : Filter) (f : Frame) :
    windowFits t f = true ↔
      ∀ j : Fin 32, t.mask.getLsbD j.val = true → t.offset + j.val < (frameHead f).length := by
  simp only [windowFits, maskPositions, List.all_eq_true, List.mem_filter, List.mem_range,
    length_frameHead, frameLen]
  refine ⟨fun h j hj => ?_, fun h j hj => decide_eq_true ?_⟩
  · have hfits := of_decide_eq_true (h j.val ⟨j.isLt, hj⟩)
    omega
  · have hfits : t.offset + j < 7 + f.payload.length := h ⟨j, hj.1⟩ hj.2
    omega

theorem seesDirection_iff (x : FilterDirection) (d : Direction) :
    seesDirection x d = true ↔ x = .both ∨ (x = .down ∧ d = .down) ∨ (x = .up ∧ d = .up) := by
  cases x <;> cases d <;> simp [seesDirection]

theorem filterMatches_iff (t : Filter) (f : Frame) (d : Direction) :
    filterMatches t f d = true ↔
      t.enabled = true ∧
      (t.direction = .both ∨ (t.direction = .down ∧ d = .down) ∨ (t.direction = .up ∧ d = .up)) ∧
      (t.kindMatch = true → f.kind = t.kind) ∧
      (∀ j : Fin 32, t.mask.getLsbD j.val = true → t.offset + j.val < (frameHead f).length) ∧
      crc ((List.finRange 32).filterMap fun j =>
        if t.mask.getLsbD j.val then some ((frameHead f).getD (t.offset + j.val) 0x00#8) else none) = t.expected := by
  have hkind : (!t.kindMatch || f.kind == t.kind) = true ↔ (t.kindMatch = true → f.kind = t.kind) := by
    cases t.kindMatch <;> simp
  simp only [filterMatches, Bool.and_eq_true, seesDirection_iff, windowFits_iff, hkind, selectedBytes_eq, beq_iff_eq,
    and_assoc]

/-! ## The actions of the hit set (R164, R165, R168) -/

/-- The effect of one hit filter, read from the filters and the Address Map as they stood at the arrival (R165). -/
def hitEffect (s : State) (f : Frame) (d : Direction) (hits : List FilterNo) (u : State) (i : FilterNo) : State :=
  match stopAction (s.filters.get i) with
  | none => u
  | some (k, sc) =>
    admitStop u
      { kind := k, scope := sc, origin := .part, relatedSeq := f.seq, cause := some .filter
        hoist := filterHoist s f d, hits := some hits
        capture := if (s.filters.get i).capture then some (captureOf f) else none }

theorem filterHoist_eq (s : State) (f : Frame) (d : Direction) :
    filterHoist s f d = slotOfAddr s (if d = .down then f.dest else f.src) := by
  cases d <;> simp [filterHoist]

/-- The stop actions change neither the filters nor the Address Map, so each is the effect read at the arrival. -/
theorem filterStops_eq {s u : State} (h : LeavesReadings s u) (f : Frame) (d : Direction) (hits l : List FilterNo) :
    l.foldl (filterStop f d hits) u = l.foldl (hitEffect s f d hits) u := by
  induction l generalizing u with
  | nil => rfl
  | cons i is ih =>
    have hone : filterStop f d hits u i = hitEffect s f d hits u i := by
      simp only [filterStop, hitEffect, filterHoist_eq, h.filters, h.slotOfAddr] <;> rfl
    rw [List.foldl_cons, List.foldl_cons, ih (h.trans (leavesReadings_filterStop f d hits u i)), hone]

theorem filterBank_eq (s : State) (f : Frame) (d : Direction) :
    filterBank s f d =
      filterNotice ((hitSet s f d).foldl (hitEffect s f d (hitSet s f d)) s) f d (hitSet s f d) := by
  rw [filterBank, filterStops_eq (.refl s)]

/-- The group that FILTER names: that of the issuing hoist, or downstream the group that the Dest addresses (R168). -/
theorem filterGroup_eq (s : State) (f : Frame) (d : Direction) :
    filterGroup s f d =
      match (filterHoist s f d).bind (ownGroup s) with
      | some g => some g
      | none =>
        if d = .down ∧ 0xF000 ≤ f.dest.toNat ∧ f.dest.toNat ≤ 0xF00F then
          some (Fin.ofNat 16 (f.dest.toNat - 0xF000)) else none := by
  have hown : ownGroup s = groupOf s := rfl
  unfold filterGroup
  rw [hown]
  cases (filterHoist s f d).bind (groupOf s) with
  | some g => rfl
  | none =>
    cases d with
    | up => exact (if_neg (fun h => nomatch h.1)).symm
    | down =>
      by_cases hr : 0xF000 ≤ f.dest.toNat ∧ f.dest.toNat ≤ 0xF00F
      · rw [(addrClass_eq_group_iff f.dest _).2 ⟨hr, rfl⟩]
        exact (if_pos ⟨rfl, hr⟩).symm
      · rw [if_neg fun h => hr h.2]
        cases hc : addrClass f.dest with
        | group g => exact absurd ((addrClass_eq_group_iff f.dest g).1 hc).1 hr
        | invalid | device | foreign | interlock | broadcast => rfl

theorem filterDetail_eq (d : Direction) (dropped : Bool) :
    filterDetail d dropped = (if d = .down then 0x01#8 else 0x03#8) + (if dropped = true then 0x01#8 else 0x00#8) := by
  cases d <;> cases dropped <;> rfl

theorem isMarker_iff (t : Filter) : isMarker t = true ↔ t.action = .mark ∨ t.action = .drop := by
  simp [isMarker]

/-- Settles O28: the filters and the map stand still while the stop actions are admitted, so every filter acts as it stood
at the arrival, and FILTER is raised for the first marker of the increasing hit set. -/
theorem filtersMatchAndAct : Obligations.FiltersMatchAndAct := by
  refine ⟨filterMatches_iff, fun s f d => ?_⟩
  intro hits hoist act stopped marks dropping
  have hhits : hitSet s f d = hits := rfl
  have hhoist : filterHoist s f d = hoist := filterHoist_eq s f d
  have hact : hitEffect s f d hits = act := by
    funext u i
    simp only [hitEffect, act, hhoist, captureOf, stopAction]
    cases (s.filters.get i).action <;> rfl
  have hbank : filterBank s f d = filterNotice stopped f d hits := by
    rw [filterBank_eq, hhits, hact]
  have hleaves : LeavesReadings s stopped := by
    have := leavesReadings_filterStops f d hits hits s
    rwa [filterStops_eq (.refl s), hact] at this
  refine ⟨fun h => filterBank_of_noHit h, fun h => ?_, fun i hi hm hleast => ?_⟩
  · have hnone : (hits.find? fun i => isMarker (stopped.filters.get i)) = none := by
      rw [List.find?_eq_none, hleaves.filters]
      exact fun i hi hm => h i hi ((isMarker_iff _).1 hm)
    rw [hbank, filterNotice, hnone]
  · have hsorted : hits.Pairwise (· < ·) := (List.pairwise_lt_finRange 16).filter _
    have hfirst : (hits.find? fun i => isMarker (stopped.filters.get i)) = some i := by
      rw [hleaves.filters]
      exact find?_eq_some_of_least hsorted hi ((isMarker_iff _).2 hm) fun j hj hjm =>
        hleast j hj ((isMarker_iff _).1 hjm)
    have hparty : filterHoist stopped f d = hoist := by
      rw [filterHoist_eq, hleaves.slotOfAddr]
    have hown : ownGroup stopped = ownGroup s := funext hleaves.groupOf
    have hdrop : isDropped stopped f hits = true ↔ dropping = true ∧ f.kind ≠ 0x23#8 ∧ f.kind ≠ 0x24#8 := by
      rw [isDropped, hleaves.filters, Bool.and_eq_true, stopKindOf_isNone]
    rw [hbank, filterNotice, hfirst]
    simp only [hparty, filterGroup_eq, filterDetail_eq, hown, hdrop] <;> rfl

/-! ## U_PORT_ARRIVAL (R35, R44 to R47) -/

theorem exec_uPortArrival (s : State) (f : Frame) (hlen : f.payload.length ≤ 40) :
    exec (.uPortArrival (frameContent f)) s = .next (finish (takeDownstream s f)) := by
  show execUPortArrival (frameContent f) s = _
  simp [execUPortArrival, receive_frameContent f hlen]

theorem exec_dPortArrival (s : State) (f : Frame) (hlen : f.payload.length ≤ 40) :
    exec (.dPortArrival (frameContent f)) s = .next (finish (takeUpstream s f)) := by
  show execDPortArrival (frameContent f) s = _
  simp [execDPortArrival, receive_frameContent f hlen]

/-- Whether the Classifier lets a frame wait in the Intake Buffer (R44). -/
def waitsInIntake (c : FrameClass) : Prop :=
  c = .passThrough ∨ c = .move ∨ (∃ g, c = .gmove g) ∨ (∃ g, c = .go g) ∨ c = .poll ∨ c = .mgmt

theorem classify_of_waits {f : Frame} (h : waitsInIntake (classOf f)) (s : State) :
    classify s f = offerIntake s f := by
  unfold classify
  rcases h with e | e | ⟨g, e⟩ | ⟨g, e⟩ | e | e <;> rw [e]

/-- Settles O26: the Filter Bank leaves the Intake, the epoch and the parties of the notices as they are, and the
Classifier's decision is that of the frame alone. -/
theorem uPortFrameIsRouted : Obligations.UPortFrameIsRouted := by
  intro s f hlen reloaded filtered leaves hoist group waits
  have hleaves : LeavesReadings reloaded filtered := leavesReadings_filterBank _ f .down
  have hintake : filtered.intake = s.intake := hleaves.intake
  have hepoch : filtered.silence.epoch = s.silence.epoch := by rw [hleaves.silence]
  have hparties : destParties filtered f.dest = (hoist, group) := by
    rw [hleaves.destParties, destParties_eq]
    rfl
  have hrow : ∀ u, takeDownstream s f = u → leaves u := fun u e => by rw [← e]; exact exec_uPortArrival s f hlen
  have hdropped : IsDroppedBy s f .down → takeDownstream s f = filtered := fun hd => by
    simp only [takeDownstream, (filterDrops_iff s f .down).2 hd, if_true]
    rfl
  have hpassed : ¬IsDroppedBy s f .down → takeDownstream s f = classify filtered f := fun hd => by
    simp only [takeDownstream, if_neg (mt (filterDrops_iff s f .down).1 hd)]
    rfl
  refine ⟨fun hno => filterBank_of_noHit (hitSet_of_noFilter hno f .down), hintake, hleaves.silence,
    fun hd => hrow _ (hdropped hd), fun hd => ⟨fun hw hroom => hrow _ ?_, fun hw hfull => hrow _ ?_,
      fun r hc => hrow _ ?_, fun hc => hrow _ ?_⟩⟩
  · rw [hpassed hd, classify_of_waits hw, offerIntake, hintake, if_pos hroom, hepoch]
  · rw [hpassed hd, classify_of_waits hw, offerIntake, hintake, if_neg (by omega), hparties]
  · rw [hpassed hd, classify, hc]
    simp only [refuseFrame, hparties]
  · rw [hpassed hd, classify, hc]

/-! ## D_PORT_ARRIVAL (R35, R180) -/

/-- The relay behind the Sample Monitor, in a state with the Relay Queue, the map and the groups of the arrival. -/
theorem offerRelay_eq {s t : State} (hqueue : t.relayQueue = s.relayQueue) (hmap : t.addressMap = s.addressMap)
    (hcfg : ∀ h, cfgAt t h = cfgAt s h) (f : Frame) :
    (s.relayQueue.length < 16 → offerRelay t f = { t with relayQueue := s.relayQueue ++ [f] }) ∧
    (16 ≤ s.relayQueue.length → offerRelay t f = raiseNotice t .relayLoss
      { hoist := slotOfAddr s f.src, group := (slotOfAddr s f.src).bind (ownGroup s), code := 0x00#8,
        detail := f.kind, relatedSeq := f.seq }) := by
  have hown : groupOf t = ownGroup s := funext (groupOf_congr hcfg)
  have hslot : slotOfAddr t f.src = slotOfAddr s f.src := by simp [slotOfAddr, hmap]
  refine ⟨fun hroom => ?_, fun hfull => ?_⟩
  · rw [offerRelay, hqueue, if_pos hroom]
  · rw [offerRelay, hqueue, if_neg (by omega), hslot, hown]

/-- Settles O29: the Sample Monitor and the sink take SAMPLEs alone, and the Filter Bank leaves the Relay Queue as it is. -/
theorem dPortFrameIsRelayed : Obligations.DPortFrameIsRelayed := by
  intro s f hlen hkind filtered leaves
  have hleaves : LeavesReadings s filtered := leavesReadings_filterBank s f .up
  have hmonitor : sampleMonitor filtered f = filtered := by simp [sampleMonitor, kindSample, hkind]
  have hsunk : isSunk s f = false := by simp [isSunk, kindSample, hkind]
  have htake : takeUpstream s f = if filterDrops s f .up = true then filtered else offerRelay filtered f := by
    simp only [takeUpstream, hsunk, Bool.or_false]
    rw [show filterBank s f .up = filtered from rfl, hmonitor]
  have hrow : ∀ u, takeUpstream s f = u → leaves u := fun u e => by rw [← e]; exact exec_dPortArrival s f hlen
  obtain ⟨hroom, hfull⟩ := offerRelay_eq hleaves.relayQueue hleaves.addressMap hleaves.cfg f
  refine ⟨fun hno => filterBank_of_noHit (hitSet_of_noFilter hno f .up), fun hd => hrow _ ?_,
    fun hd => ⟨fun hl => hrow _ ?_, fun hl => hrow _ ?_⟩⟩
  · rw [htake, if_pos ((filterDrops_iff s f .up).2 hd)]
  · rw [htake, if_neg (mt (filterDrops_iff s f .up).1 hd), hroom hl]
  · rw [htake, if_neg (mt (filterDrops_iff s f .up).1 hd), hfull hl]

/-! ## The application of a SAMPLE (R13, R14) -/

/-- A valid reading: its position, load and Drive State are in range (R13). -/
theorem validDrive_eq_some_iff (r : Reading) (d : DriveState) :
    validDrive r = some d ↔ driveStateOf r.driveCode = some d ∧ r.position ≤ 65000 ∧ r.load ≤ 8000 := by
  unfold validDrive
  split
  · next h => simp only [Bool.and_eq_true, decide_eq_true_eq] at h; simp [h]
  · next h =>
    simp only [Bool.and_eq_true, decide_eq_true_eq] at h
    simp only [reduceCtorEq, false_iff, not_and]
    exact fun _ h1 h2 => h ⟨h1, h2⟩

theorem validDrive_eq_none_iff (r : Reading) :
    validDrive r = none ↔ driveStateOf r.driveCode = none ∨ 65000 < r.position ∨ 8000 < r.load := by
  rw [Option.eq_none_iff_forall_not_mem]
  simp only [Option.mem_def, validDrive_eq_some_iff]
  cases h : driveStateOf r.driveCode with
  | none => simp
  | some d =>
    simp only [Option.some.injEq, reduceCtorEq, false_or]
    constructor
    · intro hno; have := hno d; simp only [true_and] at this; omega
    · rintro hd _ ⟨rfl, h1, h2⟩; omega

/-- `t` differs from `s` neither in the surroundings and the configuration nor in what the SAMPLE of the hoist at `h` has
stored but its Load Condition. -/
structure LeavesSample (s t : State) (h : Slot) : Prop where
  surroundings : surroundings t = surroundings s
  cfg : ∀ k, cfgAt t k = cfgAt s k
  position : (liveAt t h).position = (liveAt s h).position
  load : (liveAt t h).load = (liveAt s h).load
  driveState : (liveAt t h).driveState = (liveAt s h).driveState
  sampleAge : (liveAt t h).sampleAge = (liveAt s h).sampleAge
  pollOutstanding : (liveAt t h).pollOutstanding = (liveAt s h).pollOutstanding

theorem LeavesSample.trans {s t u : State} {h : Slot} (h1 : LeavesSample s t h) (h2 : LeavesSample t u h) :
    LeavesSample s u h where
  surroundings := h2.surroundings.trans h1.surroundings
  cfg k := (h2.cfg k).trans (h1.cfg k)
  position := h2.position.trans h1.position
  load := h2.load.trans h1.load
  driveState := h2.driveState.trans h1.driveState
  sampleAge := h2.sampleAge.trans h1.sampleAge
  pollOutstanding := h2.pollOutstanding.trans h1.pollOutstanding

theorem LeavesReadings.leavesSample {s t : State} (h : LeavesReadings s t) (k : Slot) : LeavesSample s t k :=
  ⟨h.surroundings, h.cfg, h.position k, h.load k, h.driveState k, h.sampleAge k, h.pollOutstanding k⟩

/-- The load rule stores the condition of R18 beside the reading. -/
theorem leavesSample_loadRule (s : State) (h : Slot) (r : Reading) : LeavesSample s (loadRule s h r) h := by
  have hkept : LeavesSample s
      (changeLive s h fun l => { l with loadCondition := loadConditionOf (effectiveLimits s h) r.load }) h := by
    constructor <;> simp [surroundings]
  rw [loadRule_eq]
  dsimp only
  split
  · exact hkept.trans ((leavesReadings_issueHoistStop _ _ _ _ _).leavesSample h)
  · exact hkept

theorem leavesSample_applySample (s : State) (h : Slot) (r : Reading) :
    LeavesSample (storeReading s h r) (applySample s h r) h := by
  have hstage : LeavesSample (storeReading s h r) (stateAndLoad (storeReading s h r) h r) h := by
    have hrule : ∀ d, LeavesSample (storeReading s h r) (driveStateRule (storeReading s h r) h r d) h := fun d =>
      (leavesReadings_driveStateRule _ h r d).leavesSample h
    unfold stateAndLoad
    split
    · next d _ => exact (hrule d).trans (leavesSample_loadRule _ h r)
    · exact hrule .fault
  exact hstage.trans ((leavesReadings_examineRound _ h _).leavesSample h)

/-! ### What the Sample Monitor leaves to the relay -/

/-- What of the record of the hoist at `h` the SAMPLE has made, in a state `t` after it. -/
structure HoldsSample (s t : State) (h : Slot) (r : Reading) : Prop where
  sampleAge : (liveAt t h).sampleAge = 0
  pollOutstanding : (liveAt t h).pollOutstanding = false
  pollTimer : t.pollTimers.get h = none
  valid : ∀ d, validDrive r = some d →
    (liveAt t h).position = some r.position ∧ (liveAt t h).load = some r.load ∧ (liveAt t h).driveState = some d
  invalid : validDrive r = none →
    (liveAt t h).position = (liveAt s h).position ∧ (liveAt t h).load = (liveAt s h).load ∧
    (liveAt t h).driveState = some .fault

theorem holdsSample_applySample (s : State) (h : Slot) (r : Reading) : HoldsSample s (applySample s h r) h r := by
  have hl := leavesSample_applySample s h r
  have hstored : liveAt (storeReading s h r) h = storedLive r (liveAt s h) := by rw [liveAt_storeReading, if_pos rfl]
  have htimers : (applySample s h r).pollTimers = (storeReading s h r).pollTimers :=
    congrArg (·.2.2.2.2.2.2) hl.surroundings
  refine ⟨?_, ?_, ?_, fun d hd => ?_, fun hn => ?_⟩
  · rw [hl.sampleAge, hstored]
    unfold storedLive
    split <;> rfl
  · rw [hl.pollOutstanding, hstored]
    unfold storedLive
    split <;> rfl
  · rw [htimers, storeReading_eq]
    simp
  · rw [hl.position, hl.load, hl.driveState, hstored, storedLive_of_valid hd]
    exact ⟨rfl, rfl, rfl⟩
  · rw [hl.position, hl.load, hl.driveState, hstored, storedLive_of_invalid hn]
    exact ⟨rfl, rfl, rfl⟩

/-- The parts of HoldsSample read the hoists and the poll timers alone. -/
theorem HoldsSample.congr {s t u : State} {h : Slot} {r : Reading} (ht : HoldsSample s t h r)
    (hh : u.hoists = t.hoists) (hp : u.pollTimers = t.pollTimers) : HoldsSample s u h r := by
  have hlive : liveAt u h = liveAt t h := liveAt_congr hh h
  obtain ⟨hage, hout, htimer, hvalid, hinvalid⟩ := ht
  exact ⟨by rwa [hlive], by rwa [hlive], by rwa [hp], by rwa [hlive], by rwa [hlive]⟩

/-- The one way in which a SAMPLE leaves the port behind the Sample Monitor. -/
theorem takeUpstream_sample {s : State} {f : Frame} (hkind : f.kind = 0x41#8) {m : State}
    (hmon : sampleMonitor (filterBank s f .up) f = m) :
    takeUpstream s f =
      if IsDroppedBy s f .up ∨ (f.payload.length = 6 ∧ f.dest = 0xFFFE#16 ∧ s.line.ownSampleRelay = .sink) then m
      else offerRelay m f := by
  have hsunk : isSunk s f = true ↔ f.payload.length = 6 ∧ f.dest = 0xFFFE#16 ∧ s.line.ownSampleRelay = .sink := by
    simp only [isSunk, hkind, kindSample, frameLen, interlockAddr, Bool.and_eq_true, beq_iff_eq, true_and, and_assoc]
  simp only [takeUpstream, hmon, Bool.or_eq_true, filterDrops_iff, hsunk]

/-- The relay of a state that holds the Relay Queue, the map and the configuration of the arrival, by R155, R180 and
R181. -/
theorem relayed_of_monitor {s : State} {f : Frame} (hkind : f.kind = 0x41#8) (hlen : f.payload.length ≤ 40) {m : State}
    (hmon : sampleMonitor (filterBank s f .up) f = m) (hqueue : m.relayQueue = s.relayQueue)
    (hmap : m.addressMap = s.addressMap) (hcfg : ∀ h, cfgAt m h = cfgAt s h) :
    let isKept := IsDroppedBy s f .up ∨
      (f.payload.length = 6 ∧ f.dest = 0xFFFE#16 ∧ s.line.ownSampleRelay = .sink)
    let leaves : State → Prop := fun u => exec (.dPortArrival (frameContent f)) s = .next (finish u)
    (isKept → leaves m) ∧
    (¬isKept → s.relayQueue.length < 16 → leaves { m with relayQueue := s.relayQueue ++ [f] }) ∧
    (¬isKept → 16 ≤ s.relayQueue.length → leaves (raiseNotice m .relayLoss
      { hoist := slotOfAddr s f.src, group := (slotOfAddr s f.src).bind (ownGroup s), code := 0x00#8,
        detail := 0x41#8, relatedSeq := f.seq })) := by
  intro isKept leaves
  obtain ⟨hroom, hfull⟩ := offerRelay_eq hqueue hmap hcfg f
  rw [hkind] at hfull
  have hleaves : ∀ u, takeUpstream s f = u → leaves u := fun u e => by rw [← e]; exact exec_dPortArrival s f hlen
  rw [takeUpstream_sample hkind hmon] at hleaves
  refine ⟨fun hk => hleaves _ (if_pos hk), fun hk hl => hleaves _ ?_, fun hk hl => hleaves _ ?_⟩
  · rw [if_neg hk, hroom hl]
  · rw [if_neg hk, hfull hl]

/-- In each case of R155 and R180 the hoist keeps what the SAMPLE has stored. -/
theorem exists_of_relayed {s q m : State} {h : Slot} {r : Reading} {f : Frame} (hm : HoldsSample q m h r)
    (hkind : f.kind = 0x41#8) (hlen : f.payload.length ≤ 40) (hmon : sampleMonitor (filterBank s f .up) f = m) :
    ∃ u, exec (.dPortArrival (frameContent f)) s = .next (finish u) ∧ HoldsSample q u h r := by
  refine ⟨takeUpstream s f, exec_dPortArrival s f hlen, ?_⟩
  rw [takeUpstream_sample hkind hmon]
  split
  · exact hm
  · unfold offerRelay
    split
    · exact hm.congr rfl rfl
    · exact hm.congr (by simp) (by simp)

/-- Settles O30: behind the stored reading no rule of R14 touches what was stored, and no branch of the relay does. -/
theorem sampleIsAppliedAndRelayed : Obligations.SampleIsAppliedAndRelayed := by
  refine ⟨fun s f hkind hlen => ?_, fun s h r => ?_⟩
  · intro filtered reading isKept monitored
    have hleaves : LeavesReadings s filtered := leavesReadings_filterBank s f .up
    have hreading : readingOf f = reading := rfl
    have hrelay : ∀ m, sampleMonitor filtered f = m → m.relayQueue = s.relayQueue → m.addressMap = s.addressMap →
        (∀ h, cfgAt m h = cfgAt s h) → monitored m := fun m => relayed_of_monitor hkind hlen
    have hslot : slotOfAddr filtered f.src = slotOfAddr s f.src := hleaves.slotOfAddr f.src
    have hsix : f.payload.length = 6 → sampleMonitor filtered f =
        match slotOfAddr s f.src with
        | some h => if (cfgAt s h).present then applySample filtered h reading else filtered
        | none => filtered := fun h6 => by
      rw [sampleMonitor, if_neg (by simp [hkind, kindSample]), if_neg (by simp [frameLen, h6]), hslot, hreading]
      cases slotOfAddr s f.src with
      | none => rfl
      | some h => simp only [hleaves.cfg]
    refine ⟨fun hno => filterBank_of_noHit (hitSet_of_noFilter hno f .up), fun h6 => ?_, fun h6 hno => ?_,
      fun h6 h hs hp => ?_⟩
    · have hrefused : sampleMonitor filtered f = refuseFrame filtered f .malformed := by
        rw [sampleMonitor, if_neg (by simp [hkind, kindSample])]
        exact if_pos h6
      refine hrelay _ ?_ ((raiseNotice_relayQueue ..).trans hleaves.relayQueue)
        ((raiseNotice_addressMap ..).trans hleaves.addressMap)
        fun h => (cfgAt_congr (raiseNotice_hoists ..) h).trans (hleaves.cfg h)
      rw [hrefused, refuseFrame, hleaves.destParties, destParties_eq, hkind]
      rfl
    · refine hrelay _ ?_ hleaves.relayQueue hleaves.addressMap hleaves.cfg
      rw [hsix h6]
      split
      · next h hs => rw [if_neg (by simp [hno h hs])]
      · rfl
    · have happly : sampleMonitor filtered f = applySample filtered h reading := by
        rw [hsix h6, hs]
        exact if_pos hp
      have hl := leavesSample_applySample filtered h reading
      have hstore : (storeReading filtered h reading).addressMap = filtered.addressMap ∧
          (storeReading filtered h reading).relayQueue = filtered.relayQueue ∧
          ∀ k, cfgAt (storeReading filtered h reading) k = cfgAt filtered k := by
        rw [storeReading_eq]
        exact ⟨rfl, rfl, fun k => cfgAt_changeLive ..⟩
      obtain ⟨hmap, hqueue, hcfg⟩ := hstore
      refine ⟨hrelay _ happly ?_ ?_ ?_, ?_⟩
      · exact (congrArg (·.2.2.2.2.2.1) hl.surroundings).trans (hqueue.trans hleaves.relayQueue)
      · exact (congrArg (·.1) hl.surroundings).trans (hmap.trans hleaves.addressMap)
      · exact fun k => (hl.cfg k).trans ((hcfg k).trans (hleaves.cfg k))
      · obtain ⟨u, hu, hold⟩ := exists_of_relayed (holdsSample_applySample filtered h reading) hkind hlen happly
        obtain ⟨hage, hout, htimer, hvalid, hinvalid⟩ := hold
        refine ⟨u, hu, hage, hout, htimer,
          fun d h1 h2 h3 => hvalid d ((validDrive_eq_some_iff _ _).2 ⟨h1, h2, h3⟩), fun hbad => ?_⟩
        obtain ⟨hpos, hload, hdrive⟩ := hinvalid ((validDrive_eq_none_iff _).2 hbad)
        exact ⟨hpos.trans (hleaves.position h), hload.trans (hleaves.load h), hdrive⟩
  · have honly : ∀ l, storedLive r (liveAt s h) = l →
        OnlyHoist s (storeReading s h r) h { hoistAt s h with live := l } := by
      rintro l rfl
      rw [storeReading_eq]
      refine ⟨?_, fun k hk => ?_⟩
      · exact (hoistAt_changeLive s h h _).trans (if_pos rfl)
      · exact (hoistAt_changeLive s h k _).trans (if_neg hk)
    refine ⟨storeReading s h r, fun k => ?_, ?_, fun d h1 h2 h3 => ?_, fun hbad => ?_⟩
    · rw [storeReading_eq]
      exact Table.get_set ..
    · rw [storeReading_eq]
      rfl
    · have hd : validDrive r = some d := (validDrive_eq_some_iff _ _).2 ⟨h1, h2, h3⟩
      refine ⟨honly _ (storedLive_of_valid hd _), ?_⟩
      simp only [applySample, stateAndLoad, hd]
    · have hn : validDrive r = none := (validDrive_eq_none_iff _).2 hbad
      refine ⟨honly _ (storedLive_of_invalid hn _), ?_⟩
      simp only [applySample, stateAndLoad, hn]

end Sys2Proof.Machine
end


/-! # Sitting 1: limits, granted targets and speeds -/
section

namespace Sys2Proof.Machine

/-! ## Extremes -/

/-- A greatest value in the sense of the statements is the model's (R88). -/
theorem greatest_eq {x : Int} {xs : List Int} (h : IsGreatestOf x xs) : greatest xs = x := by
  cases xs with
  | nil => exact absurd h.1 (by simp)
  | cons y ys =>
    have hmax : (y :: ys).max? = some x := List.max?_eq_some_iff.2 h
    rw [List.max?_cons', Option.some.injEq] at hmax
    exact hmax

/-- A least value in the sense of the statements is the model's (R88). -/
theorem least_eq {x : Int} {xs : List Int} (h : IsLeastOf x xs) : least xs = x := by
  cases xs with
  | nil => exact absurd h.1 (by simp)
  | cons y ys =>
    have hmin : (y :: ys).min? = some x := List.min?_eq_some_iff.2 h
    rw [List.min?_cons', Option.some.injEq] at hmin
    exact hmin

/-- The least of a start value and a list is one of them and none is less. -/
theorem foldl_min_spec (x : Nat) (xs : List Nat) :
    (xs.foldl min x = x ∨ xs.foldl min x ∈ xs) ∧ xs.foldl min x ≤ x ∧ ∀ y ∈ xs, xs.foldl min x ≤ y := by
  have hmin : (x :: xs).min? = some (xs.foldl min x) := List.min?_cons'
  obtain ⟨hmem, hle⟩ := List.min?_eq_some_iff.1 hmin
  exact ⟨List.mem_cons.1 hmem, hle x (by simp), fun y hy => hle y (List.mem_cons_of_mem x hy)⟩

theorem geometryLo_eq {s : State} {g : GroupNo} {lo hi : Int} (h : SpanOf s g lo hi) : geometryLo s g = lo :=
  greatest_eq h.1

theorem geometryHi_eq {s : State} {g : GroupNo} {lo hi : Int} (h : SpanOf s g lo hi) : geometryHi s g = hi :=
  least_eq h.2

/-! ## Speeds (R57, R58, R89) -/

theorem creep_le_deratedSpeed {w : Limits} (hc : 8 ≤ w.ceiling) (load : Nat) : 8 ≤ deratedSpeed w load := by
  unfold deratedSpeed
  split
  · exact hc
  · exact le_max_right _ 8

theorem deratedSpeed_le_ceiling {w : Limits} (hc : 8 ≤ w.ceiling) (hw : w.derateStart < w.overLimit) (load : Nat) :
    deratedSpeed w load ≤ w.ceiling := by
  unfold deratedSpeed
  split
  · exact le_rfl
  · refine max_le (Nat.div_le_of_le_mul ?_) hc
    rw [Nat.mul_comm w.ceiling]
    exact Nat.mul_le_mul_right _ (by omega)

/-- A heavier load is never faster (R57). -/
theorem deratedSpeed_antitone {w : Limits} (hc : 8 ≤ w.ceiling) (hw : w.derateStart < w.overLimit) {load more : Nat}
    (h : load ≤ more) : deratedSpeed w more ≤ deratedSpeed w load := by
  by_cases hl : load ≤ w.derateStart
  · rw [deratedSpeed.eq_def w load, if_pos hl]
    exact deratedSpeed_le_ceiling hc hw more
  · rw [deratedSpeed, deratedSpeed, if_neg hl, if_neg (by omega)]
    exact max_le_max_right 8 (Nat.div_le_div_right (Nat.mul_le_mul_left _ (by omega)))

theorem deratedSpeedOf_eq {s : State} {h : Slot} {load : Nat} (hl : (liveAt s h).load = some load) :
    deratedSpeedOf s h = deratedSpeed (effectiveLimits s h) load := by
  simp [deratedSpeedOf, hl, stored]

/-- Halving keeps a speed between the creep speed and itself (R89). -/
theorem halved_bounds {v : Nat} (h : 8 ≤ v) : 8 ≤ halved v ∧ halved v ≤ v := by
  unfold halved
  omega

/-- The speed of a group move lies between the creep speed, the speed asked for and each member's (R89). -/
theorem groupSpeed_bounds {s : State} {g : GroupNo} {vq : Nat} (hq : 8 ≤ vq)
    (hm : ∀ h ∈ members s g, 8 ≤ deratedSpeedOf s h) :
    8 ≤ groupSpeed s g vq ∧ groupSpeed s g vq ≤ vq ∧ ∀ h ∈ members s g, groupSpeed s g vq ≤ deratedSpeedOf s h := by
  obtain ⟨hmem, hleq, hle⟩ := foldl_min_spec vq ((members s g).map (deratedSpeedOf s))
  have hcreep : 8 ≤ ((members s g).map (deratedSpeedOf s)).foldl min vq := by
    rcases hmem with e | e
    · rwa [e]
    · obtain ⟨h, hh, e⟩ := List.mem_map.1 e
      rw [← e]
      exact hm h hh
  have hslow : 8 ≤ groupSpeed s g vq ∧ groupSpeed s g vq ≤ ((members s g).map (deratedSpeedOf s)).foldl min vq := by
    unfold groupSpeed
    dsimp only
    split
    · exact halved_bounds hcreep
    · exact ⟨hcreep, le_rfl⟩
  exact ⟨hslow.1, hslow.2.trans hleq, fun h hh => hslow.2.trans (hle _ (List.mem_map_of_mem hh))⟩

/-- Settles O39: each bound is that of the minimum, the clamp or the quotient that the rule takes; a base within Lo and Hi
keeps every member within its own limits because Lo and Hi are the extremes over the members. -/
theorem grantsStayWithinLimits : Obligations.GrantsStayWithinLimits := by
  refine ⟨fun s h => ⟨fun g hsrc hg => ?_, fun hown => ?_⟩, fun c tq hr => ⟨fun h1 h2 => ?_, fun h1 => ?_, fun h1 => ?_⟩,
    fun w load more hc hw hle => ⟨creep_le_deratedSpeed hc load, deratedSpeed_le_ceiling hc hw load,
      deratedSpeed_antitone hc hw hle⟩,
    fun s load vq hq => ?_, fun s g bq lo hi hspan hle h hh => ?_⟩
  · simp only [effectiveLimits, limitsOf, hsrc, hg]
    rfl
  · unfold effectiveLimits limitsOf
    split
    · next hsrc hg => rw [hsrc, hg] at hown; simp at hown
    · rfl
  · unfold grantedTarget clampNat; omega
  · unfold grantedTarget clampNat; omega
  · unfold grantedTarget clampNat; omega
  · intro hasSpeed vd
    have hvd : ∀ h, hasSpeed h → deratedSpeedOf s h = vd h ∧ 8 ≤ vd h := fun h hs =>
      ⟨deratedSpeedOf_eq hs.1, creep_le_deratedSpeed hs.2 _⟩
    refine ⟨fun h hs => ?_, fun g hg => ?_⟩
    · obtain ⟨heq, hcreep⟩ := hvd h hs
      rw [grantedSpeed, heq]
      omega
    · obtain ⟨hcreep, hasked, hmembers⟩ := groupSpeed_bounds (s := s) (g := g) hq fun h hh => by
        rw [(hvd h (hg h hh)).1]
        exact (hvd h (hg h hh)).2
      exact ⟨hcreep, hasked, fun h hh => (hmembers h hh).trans_eq (hvd h (hg h hh)).1⟩
  · intro target
    have hbase : groupBase s g bq = min (max (bq : Int) lo) hi := by
      rw [groupBase, geometryLo_eq hspan, geometryHi_eq hspan]
    have hlow : ((cfgAt s h).softLow : Int) - (cfgAt s h).offset ≤ lo := hspan.1.2 _ (List.mem_map_of_mem hh)
    have hhigh : hi ≤ ((cfgAt s h).softHigh : Int) - (cfgAt s h).offset := hspan.2.2 _ (List.mem_map_of_mem hh)
    have htarget : (target : Int) = groupBase s g bq + (cfgAt s h).offset :=
      Int.toNat_of_nonneg (by omega)
    omega

end Sys2Proof.Machine
end


/-! # Sitting 1: management frames, ARM and PARK -/
section

namespace Sys2Proof.Machine

/-! ## Taking an MGMT frame (R48, R182 to R184) -/

theorem classOf_mgmt {f : Frame} (hkind : f.kind = 0x2E#8) (hdest : f.dest = 0xFFFE#16) (h9 : 9 ≤ f.payload.length)
    (h40 : f.payload.length ≤ 40) : classOf f = .mgmt := by
  have hstop : stopKindOf f = none := by simp [stopKindOf, hkind, kindHold, kindHalt]
  have hlen : lenAllowed kindMgmt f.payload.length = true := by
    show (decide (9 ≤ f.payload.length) && decide (f.payload.length ≤ 40)) = true
    simp [h9, h40]
  have hroute : routeOf 0x2E#8 0xFFFE#16 = .mgmt := by decide
  rw [classOf, hstop, hdest, hkind]
  show (if addrClass 0xFFFE#16 = .foreign then _ else if !isDownstreamKind 0x2E#8 then _ else
    if !lenAllowed kindMgmt f.payload.length then _ else routeOf 0x2E#8 0xFFFE#16) = _
  rw [if_neg (by decide), if_neg (by decide), hlen, hroute]
  rfl

theorem wrongRig_eq_false {s : State} {f : Frame} (h : IdentityPasses s f) : wrongRig s f = false := by
  rcases h with h | h <;> simp [wrongRig, h]

section

variable {s : State} {f : Frame} {epoch : BitVec 16} {rest : List IntakeEntry} {op : Byte}

/-- The frame is taken: the operation acts on the state without the Intake head, and its reply is placed. -/
theorem takeHead_mgmt (h : MgmtTakes s f epoch rest op) (act : State → Frame → MgmtResult) :
    takeHead s (mgmtTaken (· == op) act) = .next (finish (placeReply f (act { s with intake := rest } f))) := by
  obtain ⟨⟨hhead, hkind, hdest, h9, h40, hslot⟩, hop, hid⟩ := h
  have htaken : mgmtTaken (· == op) act { frame := f, epoch := epoch } { s with intake := rest } =
      some (placeReply f (act { s with intake := rest } f)) := by
    have hrig : wrongRig { s with intake := rest } f = false := wrongRig_eq_false hid
    rw [mgmtTaken, if_pos ⟨classOf_mgmt hkind hdest h9 h40, Option.isNone_iff_eq_none.2 hslot, beq_iff_eq.2 hop⟩, answer]
    simp only [hrig, Bool.false_eq_true, if_false]
  rw [takeHead, hhead]
  simp only [htaken]

/-- A refused operation is answered and changes nothing (R182). -/
theorem takeHead_refused (h : MgmtTakes s f epoch rest op) {act : State → Frame → MgmtResult} {r : Reason}
    (hact : act { s with intake := rest } f = refuses { s with intake := rest } r) :
    takeHead s (mgmtTaken (· == op) act) =
      .next (finish (answeredWith s rest (refusedReply f (reasonCode r) []))) := by
  rw [takeHead_mgmt h, hact]
  rfl

/-- An operation but LINE_RESET is answered DONE (R182). -/
theorem takeHead_done (h : MgmtTakes s f epoch rest op) (hop : op ≠ 0x0C#8) {act : State → Frame → MgmtResult} {t : State}
    (hact : act { s with intake := rest } f = done t) :
    takeHead s (mgmtTaken (· == op) act) =
      .next (finish { t with replySlot := some { frame := doneReply f [], resets := false } }) := by
  have hreset : (mgmtOp f == opLineReset) = false := beq_eq_false_iff_ne.2 (h.2.1.symm ▸ hop)
  rw [takeHead_mgmt h, hact]
  simp only [placeReply, done, hreset, Option.isNone_none, Bool.and_false]
  rfl

end

/-! ## Index (R184) -/

theorem indexIn_of_lt {size n : Nat} (i : Fin size) (h : n = i.val) : indexIn size n = .ok i := by
  subst h
  exact dif_pos i.isLt

theorem indexIn_of_le {size n : Nat} (h : size ≤ n) : indexIn size n = .error .badIndex := dif_neg (by omega)

/-! ## ARM (R78, R79) -/

theorem memberNotReady_eq_false_iff (s : State) (h : Slot) :
    memberNotReady s h = false ↔
      ((liveAt s h).state = .ready ∨ (liveAt s h).state = .held) ∧
      ∃ a, addrOfSlot s h = some a ∧
        ∀ e, e ∈ s.motionQueue ∨ s.nextFrame = some e ∨ s.onWire = some e →
          ¬(e.frame.kind = 0x21#8 ∧ e.frame.dest = a) := by
  have hqueued : ∀ a, moveQueuedFor s a = false ↔
      ∀ e, e ∈ s.motionQueue ∨ s.nextFrame = some e ∨ s.onWire = some e →
        ¬(e.frame.kind = 0x21#8 ∧ e.frame.dest = a) := fun a => by
    simp only [moveQueuedFor, kindMove, List.any_eq_false, List.mem_append, Option.mem_toList,
      Bool.and_eq_true, beq_iff_eq, or_assoc]
  unfold memberNotReady
  rw [Bool.or_eq_false_iff, and_comm]
  refine and_congr (by rw [Bool.not_eq_false', Bool.or_eq_true, beq_iff_eq, beq_iff_eq]) ?_
  cases haddr : addrOfSlot s h with
  | none => simp
  | some a => simp [hqueued]

/-- The skew of a group whose members hold positions is the difference of the extremes (R104). -/
theorem skewOf_eq {s : State} {g : GroupNo} {position : Slot → Nat} {hi lo : Int}
    (hpos : ∀ h ∈ members s g, (liveAt s h).position = some (position h))
    (hhi : IsGreatestOf hi ((members s g).map fun h => (position h : Int) - (cfgAt s h).offset))
    (hlo : IsLeastOf lo ((members s g).map fun h => (position h : Int) - (cfgAt s h).offset)) :
    skewOf s g = (hi - lo).toNat := by
  have hnorm : (members s g).map (normalised s) =
      (members s g).map fun h => (position h : Int) - (cfgAt s h).offset :=
    List.map_congr_left fun h hh => by simp [normalised, hpos h hh, stored]
  rw [skewOf, hnorm, greatest_eq hhi, least_eq hlo]

theorem exec_arm (s : State) : exec .arm s = takeHead s (mgmtTaken (· == 0x04#8) armOp) := rfl

/-- The checks of ARM, told by their first failure (R78). -/
theorem armRefusal_eq (s : State) (g : GroupNo) :
    armRefusal s g =
      if (groupAt s g).live.state ≠ .parked then some .groupState
      else if (members s g).length < 2 ∨ 16 < (members s g).length then some .memberCount
      else if ∃ h ∈ members s g, memberNotReady s h = true then some .memberState
      else if ((members s g).map fun h => (cfgAt s h).weight).sum ≠ 1024 then some .weights
      else if (groupAt s g).cfg.skewWarn < skewOf s g then some .skewed
      else none := by
  simp only [armRefusal, armed_iff, List.any_eq_true]

/-- The hoists of an armed group have Fresh cleared, and the group is READY with its skew (R79). -/
theorem hoistAt_armGroup (s : State) (g : GroupNo) (h : Slot) :
    hoistAt (armGroup s g) h = { hoistAt s h with live := { liveAt s h with
      fresh := if h ∈ members s g then false else (liveAt s h).fresh } } := by
  have hmem : h ∈ members s g ↔ isMember s g h = true := by simp [members, allSlots]
  rw [armGroup]
  simp only [hoistAt_changeHoists]
  by_cases hm : h ∈ members s g
  · rw [if_pos (hmem.1 hm), if_pos hm]
    rfl
  · rw [if_neg (mt hmem.2 hm), if_neg hm]
    rfl

theorem onlyGroup_changeGroup (s : State) (g : GroupNo) (f : GroupLive → GroupLive) :
    OnlyGroup s (changeGroup s g f) g { groupAt s g with live := f (groupAt s g).live } :=
  ⟨by simp, fun k hk => by simp [groupAt_changeGroup, hk]⟩

theorem onlyGroup_armGroup (s : State) (g : GroupNo) :
    OnlyGroup s (armGroup s g) g { groupAt s g with live :=
      { GroupLive.reset with state := .ready, lastSkew := some (skewOf s g) } } :=
  onlyGroup_changeGroup s g fun _ => { GroupLive.reset with state := .ready, lastSkew := some (skewOf s g) }

/-! ## PARK (R80) -/

theorem exec_park (s : State) : exec .park s = takeHead s (mgmtTaken (· == 0x05#8) parkOp) := rfl

theorem parkRefusal_eq (s : State) (g : GroupNo) :
    parkRefusal s g =
      if ¬((groupAt s g).live.state = .ready ∨ (groupAt s g).live.state = .holding) then some .groupState
      else if ∃ h ∈ members s g, (liveAt s h).driveState = some .moving then some .busy
      else none := by
  simp only [parkRefusal, List.any_eq_true, beq_iff_eq]

/-- Settles O52: the checks of R78 and R80 are read in their order, and an accepted operation resets the group's live part. -/
theorem groupsAreArmedAndParked : Obligations.GroupsAreArmedAndParked := by
  intro s f epoch rest op htake refusal
  obtain hop := htake.2.1
  refine ⟨fun hbad => ⟨fun e => ?_, fun e => ?_⟩, fun g hg => ?_⟩
  · subst e
    exact (exec_arm s).trans (takeHead_refused htake (r := .badIndex) (by rw [armOp, mgmtIndex, indexIn_of_le hbad]))
  · subst e
    exact (exec_park s).trans (takeHead_refused htake (r := .badIndex) (by rw [parkOp, mgmtIndex, indexIn_of_le hbad]))
  intro st ms ready weights
  refine ⟨fun e => ?_, fun e => ?_⟩
  · subst e
    have harm : armOp { s with intake := rest } f =
        match armRefusal s g with
        | some r => refuses { s with intake := rest } r
        | none => done (armGroup { s with intake := rest } g) := by
      rw [armOp, mgmtIndex, indexIn_of_lt g hg]
      rfl
    have hrefuses : ∀ r, armRefusal s g = some r → refusal .arm (reasonCode r) := fun r hr =>
      (exec_arm s).trans (takeHead_refused htake (by rw [harm, hr]))
    have hready : (¬∃ h ∈ ms, memberNotReady s h = true) ↔ ∀ h ∈ ms, ready h := by
      refine ⟨fun hno h hh => (memberNotReady_eq_false_iff s h).1 (Bool.eq_false_iff.2 fun hb => hno ⟨h, hh, hb⟩),
        fun hok hno => ?_⟩
      obtain ⟨h, hh, hb⟩ := hno
      exact Bool.eq_false_iff.1 ((memberNotReady_eq_false_iff s h).2 (hok h hh)) hb
    have hmany : 2 ≤ ms.length → ms.length ≤ 16 → ¬(ms.length < 2 ∨ 16 < ms.length) := by omega
    rw [armRefusal_eq] at hrefuses
    refine ⟨fun hst => hrefuses .groupState (if_pos hst), fun hst hcount => hrefuses .memberCount ?_,
      fun hst h2 h16 => ⟨fun hbad => hrefuses .memberState ?_, fun hok hw => hrefuses .weights ?_,
        fun hok hw position hi lo hpos hhi hlo => ?_⟩⟩
    · rw [if_neg (not_not.2 hst), if_pos hcount]
    · rw [if_neg (not_not.2 hst), if_neg (hmany h2 h16), if_pos (not_not.1 (mt hready.1 hbad))]
    · rw [if_neg (not_not.2 hst), if_neg (hmany h2 h16), if_neg (hready.2 hok), if_pos hw]
    · have hskew : skewOf s g = (hi - lo).toNat := skewOf_eq hpos hhi hlo
      have hle : lo ≤ hi := hlo.2 hi hhi.1
      refine ⟨fun hbig => hrefuses .skewed ?_, fun hsmall => ?_⟩
      · rw [if_neg (not_not.2 hst), if_neg (hmany h2 h16), if_neg (hready.2 hok), if_neg (not_not.2 hw),
          if_pos (by omega)]
      · have hnone : armRefusal s g = none := by
          rw [armRefusal_eq, if_neg (not_not.2 hst), if_neg (hmany h2 h16), if_neg (hready.2 hok), if_neg (not_not.2 hw),
            if_neg (by omega)]
        refine ⟨_, (exec_arm s).trans (takeHead_done htake (by decide) (by rw [harm, hnone])), ?_, fun h => ?_, rfl⟩
        · rw [← hskew]
          exact onlyGroup_armGroup { s with intake := rest } g
        · exact hoistAt_armGroup { s with intake := rest } g h
  · subst e
    have hpark : parkOp { s with intake := rest } f =
        match parkRefusal s g with
        | some r => refuses { s with intake := rest } r
        | none => done (changeGroup { s with intake := rest } g fun l =>
            { GroupLive.reset with tripCause := l.tripCause }) := by
      rw [parkOp, mgmtIndex, indexIn_of_lt g hg]
      rfl
    have hrefuses : ∀ r, parkRefusal s g = some r → refusal .park (reasonCode r) := fun r hr =>
      (exec_park s).trans (takeHead_refused htake (by rw [hpark, hr]))
    rw [parkRefusal_eq] at hrefuses
    intro busy
    refine ⟨fun hr hh => hrefuses .groupState (if_pos fun h => h.elim hr hh), fun hst hb => hrefuses .busy ?_, fun hst hb => ?_⟩
    · rw [if_neg (not_not.2 hst), if_pos hb]
    · have hnone : parkRefusal s g = none := by
        rw [parkRefusal_eq, if_neg (not_not.2 hst), if_neg hb]
      exact ⟨_, (exec_park s).trans (takeHead_done htake (by decide) (by rw [hpark, hnone])),
        onlyGroup_changeGroup { s with intake := rest } g fun l => { GroupLive.reset with tripCause := l.tripCause },
        rfl⟩

end Sys2Proof.Machine
end


/-! # Sitting 1: RECOVER, SET_MOTION and SET_PORT_MODE -/
section

namespace Sys2Proof.Machine

/-! ## Table (R184) -/

theorem tableOf_eq_some_all_iff (b : Byte) : tableOf b = some .all ↔ b.toNat = 0 := by
  simp only [tableOf, ← BitVec.toNat_inj]
  repeat' split
  all_goals simp_all

theorem tableOf_eq_some_hoist_iff (b : Byte) : tableOf b = some .hoist ↔ b.toNat = 1 := by
  simp only [tableOf, ← BitVec.toNat_inj]
  repeat' split
  all_goals simp_all

theorem tableOf_eq_some_group_iff (b : Byte) : tableOf b = some .group ↔ b.toNat = 2 := by
  simp only [tableOf, ← BitVec.toNat_inj]
  repeat' split
  all_goals simp_all

/-! ## RECOVER (R11, R83, R172, R191) -/

theorem exec_recover (s : State) : exec .recover s = takeHead s (mgmtTaken (· == 0x06#8) recoverOp) := rfl

theorem clearOnRecover_eq (s : State) :
    clearOnRecover s = { s with causeRecord := if s.line.recoverClearsCause = true then none else s.causeRecord } := by
  unfold clearOnRecover
  split <;> rfl

theorem hoistAt_recoverSet (s : State) (p : Slot → Bool) (q : GroupNo → Bool) (h : Slot) :
    hoistAt (recoverSet s p q) h =
      if p h = true then { hoistAt s h with live := recoverLive (liveAt s h) } else hoistAt s h := by
  exact hoistAt_changeHoists s _ h

theorem groupAt_recoverSet (s : State) (p : Slot → Bool) (q : GroupNo → Bool) (g : GroupNo) :
    groupAt (recoverSet s p q) g =
      if q g = true then { groupAt s g with live := recoverGroupLive (groupAt s g).live } else groupAt s g :=
  groupAt_changeGroups _ _ g

section

variable {s : State} {f : Frame} {epoch : BitVec 16} {rest : List IntakeEntry}

/-- An accepted RECOVER restores the hoists and groups it examines and empties the Cause Record by R172. -/
theorem recovered_of_done (htake : MgmtTakes s f epoch rest 0x06#8) {p : Slot → Bool} {q : GroupNo → Bool}
    (hop : recoverOp { s with intake := rest } f = done (clearOnRecover (recoverSet { s with intake := rest } p q)))
    {isHoist : Slot → Prop} {isGroup : GroupNo → Prop} (hp : ∀ h, p h = true ↔ isHoist h)
    (hq : ∀ g, q g = true ↔ isGroup g) :
    ∃ u, exec .recover s = .next (finish u) ∧
      (∀ h, (isHoist h → hoistAt u h = { hoistAt s h with live := { liveAt s h with
          state := .ready, grant := none, arrived := false } }) ∧ (¬isHoist h → hoistAt u h = hoistAt s h)) ∧
      (∀ g, (isGroup g → groupAt u g = { groupAt s g with live := { (groupAt s g).live with
          state := .holding, lastVerdict := .none, cleanStreak := 0, grant := none } }) ∧
        (¬isGroup g → groupAt u g = groupAt s g)) ∧
      u.causeRecord = (if s.line.recoverClearsCause = true then none else s.causeRecord) ∧
      { u with hoists := s.hoists, groups := s.groups, causeRecord := s.causeRecord } =
        answeredWith s rest (doneReply f []) := by
  rw [clearOnRecover_eq] at hop
  refine ⟨_, (exec_recover s).trans (takeHead_done htake (by decide) hop), fun h => ?_, fun g => ?_, rfl, rfl⟩
  · have hset := hoistAt_recoverSet { s with intake := rest } p q h
    exact ⟨fun hh => hset.trans (if_pos ((hp h).2 hh)), fun hh => hset.trans (if_neg (mt (hp h).1 hh))⟩
  · have hset := groupAt_recoverSet { s with intake := rest } p q g
    exact ⟨fun hg => hset.trans (if_pos ((hq g).2 hg)), fun hg => hset.trans (if_neg (mt (hq g).1 hg))⟩

theorem recover_refused (htake : MgmtTakes s f epoch rest 0x06#8) {r : Reason}
    (hop : recoverOp { s with intake := rest } f = refuses { s with intake := rest } r) :
    exec .recover s = .next (finish (answeredWith s rest (refusedReply f (reasonCode r) []))) :=
  (exec_recover s).trans (takeHead_refused htake hop)

end

theorem recoverOp_hoist {s : State} {f : Frame} (ht : (payloadByte f 5).toNat = 1) (h : Slot)
    (hi : (payloadByte f 6).toNat = h.val) : recoverOp s f = recoverHoistOp s h := by
  rw [recoverOp, mgmtTable, (tableOf_eq_some_hoist_iff _).2 ht, mgmtIndex]
  simp only [indexIn_of_lt h hi]

theorem recoverOp_group {s : State} {f : Frame} (ht : (payloadByte f 5).toNat = 2) (g : GroupNo)
    (hi : (payloadByte f 6).toNat = g.val) : recoverOp s f = recoverGroupOp s g := by
  rw [recoverOp, mgmtTable, (tableOf_eq_some_group_iff _).2 ht, mgmtIndex]
  simp only [indexIn_of_lt g hi]

theorem recoverOp_all {s : State} {f : Frame} (ht : (payloadByte f 5).toNat = 0) : recoverOp s f = recoverAllOp s := by
  rw [recoverOp, mgmtTable, (tableOf_eq_some_all_iff _).2 ht]

theorem recoverOp_badTable {s : State} {f : Frame} (ht : 2 < (payloadByte f 5).toNat) :
    recoverOp s f = refuses s .badTable := by
  unfold recoverOp mgmtTable
  cases hb : tableOf (payloadByte f 5) with
  | none => rfl
  | some t =>
    cases t with
    | all => exact absurd ((tableOf_eq_some_all_iff _).1 hb) (by omega)
    | hoist => exact absurd ((tableOf_eq_some_hoist_iff _).1 hb) (by omega)
    | group => exact absurd ((tableOf_eq_some_group_iff _).1 hb) (by omega)
    | map | filter | track | line => rfl

theorem recoverOp_badIndex {s : State} {f : Frame}
    (h : ((payloadByte f 5).toNat = 1 ∧ 64 ≤ (payloadByte f 6).toNat) ∨
      ((payloadByte f 5).toNat = 2 ∧ 16 ≤ (payloadByte f 6).toNat)) : recoverOp s f = refuses s .badIndex := by
  rcases h with ⟨ht, hi⟩ | ⟨ht, hi⟩
  · rw [recoverOp, mgmtTable, (tableOf_eq_some_hoist_iff _).2 ht, mgmtIndex]
    simp only [indexIn_of_le hi]
  · rw [recoverOp, mgmtTable, (tableOf_eq_some_group_iff _).2 ht, mgmtIndex]
    simp only [indexIn_of_le hi]

/-- A hoist stands in no armed group: if it is Present and names a group, that group is PARKED (R191). -/
theorem armedGroupOf_eq_none_iff_lone (s : State) (h : Slot) :
    armedGroupOf s h = none ↔
      ∀ g, (cfgAt s h).present = true → (cfgAt s h).group = some g → (groupAt s g).live.state = .parked := by
  rw [armedGroupOf_eq_none_iff]
  simp only [isMember_iff, and_imp]

theorem mem_members_iff (s : State) (g : GroupNo) (h : Slot) : h ∈ members s g ↔ isMember s g h = true := by
  simp [members, allSlots]

theorem groupTripped_iff (s : State) (g : GroupNo) : groupTripped s g = true ↔ (groupAt s g).live.state = .tripped := by
  simp [groupTripped]

/-- What RECOVER of all examines (R191). -/
theorem examinedByAll_iff (s : State) (h : Slot) :
    examinedByAll s h = true ↔
      ((cfgAt s h).present = true ∧ (liveAt s h).state = .tripped ∧
        ∀ g, (cfgAt s h).present = true → (cfgAt s h).group = some g → (groupAt s g).live.state = .parked) ∨
      ∃ g, (groupAt s g).live.state = .tripped ∧ h ∈ members s g := by
  have hgroup : inTrippedGroup s h = true ↔ ∃ g, (groupAt s g).live.state = .tripped ∧ h ∈ members s g := by
    simp [inTrippedGroup, allGroups, groupTripped_iff]
  have hlone : loneTripped s h = true ↔
      (cfgAt s h).present = true ∧ (liveAt s h).state = .tripped ∧ armedGroupOf s h = none := by
    simp [loneTripped, and_assoc]
  rw [examinedByAll, Bool.or_eq_true, hgroup, hlone, armedGroupOf_eq_none_iff_lone]

theorem recoverAllOp_refused {s : State} (h : ∃ k, examinedByAll s k = true ∧ ¬passesRecovery s k = true) :
    recoverAllOp s = refuses s .notClear := by
  obtain ⟨k, he, hp⟩ := h
  refine if_pos (List.any_eq_true.2 ⟨k, List.mem_finRange k, ?_⟩)
  rw [he, Bool.eq_false_iff.2 hp]
  rfl

theorem recoverAllOp_done {s : State} (h : ∀ k, examinedByAll s k = true → passesRecovery s k = true) :
    recoverAllOp s = done (clearOnRecover (recoverSet s (examinedByAll s) (groupTripped s))) := by
  refine if_neg fun hany => ?_
  obtain ⟨k, -, hk⟩ := List.any_eq_true.1 hany
  rw [Bool.and_eq_true] at hk
  rw [h k hk.1] at hk
  exact absurd hk.2 (by decide)

/-- Settles O53: each form examines its hoists and groups, and either one fails the recovery test and it is refused, or
all of them are restored. -/
theorem recoverRestoresWhatPasses : Obligations.RecoverRestoresWhatPasses := by
  intro s f epoch rest htake table index refusal passes lone recovered
  have hpasses : ∀ h, passesRecovery { s with intake := rest } h = true ↔ passes h := passesRecovery_iff _
  have hlone : ∀ h, armedGroupOf { s with intake := rest } h = none ↔ lone h := armedGroupOf_eq_none_iff_lone _
  refine ⟨fun ht h hi => ?_, fun ht g hi => ?_, fun ht => ?_, fun ht => ?_, fun hbad => ?_⟩
  · have hop := recoverOp_hoist (s := { s with intake := rest }) ht h hi
    refine ⟨fun hno => recover_refused htake (r := .groupLocked) ?_,
      fun hl hno => recover_refused htake (r := .notClear) ?_, fun hl hp => recovered_of_done htake ?_
        (isHoist := fun k => k = h) (isGroup := fun _ => False) (p := fun x => x == h) (q := fun _ => false)
        (by simp) (by simp)⟩
    · rw [hop, recoverHoistOp, if_pos (Option.isSome_iff_ne_none.2 (mt (hlone h).1 hno))]
    · rw [hop, recoverHoistOp, (hlone h).2 hl, if_neg (by simp), if_pos (by simpa using mt (hpasses h).1 hno)]
    · rw [hop, recoverHoistOp, (hlone h).2 hl, if_neg (by simp), (hpasses h).2 hp]
      rfl
  · have hop := recoverOp_group (s := { s with intake := rest }) ht g hi
    have htripped : groupTripped { s with intake := rest } g = true ↔ (groupAt s g).live.state = .tripped :=
      groupTripped_iff _ g
    have hall : ((members { s with intake := rest } g).all (passesRecovery { s with intake := rest })) = true ↔
        ∀ h ∈ members s g, passes h := by
      rw [List.all_eq_true]
      exact forall₂_congr fun h _ => hpasses h
    refine ⟨fun hno => recover_refused htake (r := .groupState) ?_,
      fun hst hno => recover_refused htake (r := .notClear) ?_, fun hst hp => recovered_of_done htake ?_
        (isHoist := fun h => h ∈ members s g) (isGroup := fun k => k = g) (p := isMember { s with intake := rest } g)
        (q := fun x => x == g) (fun h => (mem_members_iff s g h).symm) (by simp)⟩
    · rw [hop, recoverGroupOp, if_pos (by simpa using mt htripped.1 hno)]
    · rw [hop, recoverGroupOp, htripped.2 hst, if_neg (by simp), if_pos]
      rw [Bool.not_eq_true', Bool.eq_false_iff]
      exact mt hall.1 hno
    · rw [hop, recoverGroupOp, htripped.2 hst, hall.2 hp]
      rfl
  · intro examined
    have hop := recoverOp_all (s := { s with intake := rest }) ht
    have hexamined : ∀ h, examinedByAll { s with intake := rest } h = true ↔ examined h := examinedByAll_iff _
    refine ⟨fun hno => recover_refused htake (r := .notClear) ?_, fun hp => recovered_of_done htake ?_
      (p := examinedByAll { s with intake := rest }) (q := groupTripped { s with intake := rest })
      hexamined (groupTripped_iff _)⟩
    · obtain ⟨h, he, hno⟩ := hno
      exact hop.trans (recoverAllOp_refused ⟨h, (hexamined h).2 he, mt (hpasses h).1 hno⟩)
    · exact hop.trans (recoverAllOp_done fun h he => (hpasses h).2 (hp h ((hexamined h).1 he)))
  · exact recover_refused htake (r := .badTable) (recoverOp_badTable ht)
  · exact recover_refused htake (r := .badIndex) (recoverOp_badIndex hbad)

/-! ## SET_MOTION (R68, R69) -/

theorem exec_setMotion (s : State) : exec .setMotion s = takeHead s (mgmtTaken (· == 0x0A#8) setMotionOp) := rfl

/-- Whether a motion-off admits a HOLD ALL (R69). -/
theorem anyMoving_iff (s : State) :
    (anyHoistMoving s || anyGroupMoving s) = true ↔
      (∃ h, (liveAt s h).state = .moving) ∨ ∃ g, inProgress (groupAt s g).live = true := by
  simp [anyHoistMoving, anyGroupMoving, allSlots, allGroups]

theorem motionOff_of_moving {s : State}
    (h : (∃ k, (liveAt s k).state = .moving) ∨ ∃ g, inProgress (groupAt s g).live = true) (seq : Byte) :
    motionOff s seq = abortTracks (admitStop { s with motionEnable := false } (holdAllStop seq)) := by
  rw [motionOff, if_pos ((anyMoving_iff s).2 h)]

theorem motionOff_of_still {s : State}
    (h : ¬((∃ k, (liveAt s k).state = .moving) ∨ ∃ g, inProgress (groupAt s g).live = true)) (seq : Byte) :
    motionOff s seq = abortTracks { s with motionEnable := false } := by
  rw [motionOff, if_neg (mt (anyMoving_iff s).1 h)]

/-! ## SET_PORT_MODE (R37 to R39, R190) -/

theorem exec_setPortMode (s : State) :
    exec .setPortMode s = takeHead s (mgmtTaken (· == 0x0B#8) setPortModeOp) := rfl

theorem anyHoistMoving_iff (s : State) : anyHoistMoving s = true ↔ ∃ h, (liveAt s h).state = .moving := by
  simp [anyHoistMoving, allSlots]

theorem modeOfIndex_of_gt {n : Nat} (h : 3 ≤ n) : modeOfIndex n = none := by
  rw [modeOfIndex, if_neg (by omega), if_neg (by omega), if_neg (by omega)]

/-- In HOLD_ONLY the MOVEs are kept from NEXT (R38). -/
theorem modeDiscards_holdOnly_iff (e : Entry) : modeDiscards .holdOnly e = true ↔ ∃ h, moveSlot e = some h := by
  unfold modeDiscards moveSlot
  cases e.role <;> simp

theorem setPortModeOp_eq {s : State} {f : Frame} {m : PortMode} (hm : modeOfIndex (payloadByte f 6).toNat = some m) :
    setPortModeOp s f =
      if m = s.portMode then done s
      else if m = .isolate ∧ anyHoistMoving s = true then refuses s .busy
      else done (changeMode s m) := by
  rw [setPortModeOp, mgmtIndex, hm]

/-- A mode that keeps the frame in NEXT, or finds none there, changes the mode alone. -/
theorem changeMode_of_kept {s : State} {m : PortMode} (h : ∀ e, s.nextFrame = some e → modeDiscards m e = false) :
    changeMode s m = { s with portMode := m } := by
  unfold changeMode
  cases hn : s.nextFrame with
  | none => rfl
  | some e => simp only [h e hn, Bool.false_eq_true, if_false]

theorem changeMode_of_discarded {s : State} {m : PortMode} {e : Entry} (hn : s.nextFrame = some e)
    (h : modeDiscards m e = true) :
    changeMode s m = discardFrame { s with portMode := m, nextFrame := none } e := by
  simp only [changeMode, hn, h, if_true]

/-- The poll timers after a POLL has gone ON_WIRE or has been discarded in ISOLATE (R153, R39). -/
theorem startPollTimer_eq (s : State) (slot : Option Slot) :
    startPollTimer s slot = { s with pollTimers := (startPollTimer s slot).pollTimers } := by
  unfold startPollTimer
  split
  · split <;> rfl
  · rfl

theorem get_pollTimers_startPollTimer (s : State) (slot : Option Slot) (k : Slot) :
    (startPollTimer s slot).pollTimers.get k =
      if slot = some k ∧ (cfgAt s k).present = true then some 0 else s.pollTimers.get k := by
  unfold startPollTimer
  cases slot with
  | none => simp
  | some h =>
    by_cases hk : h = k
    · subst hk
      by_cases hp : (cfgAt s h).present = true <;> simp [hp]
    · have hne : ¬(some h = some k ∧ (cfgAt s k).present = true) := fun e => hk (Option.some.inj e.1)
      rw [if_neg hne]
      dsimp only
      split
      · exact Table.get_set_of_ne _ _ (Ne.symm hk)
      · rfl

/-- Settles O54: motion-off is the HOLD ALL of R69 before the tracks end, and a change of mode is its discard of NEXT. -/
theorem motionAndPortModeAreSet : Obligations.MotionAndPortModeAreSet := by
  intro s f epoch rest op htake index answered refusal inMotion ended off
  have hindex : mgmtIndex f = index := rfl
  refine ⟨fun e => ?_, fun e => ?_⟩
  · subst e
    have hdone : ∀ t, setMotionOp { s with intake := rest } f = done t →
        exec .setMotion s = .next (finish { t with replySlot := some { frame := doneReply f [], resets := false } }) :=
      fun t ht => (exec_setMotion s).trans (takeHead_done htake (by decide) ht)
    have hrefused : ∀ r, setMotionOp { s with intake := rest } f = refuses { s with intake := rest } r →
        refusal .setMotion (reasonCode r) := fun r hr => (exec_setMotion s).trans (takeHead_refused htake hr)
    refine ⟨fun hi hid => hrefused .noIdentity ?_, fun hi hid => hdone { s with intake := rest, motionEnable := true } ?_,
      fun hi hoff => hdone { s with intake := rest } ?_, fun hi hon hstill => hdone (abortTracks off) ?_,
      fun hi hon hmoving => hdone (abortTracks (admitStop off (holdAllStop f.seq))) ?_,
      fun hi => hrefused .badIndex ?_⟩
    · rw [setMotionOp, hindex, if_neg (by omega), if_pos hi, if_pos (Option.isNone_iff_eq_none.2 hid)]
    · rw [setMotionOp, hindex, if_neg (by omega), if_pos hi, if_neg (mt Option.isNone_iff_eq_none.1 hid)]
    · rw [setMotionOp, hindex, if_pos hi]
      simp only [hoff, Bool.false_eq_true, if_false]
    · rw [setMotionOp, hindex, if_pos hi]
      simp only [hon, if_true]
      exact congrArg done (motionOff_of_still (s := { s with intake := rest }) hstill f.seq)
    · rw [setMotionOp, hindex, if_pos hi]
      simp only [hon, if_true]
      exact congrArg done (motionOff_of_moving (s := { s with intake := rest }) hmoving f.seq)
    · rw [setMotionOp, hindex, if_neg (by omega), if_neg (by omega)]
  · subst e
    have hdone : ∀ t, setPortModeOp { s with intake := rest } f = done t →
        exec .setPortMode s = .next (finish { t with replySlot := some { frame := doneReply f [], resets := false } }) :=
      fun t ht => (exec_setPortMode s).trans (takeHead_done htake (by decide) ht)
    have hrefused : ∀ r, setPortModeOp { s with intake := rest } f = refuses { s with intake := rest } r →
        refusal .setPortMode (reasonCode r) := fun r hr => (exec_setPortMode s).trans (takeHead_refused htake hr)
    refine ⟨fun hi => hrefused .badIndex ?_, fun hi hmode hmoving => hrefused .busy ?_, fun m hm hi => ?_⟩
    · rw [setPortModeOp, hindex, modeOfIndex_of_gt hi]
    · rw [setPortModeOp_eq (m := .isolate) (by rw [show (payloadByte f 6).toNat = 2 from hi]; rfl),
        if_neg (Ne.symm hmode), if_pos ⟨rfl, (anyHoistMoving_iff _).2 hmoving⟩]
    · have hnamed : modeOfIndex index = some m := by
        have hcases : index = 0 ∨ index = 1 ∨ index = 2 := by omega
        rw [hm]
        rcases hcases with h | h | h <;> rw [h] <;> rfl
      have hop := setPortModeOp_eq (s := { s with intake := rest }) (f := f) (m := m) hnamed
      refine ⟨fun heq => hdone { s with intake := rest } (hop.trans (if_pos heq)), fun hne hidle => ?_⟩
      have hchange : setPortModeOp { s with intake := rest } f = done (changeMode { s with intake := rest } m) := by
        refine hop.trans ((if_neg hne).trans (if_neg fun h => ?_))
        obtain ⟨k, hk⟩ := (anyHoistMoving_iff _).1 h.2
        exact hidle h.1 k hk
      refine ⟨fun hkeeps => ?_, fun e h hmode hn hmove => ?_, fun e hmode hn => ?_⟩
      · refine hdone { s with intake := rest, portMode := m } (hchange.trans (congrArg done (changeMode_of_kept ?_)))
        intro e he
        have hs : s.nextFrame = some e := he
        rcases hkeeps with hnone | rfl | ⟨rfl, e', he', hmove⟩
        · rw [hnone] at hs
          cases hs
        · rfl
        · rw [hs, Option.some.injEq] at he'
          subst he'
          rw [Bool.eq_false_iff, ne_eq, modeDiscards_holdOnly_iff, hmove]
          rintro ⟨h, hh⟩
          cases hh
      · subst hmode
        have hd := changeMode_of_discarded (s := { s with intake := rest }) (m := .holdOnly) hn
          ((modeDiscards_holdOnly_iff e).2 ⟨h, hmove⟩)
        refine ⟨_, hdone _ (hchange.trans (congrArg done hd)), ?_, ?_⟩
        · simp only [discardFrame, hmove]
          exact notices_raiseNotice_congr (s := s) (t := { s with intake := rest, portMode := .holdOnly, nextFrame := none })
            rfl rfl rfl _ _
        · simp only [discardFrame]
          rw [raiseNotice_eq_with]
      · subst hmode
        have hd := changeMode_of_discarded (s := { s with intake := rest }) (m := .isolate) hn rfl
        refine ⟨_, hdone _ (hchange.trans (congrArg done hd)), fun k => ?_, ?_⟩
        · exact get_pollTimers_startPollTimer { s with intake := rest, portMode := .isolate, nextFrame := none } _ k
        · simp only [discardFrame]
          rw [startPollTimer_eq]

end Sys2Proof.Machine
end


/-! # Sitting 1: the two resets -/
section

namespace Sys2Proof.Machine

/-! ## POWER_ON_RESET (R138) -/

theorem exec_powerOnReset (s : State) : exec .powerOnReset s = .next { State.reset with pending := s.pending } := rfl

/-! ## LINE_RESET_TAKES_EFFECT (R179, R192) -/

theorem exec_lineResetTakesEffect (s : State) : exec .lineResetTakesEffect s = execLineResetTakesEffect s := rfl

/-- The HOLD ALL of a line reset is the lane's one order (R131, R138). -/
theorem laneAfter_emptyForReset (s : State) (seq : Byte) :
    laneAfter (emptyForReset s) (holdAllStop seq) =
      some [{ kind := .hold, scope := .all, pendingList := [], origin := .part, relatedSeq := seq, cause := none }] := by
  rw [laneAfter, if_neg (by simp [holdAllStop, partStop]), if_neg (by simp [emptyForReset]),
    if_neg (by simp [emptyForReset]), if_pos (by simp [emptyForReset])]
  rfl

/-- The line reset: the order's effects on the emptied state, then the HOLD notice. -/
theorem resetLine_eq (s : State) (seq : Byte) :
    resetLine s seq =
      raiseNotice (purge (stopGroups (stopHoists
        { emptyForReset s with lane := [{ kind := .hold, scope := .all, pendingList := [], origin := .part,
                                          relatedSeq := seq, cause := none }] }
        (holdAllStop seq)) (holdAllStop seq)) .all) .hold
        { hoist := none, group := none, code := 0x00#8, detail := 0x00#8, relatedSeq := seq } := by
  rw [resetLine, admitStop, laneAfter_emptyForReset]
  rfl

/-- A hoist at its reset values is OFFLINE, which a HOLD without a cause leaves as it is (R10). -/
theorem hoistAt_resetLine (s : State) (seq : Byte) (h : Slot) :
    hoistAt (resetLine s seq) h = { hoistAt s h with live := HoistLive.reset } := by
  have hroom : laneAfter (emptyForReset s) (holdAllStop seq) ≠ none := by simp [laneAfter_emptyForReset]
  rw [resetLine, hoistAt_admitStop_of_room _ _ hroom, hoistAt_admissionEffects, ← live_hoistAt, hoistAt_emptyForReset]
  split <;> rfl

/-- A group at its reset values is PARKED, which a stop leaves as it is (R81). -/
theorem groupAt_resetLine (s : State) (seq : Byte) (g : GroupNo) :
    groupAt (resetLine s seq) g = { groupAt s g with live := GroupLive.reset } := by
  have hroom : laneAfter (emptyForReset s) (holdAllStop seq) ≠ none := by simp [laneAfter_emptyForReset]
  rw [resetLine, groupAt_admitStop_of_room _ _ hroom, groupAt_admissionEffects, groupAt_emptyForReset]
  split <;> rfl

theorem get_notices_resetLine (s : State) (seq : Byte) (i : Fin 16) :
    (resetLine s seq).notices.get i =
      if i = 3 ∧ noticeLevel s 3 ≠ 0 then
        some { repeated := false, hoist := none, group := none, code := 0x00#8, detail := 0x00#8, relatedSeq := seq,
               time := s.lineClock }
      else none := by
  have hlevel : noticeLevel (emptyForReset s) (sourceIndex .hold) = noticeLevel s 3 := rfl
  have hempty : ∀ j, (emptyForReset s).notices.get j = none := fun j => by simp [emptyForReset]
  have hnotices : (resetLine s seq).notices = (raiseNotice (emptyForReset s) .hold
      { hoist := none, group := none, code := 0x00#8, detail := 0x00#8, relatedSeq := seq }).notices := by
    rw [resetLine_eq]
    exact notices_raiseNotice_congr (by exact rfl) (by exact rfl) (by exact rfl) _ _
  rw [hnotices, notices_raiseNotice, hlevel]
  by_cases hz : noticeLevel s 3 = 0
  · rw [if_pos hz, if_neg fun h => h.2 hz, hempty]
  · rw [if_neg hz, Table.get_set, hempty, hempty]
    by_cases hi : i = 3
    · exact (if_pos hi).trans (if_pos ⟨hi, hz⟩).symm
    · exact (if_neg hi).trans (if_neg fun h => hi h.1).symm

/-- What the HOLD ALL finds and leaves empty, and the lane that holds it alone (R131, R135, R192). -/
theorem queues_resetLine (s : State) (seq : Byte) :
    (resetLine s seq).lane =
      [{ kind := .hold, scope := .all, pendingList := [], origin := .part, relatedSeq := seq, cause := none }] ∧
    (resetLine s seq).motionQueue = [] ∧ (resetLine s seq).internalBatches = [] ∧ (resetLine s seq).nextFrame = none ∧
    (resetLine s seq).causeRecord = s.causeRecord := by
  rw [resetLine_eq]
  simp [stopGroups, purge, stopHoists, changeHoists, emptyForReset]

/-- Settles O56: power-on gives the reset state; a line reset is the emptying of R192 and a HOLD ALL that finds every
hoist OFFLINE, every group PARKED and every queue empty. -/
theorem resetsGiveTheirValues : Obligations.ResetsGiveTheirValues := by
  refine ⟨fun s => ?_, fun s r hr hresets => ⟨fun hbusy => ?_, fun hidle => ?_⟩, fun s hno => ?_⟩
  · refine ⟨_, exec_powerOnReset s, rfl, rfl, fun h => hoistAt_reset h, fun g => groupAt_reset g,
      fun i => Table.get_fill _ i, fun i => Table.get_fill _ i, fun i => Table.get_fill _ i,
      rfl, rfl, rfl, rfl, rfl, rfl, rfl, rfl, rfl, rfl, rfl, rfl, rfl, rfl, rfl, rfl, rfl, rfl, rfl, rfl, rfl, rfl,
      fun h => Table.get_fill _ h, rfl, rfl, fun i => Table.get_fill _ i, rfl, rfl, rfl, rfl⟩
  · obtain ⟨w, hw⟩ := Option.ne_none_iff_exists'.1 hbusy
    rw [exec_lineResetTakesEffect, execLineResetTakesEffect, hr, hw]
  · have hexec : exec .lineResetTakesEffect s =
        .next (finish (resetLine { s with uWire := some r.frame } r.frame.seq)) := by
      rw [exec_lineResetTakesEffect, execLineResetTakesEffect, hr, hidle]
      simp only [hresets, if_true]
    obtain ⟨hlane, hqueue, hbatches, hnext, hcause⟩ := queues_resetLine { s with uWire := some r.frame } r.frame.seq
    refine ⟨_, hexec, by simp [resetLine, emptyForReset], hoistAt_resetLine _ _, groupAt_resetLine _ _,
      hlane, get_notices_resetLine _ _, ?_⟩
    refine ⟨?_, ?_, ?_, ?_, ?_, ?_, hqueue, hbatches, hnext, fun h => ?_, ?_, ?_, ?_, ?_, ?_, ?_, ?_, ?_, hcause, ?_, ?_,
      ?_, ?_, ?_⟩
    all_goals simp [resetLine, emptyForReset, SilenceTimer.reset]
  · rw [exec_lineResetTakesEffect, execLineResetTakesEffect]
    cases hr : s.replySlot with
    | none => rfl
    | some r =>
      cases s.uWire with
      | some w => rfl
      | none => simp only [hno r hr, Bool.false_eq_true, if_false]

end Sys2Proof.Machine
end


/-! # Sitting 1: selection at the D-port -/
section

namespace Sys2Proof.Machine

/-! ## The poll timer of a POLL that leaves (R153) -/

/-- The poll timers after a POLL carrying `slot` has gone ON_WIRE. -/
def startedTimers (s : State) (slot : Option Slot) : Table 64 (Option Nat) := (startPollTimer s slot).pollTimers

/-- Only the hoists and the poll timers are read. -/
theorem startedTimers_congr {s t : State} (hh : t.hoists = s.hoists) (hp : t.pollTimers = s.pollTimers)
    (slot : Option Slot) : startedTimers t slot = startedTimers s slot := by
  refine Table.ext_get fun k => ?_
  simp only [startedTimers, get_pollTimers_startPollTimer, cfgAt_congr hh, hp]

/-- The frame in NEXT gone ON_WIRE (R142, R153). -/
def sentOn (s : State) (n : Entry) : State :=
  { s with onWire := some n, nextFrame := none, pollTimers := startedTimers s (pollSlot n) }

theorem advance_eq {s : State} {n : Entry} (hw : s.onWire = none) (hn : s.nextFrame = some n) :
    advance s = sentOn s n := by
  have htimers := startedTimers_congr (s := s) (t := { s with onWire := some n, nextFrame := none }) rfl rfl (pollSlot n)
  unfold advance
  rw [hw, hn]
  simp only
  rw [startPollTimer_eq]
  exact congrArg (fun x => { s with onWire := some n, nextFrame := none, pollTimers := x }) htimers

/-! ## What one selection can change (R136, R143) -/

theorem stopEntry_fst (s : State) (o : StopOrder) (a : LineAddr) :
    (stopEntry s o a).1 =
      { frame := { kind := if o.kind = .halt then 0x24#8 else 0x23#8, dest := a
                   src := match o.origin with | .console src _ => src | .part => 0xFFFE#16
                   seq := match o.origin with | .console _ seq => seq | .part => s.seqCounter
                   payload := [] }
        role := .stop } := by
  unfold stopEntry
  cases o.kind <;> cases o.origin <;> rfl

/-- A stop frame takes at most the Seq (R33). -/
theorem stopEntry_snd (s : State) (o : StopOrder) (a : LineAddr) :
    (stopEntry s o a).2 = { s with seqCounter := (stopEntry s o a).2.seqCounter } := by
  rcases stopEntry_state s o a with e | e <;> rw [e]
  rfl

theorem firstAddressed_of_none {s : State} {l : List Slot} (h : ∀ k ∈ l, addrOfSlot s k = none) :
    firstAddressed s l = none := by
  induction l with
  | nil => rfl
  | cons k ks ih =>
    rw [firstAddressed, h k (by simp)]
    exact ih fun j hj => h j (by simp [hj])

theorem firstAddressed_append {s : State} {passed left : List Slot} {h : Slot} {a : LineAddr}
    (hp : ∀ k ∈ passed, addrOfSlot s k = none) (ha : addrOfSlot s h = some a) :
    firstAddressed s (passed ++ h :: left) = some (a, left) := by
  induction passed with
  | nil => simp [firstAddressed, ha]
  | cons k ks ih =>
    rw [List.cons_append, firstAddressed, hp k (by simp)]
    exact ih fun j hj => hp j (by simp [hj])

theorem length_left_of_firstAddressed {s : State} {l left : List Slot} {a : LineAddr}
    (h : firstAddressed s l = some (a, left)) : left.length < l.length := by
  induction l with
  | nil => simp [firstAddressed] at h
  | cons k ks ih =>
    rw [firstAddressed] at h
    split at h
    · cases h; simp
    · have := ih h
      simp only [List.length_cons]
      omega

/-- The state after the emission differs in the lane and the Seq alone. -/
theorem emitStop_snd (s : State) (o : StopOrder) (rest : List StopOrder) :
    (emitStop s o rest).2 =
      { s with lane := (emitStop s o rest).2.lane, seqCounter := (emitStop s o rest).2.seqCounter } := by
  have hstop : ∀ a l, ({ (stopEntry s o a).2 with lane := l } : State) =
      { s with lane := l, seqCounter := (stopEntry s o a).2.seqCounter } := fun a l => by rw [stopEntry_snd]
  unfold emitStop
  split
  · exact hstop _ _
  · exact hstop _ _
  all_goals
    split
    · rfl
    · exact hstop _ _

/-- The work that the lane's orders can make. -/
def laneWork (lane : List StopOrder) : Nat := (lane.map fun o => o.pendingList.length + 1).sum

theorem selectionWork_eq (s : State) :
    selectionWork s = laneWork s.lane + s.pollPromote.length + s.motionQueue.length + 1 := rfl

/-- An emission leaves the lane with less work. -/
theorem laneWork_emitStop (s : State) (o : StopOrder) (rest : List StopOrder) :
    laneWork (emitStop s o rest).2.lane < laneWork (o :: rest) := by
  have hcons : ∀ x : StopOrder, laneWork (x :: rest) = x.pendingList.length + 1 + laneWork rest := fun _ => rfl
  have hleaves : laneWork rest < laneWork (o :: rest) := by rw [hcons]; omega
  unfold emitStop
  split
  · exact hleaves
  · exact hleaves
  all_goals
    split
    · exact hleaves
    · next a left h =>
      have hlt := length_left_of_firstAddressed h
      show laneWork (if left.isEmpty = true then rest else { o with pendingList := left } :: rest) < _
      split
      · exact hleaves
      · have hshort : laneWork ({ o with pendingList := left } :: rest) = left.length + 1 + laneWork rest := hcons _
        rw [hshort, hcons]
        omega

/-- Marking the rest of a batch as begun (R92, R141). -/
theorem map_markBegun (e : Entry) (rest : List Entry) {h : Slot} {i : Byte} {b : Bool} (he : e.role = .batch h i b) :
    rest.map (markBegun i) = behindSelected e rest := by
  refine List.map_congr_left fun x _ => ?_
  obtain ⟨frame, role⟩ := x
  rw [he]
  unfold markBegun
  cases role <;> rfl

theorem takeMotion_eq (s : State) (e : Entry) (rest : List Entry) :
    takeMotion s e rest = (some e, { s with motionQueue := behindSelected e rest }) := by
  have hid : (∀ h i b, e.role ≠ .batch h i b) → behindSelected e rest = rest := fun hno => by
    refine (List.map_congr_left fun x _ => ?_).trans (List.map_id rest)
    split
    · next h i b _ _ _ he _ => exact absurd he (hno h i b)
    · rfl
  unfold takeMotion
  split
  · next h i b he => rw [map_markBegun e rest he]
  all_goals
    next he => rw [hid (by rw [he]; exact nofun)]

/-- Marking changes no POLL. -/
theorem pollSlot_behindSelected (e : Entry) (rest : List Entry) :
    (behindSelected e rest).map pollSlot = rest.map pollSlot := by
  rw [List.map_map]
  refine List.map_congr_left fun x _ => ?_
  obtain ⟨frame, role⟩ := x
  simp only [Function.comp_apply]
  split
  · split <;> rfl
  · rfl

/-- What the candidates behind the lane come to: the Motion Queue head or the Poll Promote Queue head (R143). -/
theorem selectBehindLane_cases {s t : State} {e : Option Entry} (h : selectBehindLane s = some (e, t)) :
    (∃ m ms, s.motionQueue = m :: ms ∧ e = some m ∧ t = { s with motionQueue := behindSelected m ms }) ∨
    ∃ p ps, s.pollPromote = p :: ps ∧ e = some p ∧ t = { s with pollPromote := ps } := by
  unfold selectBehindLane at h
  simp only [takeMotion_eq] at h
  split at h
  · cases h
  · next p ps _ hp => cases h; exact .inr ⟨p, ps, hp, rfl, rfl⟩
  · next m ms hm _ => cases h; exact .inl ⟨m, ms, hm, rfl, rfl⟩
  · next m ms p ps hm hp =>
    split at h
    · cases h; exact .inl ⟨m, ms, hm, rfl, rfl⟩
    · cases h; exact .inr ⟨p, ps, hp, rfl, rfl⟩

/-- A selection is the lane head's emission, or it takes the head of one of the two queues (R143). -/
theorem selectOne_cases {s t : State} {e : Option Entry} (h : selectOne s = some (e, t)) :
    (∃ o rest, s.lane = o :: rest ∧ (e, t) = emitStop s o rest) ∨
    (∃ m ms, s.motionQueue = m :: ms ∧ e = some m ∧ t = { s with motionQueue := behindSelected m ms }) ∨
    ∃ p ps, s.pollPromote = p :: ps ∧ e = some p ∧ t = { s with pollPromote := ps } := by
  unfold selectOne at h
  split at h
  · next o rest hl => exact .inl ⟨o, rest, hl, (Option.some.inj h).symm⟩
  · exact .inr (selectBehindLane_cases h)

/-- A selection takes from the lane and the queues and takes a Seq; the rest of the state stands. -/
theorem selectOne_frame {s t : State} {e : Option Entry} (h : selectOne s = some (e, t)) :
    t = { s with lane := t.lane, pollPromote := t.pollPromote, motionQueue := t.motionQueue,
                 seqCounter := t.seqCounter } := by
  obtain ⟨o, rest, -, he⟩ | ⟨m, ms, -, -, rfl⟩ | ⟨p, ps, -, -, rfl⟩ := selectOne_cases h
  · have ht : t = (emitStop s o rest).2 := congrArg Prod.snd he
    have hs := emitStop_snd s o rest
    rw [← ht] at hs
    have hp : t.pollPromote = s.pollPromote := (congrArg State.pollPromote hs).trans rfl
    have hm : t.motionQueue = s.motionQueue := (congrArg State.motionQueue hs).trans rfl
    rw [hp, hm]
    exact hs
  · rfl
  · rfl

theorem selectOne_stands {s t : State} {e : Option Entry} (h : selectOne s = some (e, t)) :
    t.onWire = s.onWire ∧ t.nextFrame = s.nextFrame ∧ t.pollTimers = s.pollTimers ∧ t.notices = s.notices ∧
    t.portMode = s.portMode ∧ t.hoists = s.hoists ∧ t.uWire = s.uWire := by
  rw [selectOne_frame h]
  exact ⟨rfl, rfl, rfl, rfl, rfl, rfl, rfl⟩

/-- A selection leaves less to select. -/
theorem selectionWork_lt {s t : State} {e : Option Entry} (h : selectOne s = some (e, t)) :
    selectionWork t < selectionWork s := by
  simp only [selectionWork_eq]
  obtain ⟨o, rest, hl, he⟩ | ⟨m, ms, hm, -, rfl⟩ | ⟨p, ps, hp, -, rfl⟩ := selectOne_cases h
  · have ht : t = (emitStop s o rest).2 := congrArg Prod.snd he
    have hs := emitStop_snd s o rest
    rw [← ht] at hs
    have hp : t.pollPromote = s.pollPromote := (congrArg State.pollPromote hs).trans rfl
    have hm : t.motionQueue = s.motionQueue := (congrArg State.motionQueue hs).trans rfl
    have hwork := laneWork_emitStop s o rest
    rw [← ht, ← hl] at hwork
    rw [hp, hm]
    omega
  · simp only [hm, List.length_map, List.length_cons]
    omega
  · simp only [hp, List.length_cons]
    omega

/-- There is no candidate when the lane and both queues are empty. -/
theorem selectOne_eq_none_iff (s : State) :
    selectOne s = none ↔ s.lane = [] ∧ s.pollPromote = [] ∧ s.motionQueue = [] := by
  unfold selectOne selectBehindLane
  cases s.lane <;> cases s.motionQueue <;> cases s.pollPromote <;> simp
  split <;> simp

/-- Whether a POLL with slot `k` waits at the D-port. -/
def pollWaits (s : State) (k : Slot) : Bool := (s.pollPromote ++ s.motionQueue).any fun x => pollSlot x == some k

theorem pollWaits_eq (s : State) (k : Slot) :
    pollWaits s k = ((s.pollPromote.map pollSlot).contains (some k) || (s.motionQueue.map pollSlot).contains (some k)) := by
  have hany : ∀ l : List Entry, (l.any fun x => pollSlot x == some k) = (l.map pollSlot).contains (some k) := fun l => by
    induction l with
    | nil => rfl
    | cons x xs ih => rw [List.any_cons, List.map_cons, List.contains_cons, ih, Bool.beq_comm]
  rw [pollWaits, List.any_append, hany, hany]

theorem pollSlot_emitStop {s t : State} {e : Entry} {o : StopOrder} {rest : List StopOrder}
    (h : (some e, t) = emitStop s o rest) : e.role = .stop := by
  have hstop : ∀ a, (stopEntry s o a).1.role = .stop := fun a => by rw [stopEntry_fst]
  unfold emitStop at h
  split at h
  · cases h; exact hstop _
  · cases h; exact hstop _
  all_goals
    split at h
    · cases h
    · cases h; exact hstop _

/-- The POLLs that wait before a selection are the selected one and those that wait behind it. -/
theorem pollWaits_of_selectOne {s t : State} {e : Option Entry} (h : selectOne s = some (e, t)) (k : Slot) :
    pollWaits s k = ((e.any fun x => pollSlot x == some k) || pollWaits t k) := by
  obtain ⟨o, rest, -, he⟩ | ⟨m, ms, hm, rfl, rfl⟩ | ⟨p, ps, hp, rfl, rfl⟩ := selectOne_cases h
  · have ht : t = (emitStop s o rest).2 := congrArg Prod.snd he
    have hs := emitStop_snd s o rest
    rw [← ht] at hs
    have hp : t.pollPromote = s.pollPromote := (congrArg State.pollPromote hs).trans rfl
    have hm : t.motionQueue = s.motionQueue := (congrArg State.motionQueue hs).trans rfl
    have hno : (e.any fun x => pollSlot x == some k) = false := by
      cases e with
      | none => rfl
      | some x => simp [pollSlot, pollSlot_emitStop he]
    rw [hno, pollWaits, pollWaits, hp, hm]
    rfl
  · simp only [pollWaits_eq, pollSlot_behindSelected, hm, List.map_cons, List.contains_cons, Option.any_some,
      Bool.beq_comm (a := some k), Bool.or_left_comm]
  · simp only [pollWaits_eq, hp, List.map_cons, List.contains_cons, Option.any_some,
      Bool.beq_comm (a := some k), Bool.or_assoc]

/-! ## The D-port Mode at a selection (R38, R39) -/

theorem modeDiscards_eq_false {m : PortMode} {e : Entry} (hm : m ≠ .isolate) (h : m = .normal ∨ moveSlot e = none) :
    modeDiscards m e = false := by
  cases m with
  | normal => rfl
  | isolate => exact absurd rfl hm
  | holdOnly =>
    rw [Bool.eq_false_iff, ne_eq, modeDiscards_holdOnly_iff]
    rintro ⟨k, hk⟩
    obtain h | h := h
    · cases h
    · rw [h] at hk
      cases hk

/-- A discard leaves the lane, the queues, NEXT and ON_WIRE as they are. -/
theorem discardFrame_frame (s : State) (e : Entry) :
    discardFrame s e = { s with pollTimers := (discardFrame s e).pollTimers, notices := (discardFrame s e).notices } := by
  unfold discardFrame
  split
  · rfl
  · rw [startPollTimer_eq]
  · rw [raiseNotice_eq_with]

theorem selectionWork_discardFrame (s : State) (e : Entry) : selectionWork (discardFrame s e) = selectionWork s := by
  rw [discardFrame_frame]
  rfl

/-! ## Filling NEXT (R142) -/

/-- With enough fuel, more changes nothing: each selection leaves less to select. -/
theorem fillNext_of_le {fuel : Nat} {s : State} (h : selectionWork s ≤ fuel) : fillNext fuel s = fill s := by
  unfold fill
  induction fuel using Nat.strong_induction_on generalizing s with
  | _ fuel ih =>
    obtain ⟨w, hw⟩ : ∃ w, selectionWork s = w + 1 := ⟨_, selectionWork_eq s⟩
    obtain ⟨n, rfl⟩ : ∃ n, fuel = n + 1 := ⟨fuel - 1, by omega⟩
    have hcong : ∀ u, selectionWork u < selectionWork s → fillNext n u = fillNext w u := fun u hu => by
      rw [ih n (by omega) (by omega), ih w]
      all_goals omega
    rw [hw, fillNext, fillNext]
    split
    · rfl
    · split
      · rfl
      · next t ht => exact hcong t (selectionWork_lt ht)
      · next e t ht =>
        split
        · exact hcong _ (by rw [selectionWork_discardFrame]; exact selectionWork_lt ht)
        · rfl

section

variable {s t : State} {e : Entry}

theorem fill_of_full (h : s.nextFrame = some e) : fill s = s := by
  simp [fill, selectionWork, fillNext, h]

theorem fill_of_noCandidate (h : selectOne s = none) : fill s = s := by
  rw [fill, selectionWork_eq, fillNext, h]
  split <;> rfl

/-- A kept candidate fills NEXT. -/
theorem fill_of_kept (hn : s.nextFrame = none) (h : selectOne s = some (some e, t))
    (hk : modeDiscards t.portMode e = false) : fill s = { t with nextFrame := some e } := by
  rw [fill, selectionWork_eq, fillNext, hn, h]
  simp only [hk, Bool.false_eq_true, if_false]

/-- An order that leaves the lane without a frame lets the selection go on. -/
theorem fill_of_spent (hn : s.nextFrame = none) (h : selectOne s = some (none, t)) : fill s = fill t := by
  rw [fill, selectionWork_eq, fillNext, hn, h]
  have hlt := selectionWork_lt h
  rw [selectionWork_eq s] at hlt
  exact fillNext_of_le (Nat.le_of_lt_succ hlt)

/-- A discarded candidate lets the selection go on. -/
theorem fill_of_discarded (hn : s.nextFrame = none) (h : selectOne s = some (some e, t))
    (hk : modeDiscards t.portMode e = true) : fill s = fill (discardFrame t e) := by
  rw [fill, selectionWork_eq, fillNext, hn, h]
  simp only [hk, if_true]
  have hlt := selectionWork_lt h
  rw [selectionWork_eq s, ← selectionWork_discardFrame t e] at hlt
  exact fillNext_of_le (Nat.le_of_lt_succ hlt)

end

/-- What stands through a whole filling: ON_WIRE, the mode and the records; outside ISOLATE the poll timers too, and in
ISOLATE the notices. -/
structure FillKeeps (s t : State) : Prop where
  onWire : t.onWire = s.onWire
  portMode : t.portMode = s.portMode
  hoists : t.hoists = s.hoists
  pollTimers : s.portMode ≠ .isolate → t.pollTimers = s.pollTimers

theorem FillKeeps.refl (s : State) : FillKeeps s s := ⟨rfl, rfl, rfl, fun _ => rfl⟩

theorem FillKeeps.trans {s t u : State} (h1 : FillKeeps s t) (h2 : FillKeeps t u) : FillKeeps s u where
  onWire := h2.onWire.trans h1.onWire
  portMode := h2.portMode.trans h1.portMode
  hoists := h2.hoists.trans h1.hoists
  pollTimers hm := (h2.pollTimers (h1.portMode ▸ hm)).trans (h1.pollTimers hm)

theorem fillKeeps_selectOne {s t : State} {e : Option Entry} (h : selectOne s = some (e, t)) : FillKeeps s t := by
  rw [selectOne_frame h]
  exact ⟨rfl, rfl, rfl, fun _ => rfl⟩

theorem fillKeeps_discardFrame (s : State) (e : Entry) : FillKeeps s (discardFrame s e) := by
  refine ⟨?_, ?_, ?_, fun hm => ?_⟩
  · rw [discardFrame_frame]
  · rw [discardFrame_frame]
  · rw [discardFrame_frame]
  · unfold discardFrame
    split
    · rfl
    · next h => exact absurd h hm
    · simp

theorem fillKeeps_fillNext (fuel : Nat) (s : State) : FillKeeps s (fillNext fuel s) := by
  induction fuel generalizing s with
  | zero => exact .refl s
  | succ n ih =>
    unfold fillNext
    split
    · exact .refl s
    · split
      · exact .refl s
      · next t h => exact (fillKeeps_selectOne h).trans (ih t)
      · next e t h =>
        split
        · exact (fillKeeps_selectOne h).trans ((fillKeeps_discardFrame t e).trans (ih _))
        · exact (fillKeeps_selectOne h).trans ⟨rfl, rfl, rfl, fun _ => rfl⟩

/-- ISOLATE with NEXT empty: every candidate is discarded, and the POLLs among them start their timers (R39). -/
structure Drained (s t : State) : Prop where
  onWire : t.onWire = s.onWire
  nextFrame : t.nextFrame = none
  lane : t.lane = []
  pollPromote : t.pollPromote = []
  motionQueue : t.motionQueue = []
  notices : t.notices = s.notices
  uWire : t.uWire = s.uWire
  pollTimers : ∀ k, t.pollTimers.get k =
    if pollWaits s k = true ∧ (cfgAt s k).present = true then some 0 else s.pollTimers.get k

/-- Without a candidate there is nothing to discard. -/
theorem drained_of_noCandidate {s : State} (hn : s.nextFrame = none) (h : selectOne s = none) : Drained s s := by
  obtain ⟨hl, hp, hm⟩ := (selectOne_eq_none_iff s).1 h
  refine ⟨rfl, hn, hl, hp, hm, rfl, rfl, fun k => ?_⟩
  rw [if_neg]
  simp [pollWaits, hp, hm]

/-- The poll timer started for the selected frame, if it is a POLL, in the state behind the selection. -/
theorem startPollTimer_frame (s : State) (slot : Option Slot) :
    startPollTimer s slot = { s with pollTimers := startedTimers s slot } := startPollTimer_eq s slot

/-- What is drained behind a selection and its discard is drained before it. -/
theorem Drained.of_selectOne {s t v : State} {e : Option Entry} (h : selectOne s = some (e, t))
    (hd : Drained (startPollTimer t (e.bind pollSlot)) v) : Drained s v := by
  obtain ⟨hwire, hnext, hlane, hpromote, hqueue, hnotices, huwire, htimers⟩ := hd
  have hselected : ∀ k, (e.any fun x => pollSlot x == some k) = true ↔ e.bind pollSlot = some k := fun k => by
    cases e <;> simp
  obtain ⟨onWire, -, timers, notices, -, hoists, uWire⟩ := selectOne_stands h
  have hstarted := startPollTimer_frame t (e.bind pollSlot)
  have hcfg : ∀ k, cfgAt t k = cfgAt s k := cfgAt_congr hoists
  refine ⟨?_, hnext, hlane, hpromote, hqueue, ?_, ?_, fun k => ?_⟩
  · exact hwire.trans ((congrArg State.onWire hstarted).trans onWire)
  · exact hnotices.trans ((congrArg State.notices hstarted).trans notices)
  · exact huwire.trans ((congrArg State.uWire hstarted).trans uWire)
  · have hbehind : pollWaits (startPollTimer t (e.bind pollSlot)) k = pollWaits t k := by rw [hstarted]; rfl
    have hpresent : cfgAt (startPollTimer t (e.bind pollSlot)) k = cfgAt s k := by rw [hstarted]; exact hcfg k
    have hold : t.pollTimers.get k = s.pollTimers.get k := by rw [timers]
    rw [htimers, hbehind, hpresent, get_pollTimers_startPollTimer, hcfg, hold]
    simp only [pollWaits_of_selectOne h, Bool.or_eq_true, hselected]
    by_cases hp : (cfgAt s k).present = true
    · by_cases hw : pollWaits t k = true <;> simp [hp, hw]
    · simp [hp]

theorem drained_fill {s : State} (hn : s.nextFrame = none) (hi : s.portMode = .isolate) : Drained s (fill s) := by
  induction hw : selectionWork s using Nat.strong_induction_on generalizing s with
  | _ w ih =>
    cases h : selectOne s with
    | none => rw [fill_of_noCandidate h]; exact drained_of_noCandidate hn h
    | some r =>
      obtain ⟨e, t⟩ := r
      obtain ⟨-, next, -, -, mode, -, -⟩ := selectOne_stands h
      have htmode : t.portMode = .isolate := mode.trans hi
      have hfill : fill s = fill (startPollTimer t (e.bind pollSlot)) := by
        cases e with
        | none => exact fill_of_spent hn h
        | some x =>
          have hdiscard : discardFrame t x = startPollTimer t (pollSlot x) := by rw [discardFrame, htmode]
          rw [fill_of_discarded hn h (by rw [htmode]; rfl), hdiscard]
          rfl
      have hstarted := startPollTimer_frame t (e.bind pollSlot)
      have hnext : (startPollTimer t (e.bind pollSlot)).nextFrame = none :=
        (congrArg State.nextFrame hstarted).trans (next.trans hn)
      have hmode : (startPollTimer t (e.bind pollSlot)).portMode = .isolate :=
        (congrArg State.portMode hstarted).trans htmode
      have hless : selectionWork (startPollTimer t (e.bind pollSlot)) < w := by
        have hsame : selectionWork (startPollTimer t (e.bind pollSlot)) = selectionWork t := by rw [hstarted]; rfl
        rw [hsame, ← hw]
        exact selectionWork_lt h
      rw [hfill]
      exact .of_selectOne h (ih _ hless hnext hmode rfl)

/-! ## The Upstream Arbiter and the close of the event (R142, R177) -/

/-- The Upstream Arbiter changes the upstream side and the Seq alone. -/
theorem arbitrate_frame (s : State) :
    arbitrate s = { s with seqCounter := (arbitrate s).seqCounter, notices := (arbitrate s).notices,
                           relayQueue := (arbitrate s).relayQueue, replySlot := (arbitrate s).replySlot,
                           uWire := (arbitrate s).uWire, lastWasNotice := (arbitrate s).lastWasNotice } := by
  have hrelay : sendRelay s = { s with relayQueue := (sendRelay s).relayQueue, uWire := (sendRelay s).uWire,
                                       lastWasNotice := (sendRelay s).lastWasNotice } := by
    unfold sendRelay
    split <;> rfl
  have hnotice : ∀ i, sendNotice s i = { s with
      seqCounter := (sendNotice s i).seqCounter, notices := (sendNotice s i).notices, uWire := (sendNotice s i).uWire,
      lastWasNotice := (sendNotice s i).lastWasNotice } := fun i => by
    unfold sendNotice
    split <;> rfl
  unfold arbitrate
  split
  · rfl
  · split
    · split <;> rfl
    · split
      · split
        · rw [hnotice]
        · rw [hrelay]
      · rw [hrelay]

theorem arbitrate_of_busy {s : State} (h : s.uWire ≠ none) : arbitrate s = s := by
  unfold arbitrate
  split
  · rfl
  · next hw => exact absurd hw h

theorem exec_dPortTransmitCompletion (s : State) :
    exec .dPortTransmitCompletion s = execDPortTransmitCompletion s := rfl

theorem completion_of_sent {s : State} {sent : Entry} (h : s.onWire = some sent) :
    exec .dPortTransmitCompletion s = .next (finish { s with onWire := none }) := by
  rw [exec_dPortTransmitCompletion, execDPortTransmitCompletion, h]

/-- With a frame in NEXT, the completion sends it and fills NEXT once (R142). -/
theorem completion_of_next {s : State} {sent n : Entry} (h : s.onWire = some sent) (hn : s.nextFrame = some n) :
    exec .dPortTransmitCompletion s = .next (arbitrate (fill (sentOn s n))) := by
  have hfull : fill { s with onWire := none } = { s with onWire := none } := fill_of_full hn
  have hadvance : advance { s with onWire := none } = sentOn s n := by
    have htimers : startedTimers { s with onWire := none } (pollSlot n) = startedTimers s (pollSlot n) := by
      apply startedTimers_congr <;> rfl
    rw [advance_eq (s := { s with onWire := none }) rfl hn, sentOn, sentOn, htimers]
  rw [completion_of_sent h, finish, settleStage, hfull, hadvance]


/-! ## What the completion selects (R136, R143) -/

/-- An order of which no slot has an address leaves the lane without a frame (R136). -/
theorem emitStop_of_spent {s : State} {o : StopOrder} {rest : List StopOrder} (hs : namesSlots o.scope = true)
    (hno : ∀ k ∈ o.pendingList, addrOfSlot s k = none) : emitStop s o rest = (none, { s with lane := rest }) := by
  unfold emitStop
  split
  · next h => rw [h] at hs; cases hs
  · next h => rw [h] at hs; cases hs
  all_goals simp only [firstAddressed_of_none hno]

/-- The frame of a GROUP or HOIST order goes to its first addressed slot (R136). -/
theorem emitStop_of_addressed {s : State} {o : StopOrder} {rest : List StopOrder} {passed left : List Slot} {h : Slot}
    {a : LineAddr} (hs : namesSlots o.scope = true) (hl : o.pendingList = passed ++ h :: left)
    (hp : ∀ k ∈ passed, addrOfSlot s k = none) (ha : addrOfSlot s h = some a) :
    emitStop s o rest = (some (stopEntry s o a).1,
      { s with lane := if left = [] then rest else { o with pendingList := left } :: rest,
               seqCounter := (stopEntry s o a).2.seqCounter }) := by
  unfold emitStop
  split
  · next h => rw [h] at hs; cases hs
  · next h => rw [h] at hs; cases hs
  all_goals
    rw [hl, firstAddressed_append hp ha]
    simp only [List.isEmpty_iff]
    rw [stopEntry_snd]

theorem emitStop_of_all {s : State} {o : StopOrder} {rest : List StopOrder} (hs : o.scope = .all) :
    emitStop s o rest = (some (stopEntry s o 0xFFFF#16).1,
      { s with lane := rest, seqCounter := (stopEntry s o 0xFFFF#16).2.seqCounter }) := by
  rw [emitStop, hs]
  show (some (stopEntry s o 0xFFFF#16).1, { (stopEntry s o 0xFFFF#16).2 with lane := rest }) = _
  rw [stopEntry_snd]

theorem emitStop_of_raw {s : State} {o : StopOrder} {rest : List StopOrder} {a : LineAddr} (hs : o.scope = .raw a) :
    emitStop s o rest = (some (stopEntry s o a).1,
      { s with lane := rest, seqCounter := (stopEntry s o a).2.seqCounter }) := by
  rw [emitStop, hs]
  show (some (stopEntry s o a).1, { (stopEntry s o a).2 with lane := rest }) = _
  rw [stopEntry_snd]

theorem selectOne_of_lane {s : State} {o : StopOrder} {rest : List StopOrder} (h : s.lane = o :: rest) :
    selectOne s = some (emitStop s o rest) := by
  rw [selectOne, h]

theorem selectOne_of_emptyLane {s : State} (h : s.lane = []) : selectOne s = selectBehindLane s := by
  unfold selectOne
  split
  · next hl => rw [h] at hl; cases hl
  · rfl

/-- The rest of a begun batch goes before the Poll Promote Queue, any other entry behind it (R143). -/
theorem selectOne_of_motion {s : State} {m : Entry} {ms : List Entry} (hl : s.lane = []) (hm : s.motionQueue = m :: ms)
    (hfirst : isBegun m = true ∨ s.pollPromote = []) :
    selectOne s = some (some m, { s with motionQueue := behindSelected m ms }) := by
  rw [selectOne_of_emptyLane hl, ← takeMotion_eq]
  unfold selectBehindLane
  split
  · next h _ => rw [hm] at h; cases h
  · next h _ => rw [hm] at h; cases h
  · next h _ => rw [hm] at h; cases h; rfl
  · next h hp =>
    rw [hm] at h
    cases h
    exact if_pos (hfirst.resolve_right (by rw [hp]; exact nofun))

theorem selectOne_of_promote {s : State} {p : Entry} {ps : List Entry} (hl : s.lane = []) (hp : s.pollPromote = p :: ps)
    (hfirst : ∀ e, s.motionQueue.head? = some e → isBegun e = false) :
    selectOne s = some (some p, { s with pollPromote := ps }) := by
  rw [selectOne_of_emptyLane hl]
  unfold selectBehindLane
  split
  · next h => rw [hp] at h; cases h
  · next h => rw [hp] at h; cases h; rfl
  · next h => rw [hp] at h; cases h
  · next m ms _ _ hm h =>
    rw [hp] at h
    cases h
    exact if_neg (Bool.eq_false_iff.1 (hfirst m (by rw [hm]; rfl)))

/-- The frames and queues that the Upstream Arbiter leaves as the filling of NEXT has left them. -/
theorem arbitrate_stands (s : State) :
    (arbitrate s).onWire = s.onWire ∧ (arbitrate s).nextFrame = s.nextFrame ∧ (arbitrate s).lane = s.lane ∧
    (arbitrate s).pollPromote = s.pollPromote ∧ (arbitrate s).motionQueue = s.motionQueue ∧
    (arbitrate s).pollTimers = s.pollTimers := by
  rw [arbitrate_frame]
  exact ⟨rfl, rfl, rfl, rfl, rfl, rfl⟩

/-- A MOVE that HOLD_ONLY discards behind the completion can as well be discarded before it (R38). -/
theorem discard_sentOn {s : State} {n m : Entry} {h : Slot} (q : List Entry) (hmode : s.portMode = .holdOnly)
    (hm : moveSlot m = some h) :
    discardFrame { sentOn s n with motionQueue := q } m =
      sentOn { refusedWith s (some h) (ownGroup s h) 14#8 0x21#8 m.frame.seq with motionQueue := q } n := by
  have hdiscard : discardFrame { sentOn s n with motionQueue := q } m =
      raiseNotice { sentOn s n with motionQueue := q } .refuse
        { hoist := some h, group := ownGroup s h, code := 14#8, detail := 0x21#8, relatedSeq := m.frame.seq } := by
    unfold discardFrame
    rw [show ({ sentOn s n with motionQueue := q } : State).portMode = .holdOnly from hmode]
    simp only [hm]
    rfl
  have hnotices := notices_raiseNotice_congr (s := s) (t := { sentOn s n with motionQueue := q }) rfl rfl rfl .refuse
    { hoist := some h, group := ownGroup s h, code := 14#8, detail := 0x21#8, relatedSeq := m.frame.seq }
  have htimers : startedTimers { refusedWith s (some h) (ownGroup s h) 14#8 0x21#8 m.frame.seq with motionQueue := q }
      (pollSlot n) = startedTimers s (pollSlot n) := startedTimers_congr (by simp) (by simp) _
  rw [hdiscard, raiseNotice_eq_with, hnotices, sentOn, sentOn, htimers, refusedWith,
    raiseNotice_eq_with s]

/-- What a kept candidate leaves at the D-port behind the whole completion. -/
theorem completion_of_kept {s u : State} {n e : Entry} (h : selectOne (sentOn s n) = some (some e, u))
    (hk : modeDiscards s.portMode e = false) :
    (arbitrate (fill (sentOn s n))).nextFrame = some e ∧ (arbitrate (fill (sentOn s n))).lane = u.lane ∧
    (arbitrate (fill (sentOn s n))).pollPromote = u.pollPromote ∧
    (arbitrate (fill (sentOn s n))).motionQueue = u.motionQueue := by
  obtain ⟨-, -, -, -, mode, -, -⟩ := selectOne_stands h
  have hmode : u.portMode = s.portMode := mode
  rw [fill_of_kept rfl h (hmode ▸ hk)]
  obtain ⟨-, hnext, hlane, hpromote, hqueue, -⟩ := arbitrate_stands { u with nextFrame := some e }
  exact ⟨hnext, hlane, hpromote, hqueue⟩

/-- In ISOLATE the completion sends the frame in NEXT and discards everything behind it (R39). -/
theorem drained_completion {s : State} {sent : Entry} (hs : s.onWire = some sent) (hi : s.portMode = .isolate) :
    ∃ v, exec .dPortTransmitCompletion s = .next (arbitrate v) ∧ v.onWire = s.nextFrame ∧ v.nextFrame = none ∧
      v.lane = [] ∧ v.pollPromote = [] ∧ v.motionQueue = [] ∧ v.notices = s.notices ∧ v.uWire = s.uWire ∧
      ∀ k, v.pollTimers.get k =
        if (s.nextFrame.toList ++ s.pollPromote ++ s.motionQueue).any (fun e => pollSlot e == some k) = true ∧
          (cfgAt s k).present = true then some 0 else s.pollTimers.get k := by
  cases hn : s.nextFrame with
  | some n =>
    obtain ⟨hwire, hnext, hlane, hpromote, hqueue, hnotices, huwire, htimers⟩ := drained_fill (s := sentOn s n) rfl hi
    refine ⟨_, completion_of_next hs hn, hwire, hnext, hlane, hpromote, hqueue, hnotices, huwire, fun k => ?_⟩
    have hold : (sentOn s n).pollTimers.get k =
        if pollSlot n = some k ∧ (cfgAt s k).present = true then some 0 else s.pollTimers.get k :=
      get_pollTimers_startPollTimer s (pollSlot n) k
    have hwaits : pollWaits (sentOn s n) k = pollWaits s k := rfl
    have hcfg : cfgAt (sentOn s n) k = cfgAt s k := rfl
    have hany : ((some n).toList ++ s.pollPromote ++ s.motionQueue).any (fun e => pollSlot e == some k) =
        ((pollSlot n == some k) || pollWaits s k) := by simp [pollWaits]
    rw [htimers, hold, hwaits, hcfg, hany]
    by_cases hp : (cfgAt s k).present = true
    · by_cases hw : pollWaits s k = true <;> simp [hp, hw]
    · simp [hp]
  | none =>
    have hdrained := drained_fill (s := { s with onWire := none }) hn hi
    obtain ⟨hwire, hnext, hlane, hpromote, hqueue, hnotices, huwire, htimers⟩ := hdrained
    have hadvance : advance (fill { s with onWire := none }) = fill { s with onWire := none } := by
      unfold advance
      rw [hwire, hnext]
    have hagain : fill (fill { s with onWire := none }) = fill { s with onWire := none } :=
      fill_of_noCandidate ((selectOne_eq_none_iff _).2 ⟨hlane, hpromote, hqueue⟩)
    refine ⟨fill { s with onWire := none }, ?_, hwire, hnext, hlane, hpromote, hqueue, hnotices, huwire, htimers⟩
    rw [completion_of_sent hs, finish, settleStage, hadvance, hagain]

/-- Settles O57: the completion sends the frame in NEXT, and one selection after another, each leaving less work, fills NEXT
again or finds no candidate left. -/
theorem downstreamSelectionOrder : Obligations.DownstreamSelectionOrder := by
  refine ⟨fun s hs => ?_, fun s sent hs => completion_of_sent hs, fun s sent n hs hn hmode => ?_,
    fun s sent hs hi => ?_⟩
  · rw [exec_dPortTransmitCompletion, execDPortTransmitCompletion, hs]
  · intro sends
    refine ⟨fun o behind hl hnames hno => ?_, fun m ms h hl hm hfirst hhold hmove => ?_,
      arbitrate (fill (sentOn s n)), completion_of_next hs hn, ?_⟩
    · have hspent : fill (sentOn s n) = fill (sentOn { s with lane := behind } n) := by
        have htimers : startedTimers { s with lane := behind } (pollSlot n) = startedTimers s (pollSlot n) := by
          apply startedTimers_congr <;> rfl
        rw [fill_of_spent rfl ((selectOne_of_lane (s := sentOn s n) hl).trans
          (congrArg some (emitStop_of_spent (s := sentOn s n) hnames hno))), sentOn, sentOn, htimers]
      rw [completion_of_next hs hn, completion_of_next (s := { s with lane := behind }) hs hn, hspent]
    · have hsent : (refusedWith s (some h) (ownGroup s h) 14#8 0x21#8 m.frame.seq).onWire = some sent := by simp [hs]
      have hnext : (refusedWith s (some h) (ownGroup s h) 14#8 0x21#8 m.frame.seq).nextFrame = some n := by simp [hn]
      have hdiscards : modeDiscards s.portMode m = true := by
        rw [hhold]
        exact (modeDiscards_holdOnly_iff m).2 ⟨h, hmove⟩
      have hbefore := completion_of_next (n := n) (s := { refusedWith s (some h) (ownGroup s h) 14#8 0x21#8 m.frame.seq with
        motionQueue := behindSelected m ms }) hsent hnext
      rw [completion_of_next hs hn, fill_of_discarded rfl (selectOne_of_motion (s := sentOn s n) hl hm hfirst) hdiscards,
        discard_sentOn _ hhold hmove]
      exact hbefore.symm
    · obtain ⟨hwire, -, -, -, -, htimers⟩ := arbitrate_stands (fill (sentOn s n))
      have hkeeps : FillKeeps (sentOn s n) (fill (sentOn s n)) := fillKeeps_fillNext _ _
      refine ⟨hwire.trans hkeeps.onWire, fun k => ?_, fun o behind hl => ?_, fun hl m ms p ps => ⟨?_, ?_⟩, ?_⟩
      · rw [htimers, hkeeps.pollTimers hmode]
        exact get_pollTimers_startPollTimer s (pollSlot n) k
      · intro stopTo
        have hselect := selectOne_of_lane (s := sentOn s n) hl
        have hentry : ∀ a, (stopEntry (sentOn s n) o a).1 = stopTo a := stopEntry_fst (sentOn s n) o
        have hkept : ∀ a, modeDiscards s.portMode (stopTo a) = false := fun a => modeDiscards_eq_false hmode (.inr rfl)
        refine ⟨fun hall => ?_, fun a hraw => ?_, fun hnames passed h left a hlist hp ha => ?_⟩
        · rw [emitStop_of_all hall, hentry] at hselect
          obtain ⟨hnext, hlane, -, -⟩ := completion_of_kept hselect (hkept _)
          exact ⟨hnext, hlane⟩
        · rw [emitStop_of_raw hraw, hentry] at hselect
          obtain ⟨hnext, hlane, -, -⟩ := completion_of_kept hselect (hkept _)
          exact ⟨hnext, hlane⟩
        · rw [emitStop_of_addressed (s := sentOn s n) hnames hlist hp ha, hentry] at hselect
          obtain ⟨hnext, hlane, -, -⟩ := completion_of_kept hselect (hkept _)
          exact ⟨hnext, hlane⟩
      · intro hm hfirst hsends
        obtain ⟨hnext, -, hpromote, hqueue⟩ := completion_of_kept
          (selectOne_of_motion (s := sentOn s n) hl hm hfirst) (modeDiscards_eq_false hmode hsends)
        exact ⟨hnext, hqueue, hpromote⟩
      · intro hp hfirst hsends
        obtain ⟨hnext, -, hpromote, hqueue⟩ := completion_of_kept
          (selectOne_of_promote (s := sentOn s n) hl hp hfirst) (modeDiscards_eq_false hmode hsends)
        exact ⟨hnext, hpromote, hqueue⟩
      · intro hl hp hm
        rw [fill_of_noCandidate ((selectOne_eq_none_iff (sentOn s n)).2 ⟨hl, hp, hm⟩)]
        exact (arbitrate_stands (sentOn s n)).2.1
  · obtain ⟨v, hexec, hwire, hnext, hlane, hpromote, hqueue, hnotices, huwire, htimers⟩ := drained_completion hs hi
    obtain ⟨awire, anext, alane, apromote, aqueue, atimers⟩ := arbitrate_stands v
    refine ⟨_, hexec, awire.trans hwire, anext.trans hnext, alane.trans hlane, apromote.trans hpromote,
      aqueue.trans hqueue, fun hbusy => ?_, fun k => ?_⟩
    · rw [arbitrate_of_busy (huwire ▸ hbusy), hnotices]
    · rw [atimers, htimers]

end Sys2Proof.Machine
end


/-! # Sitting 1: the form, merge and validation of a WRITE -/
section

namespace Sys2Proof.Machine

/-! ## Form and merge (R186 steps 1 and 2) -/

/-- The bytes of the selected fields, from field number `i` on, in increasing number. -/
def chosen (mask : BitVec 16) : Nat → List (List Byte) → List Byte
  | _, [] => []
  | i, x :: xs => (if mask.getLsbD i then x else []) ++ chosen mask (i + 1) xs

theorem chosen_eq_flatMap (mask : BitVec 16) (i : Nat) (fields : List (List Byte)) :
    chosen mask i fields =
      ((List.range fields.length).filter fun j => mask.getLsbD (i + j)).flatMap fun j => fields.getD j [] := by
  induction fields generalizing i with
  | nil => rfl
  | cons x xs ih =>
    have htail : ((List.map Nat.succ (List.range xs.length)).filter fun j => mask.getLsbD (i + j)).flatMap
        (fun j => (x :: xs).getD j []) = chosen mask (i + 1) xs := by
      rw [ih, List.filter_map, List.flatMap_map]
      simp only [Function.comp_def, Nat.succ_eq_add_one, List.getD_cons_succ, Nat.add_assoc, Nat.add_comm 1]
    rw [chosen, List.length_cons, List.range_succ_eq_map, List.filter_cons, ← htail]
    by_cases h : mask.getLsbD i = true
    · simp [h]
    · simp [h]

/-- A merge puts the Values at the selected fields and leaves the others (R186). -/
theorem mergeFrom_some {mask : BitVec 16} {i : Nat} {fields raw : List (List Byte)} {values : List Byte}
    (h : mergeFrom mask i fields values = some raw) :
    raw.length = fields.length ∧ chosen mask i raw = values ∧
    ∀ j, j < fields.length → (raw.getD j []).length = (fields.getD j []).length ∧
      (mask.getLsbD (i + j) = false → raw.getD j [] = fields.getD j []) := by
  induction fields generalizing i values raw with
  | nil =>
    cases values with
    | nil => cases h; exact ⟨rfl, rfl, fun j hj => absurd hj (by simp)⟩
    | cons v vs => cases h
  | cons x xs ih =>
    have hstep : ∀ (y : List Byte) (r : List (List Byte)) (vs : List Byte), mergeFrom mask (i + 1) xs vs = some r →
        y.length = x.length → (mask.getLsbD i = false → y = x) → (if mask.getLsbD i then y else []) ++ vs = values →
        (y :: r).length = (x :: xs).length ∧ chosen mask i (y :: r) = values ∧
        ∀ j, j < (x :: xs).length → ((y :: r).getD j []).length = ((x :: xs).getD j []).length ∧
          (mask.getLsbD (i + j) = false → (y :: r).getD j [] = (x :: xs).getD j []) := by
      intro y r vs hr hlen hsame hvalues
      obtain ⟨hlength, hchosen, hfield⟩ := ih hr
      refine ⟨by simp [hlength], by rw [chosen, hchosen, hvalues], fun j hj => ?_⟩
      cases j with
      | zero => exact ⟨hlen, hsame⟩
      | succ j =>
        have := hfield j (by simpa using hj)
        rwa [show i + 1 + j = i + (j + 1) by omega] at this
    rw [mergeFrom] at h
    split at h
    · next hm =>
      split at h
      · cases h
      · next hlen =>
        obtain ⟨r, hr, rfl⟩ := Option.map_eq_some_iff.1 h
        exact hstep _ r _ hr (by rw [List.length_take]; omega) (by simp [hm]) (by simp [hm])
    · next hm =>
      obtain ⟨r, hr, rfl⟩ := Option.map_eq_some_iff.1 h
      exact hstep x r values hr rfl (fun _ => rfl) (by simp [hm])

/-- The merge fails exactly when the Values have another length than the selected fields (R186). -/
theorem mergeFrom_eq_none_iff (mask : BitVec 16) (i : Nat) (fields : List (List Byte)) (values : List Byte) :
    mergeFrom mask i fields values = none ↔ values.length ≠ (chosen mask i fields).length := by
  induction fields generalizing i values with
  | nil => cases values <;> simp [mergeFrom, chosen]
  | cons x xs ih =>
    rw [mergeFrom, chosen, List.length_append]
    split
    · split
      · next hlen => simp only [true_iff]; omega
      · next hlen =>
        rw [Option.map_eq_none_iff, ih, List.length_drop]
        omega
    · rw [Option.map_eq_none_iff, ih]
      simp

/-- A mask selects no field behind the record's exactly when it is less than the power of two. -/
theorem two_pow_le_toNat_iff (mask : BitVec 16) (n : Nat) :
    2 ^ n ≤ mask.toNat ↔ ∃ j, n ≤ j ∧ mask.getLsbD j = true := by
  constructor
  · intro h
    obtain ⟨j, hj, hbit⟩ := Nat.exists_ge_and_testBit_of_ge_two_pow h
    exact ⟨j, hj, hbit⟩
  · rintro ⟨j, hj, hbit⟩
    exact (Nat.pow_le_pow_right (by decide) hj).trans (Nat.ge_two_pow_of_testBit hbit)

/-! ## The first failing check (R186 step 3) -/

/-- The model's checks with their reason codes. -/
def coded (c : Bool × Nat × Reason) : FailedCheck := (c.1, c.2.1, reasonCode c.2.2)

/-- The refusal that the first failing check gives. -/
theorem firstFailure_of_find? {l : List (Bool × Nat × Reason)} {c : FailedCheck}
    (h : (l.map coded).find? (·.1) = some c) : ∃ r, firstFailure l = some (c.2.1, r) ∧ reasonCode r = c.2.2 := by
  induction l with
  | nil => cases h
  | cons x xs ih =>
    obtain ⟨fails, i, r⟩ := x
    rw [List.map_cons, List.find?_cons] at h
    cases fails with
    | true => cases h; exact ⟨r, rfl, rfl⟩
    | false => exact ih h

theorem outside_eq (n lo hi : Nat) : outside n lo hi = decide (n < lo ∨ hi < n) := by
  rw [outside, Bool.decide_or]

/-! ## The record that a frame names (R184) -/

theorem tableOf_of_toNat {b : Byte} {n : Nat} (h : b.toNat = n) : tableOf b = tableOf (BitVec.ofNat 8 n) := by
  rw [← h, BitVec.ofNat_toNat, BitVec.setWidth_eq]

theorem tableOf_of_gt {b : Byte} (h : 6 < b.toNat) : tableOf b = none := by
  have hne : ∀ n, n ≤ 6 → b ≠ BitVec.ofNat 8 n := fun n hn e => by
    rw [e, BitVec.toNat_ofNat] at h
    omega
  rw [tableOf, if_neg (hne 0 (by omega)), if_neg (hne 1 (by omega)), if_neg (hne 2 (by omega)),
    if_neg (hne 3 (by omega)), if_neg (hne 4 (by omega)), if_neg (hne 5 (by omega)), if_neg (hne 6 (by omega))]

section

variable {f : Frame}

theorem recordOf_hoist (ht : (payloadByte f 5).toNat = 1) (h : Slot) (hi : (payloadByte f 6).toNat = h.val) :
    recordOf f = .ok (.hoist h) := by
  rw [recordOf, mgmtTable, tableOf_of_toNat ht, mgmtIndex, indexIn_of_lt h hi]
  rfl

theorem recordOf_group (ht : (payloadByte f 5).toNat = 2) (g : GroupNo) (hi : (payloadByte f 6).toNat = g.val) :
    recordOf f = .ok (.group g) := by
  rw [recordOf, mgmtTable, tableOf_of_toNat ht, mgmtIndex, indexIn_of_lt g hi]
  rfl

theorem recordOf_map (ht : (payloadByte f 5).toNat = 3) (i : MapNo) (hi : (payloadByte f 6).toNat = i.val) :
    recordOf f = .ok (.map i) := by
  rw [recordOf, mgmtTable, tableOf_of_toNat ht, mgmtIndex, indexIn_of_lt i hi]
  rfl

theorem recordOf_filter (ht : (payloadByte f 5).toNat = 4) (i : FilterNo) (hi : (payloadByte f 6).toNat = i.val) :
    recordOf f = .ok (.filter i) := by
  rw [recordOf, mgmtTable, tableOf_of_toNat ht, mgmtIndex, indexIn_of_lt i hi]
  rfl

theorem recordOf_track (ht : (payloadByte f 5).toNat = 5) (i : TrackIx) (hi : (payloadByte f 6).toNat = i.val) :
    recordOf f = .ok (.track i) := by
  rw [recordOf, mgmtTable, tableOf_of_toNat ht, mgmtIndex, indexIn_of_lt i hi]
  rfl

theorem recordOf_line (ht : (payloadByte f 5).toNat = 6) (hi : (payloadByte f 6).toNat = 0) :
    recordOf f = .ok .line := by
  rw [recordOf, mgmtTable, tableOf_of_toNat ht, mgmtIndex, hi]
  rfl

theorem recordOf_badTable (ht : (payloadByte f 5).toNat = 0 ∨ 6 < (payloadByte f 5).toNat) :
    recordOf f = .error .badTable := by
  rcases ht with ht | ht
  · rw [recordOf, mgmtTable, tableOf_of_toNat ht]
    rfl
  · rw [recordOf, mgmtTable, tableOf_of_gt ht]

theorem recordOf_badIndex_of_hoist (ht : (payloadByte f 5).toNat = 1) (hi : 64 ≤ (payloadByte f 6).toNat) :
    recordOf f = .error .badIndex := by
  rw [recordOf, mgmtTable, tableOf_of_toNat ht, mgmtIndex, indexIn_of_le hi]
  rfl

theorem recordOf_badIndex_of_sixteen
    (ht : (payloadByte f 5).toNat = 2 ∨ (payloadByte f 5).toNat = 3 ∨ (payloadByte f 5).toNat = 4)
    (hi : 16 ≤ (payloadByte f 6).toNat) : recordOf f = .error .badIndex := by
  rcases ht with ht | ht | ht <;>
    (rw [recordOf, mgmtTable, tableOf_of_toNat ht, mgmtIndex, indexIn_of_le hi]; rfl)

theorem recordOf_badIndex_of_track (ht : (payloadByte f 5).toNat = 5) (hi : 128 ≤ (payloadByte f 6).toNat) :
    recordOf f = .error .badIndex := by
  rw [recordOf, mgmtTable, tableOf_of_toNat ht, mgmtIndex, indexIn_of_le hi]
  rfl

/-- Index 1 of the line table is the part identity, which READ alone has (R185, R186). -/
theorem recordOf_of_line_index (ht : (payloadByte f 5).toNat = 6) (hi : 1 ≤ (payloadByte f 6).toNat) :
    recordOf f = .error .badIndex ∨ recordOf f = .ok .identity := by
  have htable : recordOf f = if mgmtIndex f = 0 then .ok .line else if mgmtIndex f = 1 then .ok .identity
      else .error .badIndex := by
    rw [recordOf, mgmtTable, tableOf_of_toNat ht]
    rfl
  rw [htable, mgmtIndex, if_neg (by omega)]
  split
  · exact .inr rfl
  · exact .inl rfl

/-! ### What WRITE does at each table -/

variable {s : State}

theorem writeOp_hoist (ht : (payloadByte f 5).toNat = 1) (h : Slot) (hi : (payloadByte f 6).toNat = h.val) :
    writeOp s f = writeRecord s f (hoistFields (cfgAt s h)) (validateHoist s h)
      (fun raw => refusesWhen (hoistProtected s h (hoistOfFields raw)) .isProtected)
      (fun raw => commitHoist s h (hoistOfFields raw)) := by
  rw [writeOp, recordOf_hoist ht h hi]

theorem writeOp_group (ht : (payloadByte f 5).toNat = 2) (g : GroupNo) (hi : (payloadByte f 6).toNat = g.val) :
    writeOp s f = writeRecord s f (groupFields (groupAt s g).cfg) validateGroup
      (fun _ => refusesWhen (groupProtected s g) .isProtected) (fun raw => commitGroup s g (groupOfFields raw)) := by
  rw [writeOp, recordOf_group ht g hi]

theorem writeOp_map (ht : (payloadByte f 5).toNat = 3) (i : MapNo) (hi : (payloadByte f 6).toNat = i.val) :
    writeOp s f = writeRecord s f (mapFields (s.addressMap.get i)) (validateMap s i)
      (fun raw => refusesWhen (mapProtected s i (mapOfFields raw)) .isProtected)
      (fun raw => commitMap s i (mapOfFields raw)) := by
  rw [writeOp, recordOf_map ht i hi]

theorem writeOp_filter (ht : (payloadByte f 5).toNat = 4) (i : FilterNo) (hi : (payloadByte f 6).toNat = i.val) :
    writeOp s f = writeRecord s f (filterFields (s.filters.get i)) validateFilter (fun _ => none)
      (fun raw => commitFilter s i (filterOfFields raw)) := by
  rw [writeOp, recordOf_filter ht i hi]

theorem writeOp_track (ht : (payloadByte f 5).toNat = 5) (i : TrackIx) (hi : (payloadByte f 6).toNat = i.val) :
    writeOp s f = writeRecord s f (trackFields (s.trackPool.get i)) validateTrack
      (fun _ => refusesWhen (anyTrackRuns s) .trackActive) (fun raw => commitTrack s i (trackOfFields raw)) := by
  rw [writeOp, recordOf_track ht i hi]

theorem writeOp_line (ht : (payloadByte f 5).toNat = 6) (hi : (payloadByte f 6).toNat = 0) :
    writeOp s f = writeRecord s f (lineFields s.line) validateLine (fun _ => none)
      (fun raw => commitLine s (lineOfFields raw) ((mgmtMask f).getLsbD 8)) := by
  rw [writeOp, recordOf_line ht hi]

end

/-! ## A WRITE answered (R186) -/

theorem exec_write (s : State) : exec .write s = takeHead s (mgmtTaken (· == 0x02#8) writeOp) := rfl

section

variable {s : State} {f : Frame} {epoch : BitVec 16} {rest : List IntakeEntry}

/-- A refusal with Values is answered and changes nothing (R182, R186). -/
theorem write_refused (h : MgmtTakes s f epoch rest 0x02#8) {r : Reason} {values : List Byte}
    (hop : writeOp { s with intake := rest } f =
      { state := { s with intake := rest }, reason := some r, values := values }) :
    exec .write s = .next (finish (answeredWith s rest (refusedReply f (reasonCode r) values))) := by
  rw [exec_write, takeHead_mgmt h, hop]
  rfl

/-- A table without the record is refused before any field is read (R184). -/
theorem write_refused_of_badIndex (h : MgmtTakes s f epoch rest 0x02#8)
    (hbad : recordOf f = .error .badIndex ∨ recordOf f = .ok .identity) :
    exec .write s = .next (finish (answeredWith s rest (refusedReply f 32#8 []))) := by
  refine write_refused h (r := .badIndex) ?_
  rcases hbad with e | e <;> rw [writeOp, e] <;> rfl

/-- The form and the validation of a WRITE, whose checks are told by a list that fails where the model's fails first. -/
theorem write_checks (htake : MgmtTakes s f epoch rest 0x02#8) {present : List (List Byte)}
    {validate : List (List Byte) → Option (Nat × Reason)} {protection : List (List Byte) → Option Reason}
    {commit : List (List Byte) → State}
    (hop : writeOp { s with intake := rest } f =
      writeRecord { s with intake := rest } f present validate protection commit)
    {model : List (List Byte) → List (Bool × Nat × Reason)} (hmodel : ∀ raw, validate raw = firstFailure (model raw))
    {list : List (List Byte) → List FailedCheck}
    (hlist : ∀ raw, (list raw).find? (·.1) = ((model raw).map coded).find? (·.1)) :
    (mergeFields (payloadByte f 7 ++ payloadByte f 8) present (f.payload.drop 9) = none →
      exec .write s = .next (finish (answeredWith s rest (refusedReply f 1#8 [])))) ∧
    ∀ raw, mergeFields (payloadByte f 7 ++ payloadByte f 8) present (f.payload.drop 9) = some raw →
      ∀ c, (list raw).find? (·.1) = some c →
        exec .write s = .next (finish (answeredWith s rest (refusedReply f c.2.2 [BitVec.ofNat 8 c.2.1]))) := by
  refine ⟨fun hnone => write_refused htake (r := .malformed) ?_, fun raw hraw c hc => ?_⟩
  · have hmerge : mergeFields (mgmtMask f) present (mgmtValues f) = none := hnone
    rw [hop, writeRecord, hmerge]
    rfl
  · have hmerge : mergeFields (mgmtMask f) present (mgmtValues f) = some raw := hraw
    rw [hlist] at hc
    obtain ⟨r, hr, hcode⟩ := firstFailure_of_find? hc
    rw [← hcode]
    refine write_refused htake (r := r) ?_
    rw [hop, writeRecord, hmerge]
    simp only [hmodel, hr]

end

/-! ## The checks of each table (R3, R41, R75, R115, R148, R161) -/

/-- GROUP_FULL over the fields of a merged hoist record (R3). -/
theorem groupFull_hoistOfFields (s : State) (h : Slot) (raw : List (List Byte)) :
    groupFull s h (hoistOfFields raw) = decide (fieldNat raw 1 < 16 ∧
      16 ≤ ((members s (Fin.ofNat 16 (fieldNat raw 1))).filter fun k => k != h).length ∧
      ((cfgAt s h).group ≠ some (Fin.ofNat 16 (fieldNat raw 1)) ∨
        ((cfgAt s h).present = false ∧ fieldNat raw 0 = 1))) := by
  by_cases hg : fieldNat raw 1 < 16
  · have hnamed : (hoistOfFields raw).group = some (Fin.ofNat 16 (fieldNat raw 1)) := by
      show groupOfNat (fieldNat raw 1) = _
      rw [groupOfNat, dif_pos hg, Option.some.injEq]
      exact Fin.ext (Nat.mod_eq_of_lt hg).symm
    rw [Bool.eq_iff_iff, decide_eq_true_iff]
    simp only [groupFull, hnamed]
    simp [hg, hoistOfFields]
  · have hnone : (hoistOfFields raw).group = none := dif_neg hg
    rw [groupFull, hnone]
    simp [hg]

/-- MAP_OVERLAP over the fields of a merged map entry whose base and slot base are in range (R41). -/
theorem mapOverlaps_mapOfFields (s : State) (i : MapNo) {raw : List (List Byte)} (h1 : fieldNat raw 1 < 65536)
    (h3 : fieldNat raw 3 < 64) :
    mapOverlaps s i (mapOfFields raw) = decide (fieldNat raw 0 = 1 ∧
      ∃ j, j ≠ i ∧ (s.addressMap.get j).enabled = true ∧
        ((fieldNat raw 1 < (s.addressMap.get j).base.toNat + 2 ^ (s.addressMap.get j).spanExp ∧
          (s.addressMap.get j).base.toNat < fieldNat raw 1 + 2 ^ fieldNat raw 2) ∨
        (fieldNat raw 3 < (s.addressMap.get j).slotBase.val + 2 ^ (s.addressMap.get j).spanExp ∧
          (s.addressMap.get j).slotBase.val < fieldNat raw 3 + 2 ^ fieldNat raw 2))) := by
  have hbase : (mapOfFields raw).base.toNat = fieldNat raw 1 := (BitVec.toNat_ofNat _ _).trans (Nat.mod_eq_of_lt h1)
  have hslot : (mapOfFields raw).slotBase.val = fieldNat raw 3 := Nat.mod_eq_of_lt h3
  have hspan : (mapOfFields raw).spanExp = fieldNat raw 2 := rfl
  have henabled : (mapOfFields raw).enabled = true ↔ fieldNat raw 0 = 1 := beq_iff_eq
  rw [Bool.eq_iff_iff, decide_eq_true_iff]
  simp only [mapOverlaps, rangesMeet, hbase, hslot, hspan, spanOf, Bool.and_eq_true, henabled, List.any_eq_true,
    Bool.or_eq_true, decide_eq_true_eq, bne_iff_ne, allMapEntries, List.mem_finRange, true_and, and_assoc]

/-- Two lists of checks that agree up to a last check, which they tell alike once no check before it fails. -/
theorem find?_append_congr {l : List FailedCheck} {x y : FailedCheck} (h : (∀ c ∈ l, c.1 = false) → x = y) :
    (l ++ [x]).find? (·.1) = (l ++ [y]).find? (·.1) := by
  rw [List.find?_append, List.find?_append]
  cases hl : l.find? (·.1) with
  | some c => rfl
  | none =>
    rw [h fun c hc => Bool.eq_false_iff.2 (List.find?_eq_none.1 hl c hc)]

/-- A byte that names one of `hi` + 1 records or none is refused outside those values (R3, R75). -/
theorem outside_and_ne (n hi none : Nat) : (outside n 0 hi && n != none) = decide (hi < n ∧ n ≠ none) := by
  rw [Bool.eq_iff_iff, Bool.and_eq_true, decide_eq_true_iff, outside_eq, decide_eq_true_iff, bne_iff_ne]
  simp

/-- Settles O51: a merge is read from its own recursion, and each table's checks are the statement's, up to the map
entry's overlap, which is told by the fields once the checks before it have passed. -/
theorem writeFormAndRefusal : Obligations.WriteFormAndRefusal := by
  refine ⟨fun mask fields values => ?_, fun s f epoch rest htake => ?_⟩
  · intro selected
    have hchosen : ∀ raw : List (List Byte), raw.length = fields.length →
        (selected.flatMap fun i => raw.getD i []) = chosen mask 0 raw := fun raw hlen => by
      rw [chosen_eq_flatMap, hlen]
      simp only [Nat.zero_add]
      rfl
    refine ⟨fun raw h => ?_, ?_⟩
    · have hmerge : mergeFrom mask 0 fields values = some raw := by
        unfold mergeFields at h
        split at h
        · cases h
        · exact h
      obtain ⟨hlen, hvalues, hfield⟩ := mergeFrom_some hmerge
      refine ⟨hlen, (hchosen raw hlen).trans hvalues, fun i hi => ?_⟩
      have := hfield i hi
      rwa [Nat.zero_add] at this
    · have hwidths : (selected.map fun i => (fields.getD i []).length).sum = (chosen mask 0 fields).length := by
        rw [← hchosen fields rfl, List.length_flatMap]
      rw [hwidths, ← mergeFrom_eq_none_iff, ← two_pow_le_toNat_iff, mergeFields]
      split
      · next h => simp [h]
      · next h => simp [h]
  · intro table index refusal outside' notAbove checks
    refine ⟨fun ht h hi => ?_, fun ht g hi => ?_, fun ht i hi => ?_, fun ht i hi => ?_, fun ht i hi => ?_, fun ht hi => ?_,
      fun ht => ?_, fun hbad => ?_⟩
    · refine write_checks htake (writeOp_hoist ht h hi) (fun raw => rfl) fun raw => ?_
      simp only [List.map_cons, List.map_nil, coded, outside_and_ne, groupFull_hoistOfFields, ← Bool.decide_or]
      simp only [outside_eq]
      rfl
    · refine write_checks htake (writeOp_group ht g hi) (fun raw => rfl) fun raw => ?_
      simp only [List.map_cons, List.map_nil, coded, outside_and_ne]
      simp only [outside_eq]
      rfl
    · refine write_checks htake (writeOp_map ht i hi) (fun raw => rfl) fun raw => ?_
      have hne : (fieldNat raw 1 % 2 ^ fieldNat raw 2 != 0) = decide (fieldNat raw 1 % 2 ^ fieldNat raw 2 ≠ 0) := by
        rw [Bool.eq_iff_iff, bne_iff_ne, decide_eq_true_iff]
      simp only [List.map_cons, List.map_nil, coded, outside_eq, hne]
      refine find?_append_congr (l := [_, _, _, _, _, _, _]) fun hpass => ?_
      have hbase := of_decide_eq_false (hpass (outside' raw 1 0x0001 0xEFFF) (by simp))
      have hslot := of_decide_eq_false (hpass (outside' raw 3 0 63) (by simp))
      rw [mapOverlaps_mapOfFields { s with intake := rest } i (by omega) (by omega)]
      rfl
    · refine write_checks htake (writeOp_filter ht i hi) (fun raw => rfl) fun raw => ?_
      simp only [List.map_cons, List.map_nil, coded, outside_eq]
      rfl
    · refine write_checks htake (writeOp_track ht i hi) (fun raw => rfl) fun raw => ?_
      simp only [List.map_cons, List.map_nil, coded, outside_eq]
      rfl
    · refine write_checks htake (writeOp_line ht hi) (fun raw => rfl) fun raw => ?_
      have hany : ((raw.getD 8 []).any fun b => decide (7 < b.toNat)) = decide (∃ b ∈ raw.getD 8 [], 7 < b.toNat) := by
        rw [Bool.eq_iff_iff, List.any_eq_true, decide_eq_true_iff]
        simp only [decide_eq_true_eq]
      simp only [List.map_cons, List.map_nil, coded, outside_eq, hany]
      rfl
    · refine write_refused htake (r := .badTable) ?_
      rw [writeOp, recordOf_badTable ht]
      rfl
    · refine write_refused_of_badIndex htake ?_
      rcases hbad with ⟨ht, hi⟩ | ⟨ht, hi⟩ | ⟨ht, hi⟩ | ⟨ht, hi⟩
      · exact .inl (recordOf_badIndex_of_hoist ht hi)
      · exact .inl (recordOf_badIndex_of_sixteen ht hi)
      · exact .inl (recordOf_badIndex_of_track ht hi)
      · exact recordOf_of_line_index ht hi

end Sys2Proof.Machine
end


/-! # Sitting 1: the records read back from their fields -/
section

namespace Sys2Proof.Machine

/-! ## Numbers in bytes (R194) -/

theorem foldl_natBytes (w n acc : Nat) :
    (natBytes w n).foldl (fun n b => n * 256 + b.toNat) acc = acc * 256 ^ w + n % 256 ^ w := by
  induction w generalizing acc with
  | zero => simp [natBytes, Nat.mod_one]
  | succ w ih =>
    have hbyte : (BitVec.ofNat 8 (n / 256 ^ w)).toNat = n / 256 ^ w % 256 := BitVec.toNat_ofNat _ _
    rw [natBytes, List.foldl_cons, ih, hbyte, Nat.mod_pow_succ, Nat.pow_succ]
    ring

theorem bytesNat_natBytes (w n : Nat) : bytesNat (natBytes w n) = n % 256 ^ w := by
  rw [bytesNat, foldl_natBytes, Nat.zero_mul, Nat.zero_add]

theorem bytesNat_natBytes_of_lt {w n : Nat} (h : n < 256 ^ w) : bytesNat (natBytes w n) = n := by
  rw [bytesNat_natBytes, Nat.mod_eq_of_lt h]

theorem length_natBytes (w n : Nat) : (natBytes w n).length = w := by
  induction w with
  | zero => rfl
  | succ w ih => rw [natBytes, List.length_cons, ih]

/-- A signed number that its bytes can hold is read back (R194). -/
theorem bytesInt_intBytes_two {i : Int} (h1 : -32768 ≤ i) (h2 : i < 32768) : bytesInt (intBytes 2 i) = i := by
  have hpow : ((256 ^ 2 : Nat) : Int) = 65536 := rfl
  have hnat : bytesNat (intBytes 2 i) = (i % 65536).toNat := by
    refine bytesNat_natBytes_of_lt ?_
    rw [hpow]
    omega
  have hlen : (intBytes 2 i).length = 2 := length_natBytes _ _
  rw [bytesInt, hnat, hlen, hpow]
  split <;> omega

theorem bytesNat_singleton (b : Byte) : bytesNat [b] = b.toNat := by simp [bytesNat]

/-- The two bytes of a word are its number. -/
theorem bytesNat_highByte_lowByte (w : BitVec 16) : bytesNat [highByte w, lowByte w] = w.toNat := by
  have hword := congrArg BitVec.toNat (word16_highByte_lowByte w)
  have happend : (highByte w ++ lowByte w).toNat = (highByte w).toNat * 256 + (lowByte w).toNat := by
    rw [BitVec.toNat_append, ← Nat.shiftLeft_add_eq_or_of_lt (lowByte w).isLt, Nat.shiftLeft_eq]
  rw [← hword, word16, happend]
  simp [bytesNat]

/-! ## Fields of a merged record -/

@[simp] theorem fieldNat_zero (x : List Byte) (xs : List (List Byte)) : fieldNat (x :: xs) 0 = bytesNat x := rfl

@[simp] theorem fieldNat_succ (x : List Byte) (xs : List (List Byte)) (i : Nat) :
    fieldNat (x :: xs) (i + 1) = fieldNat xs i := rfl

theorem bytesNat_boolByte (b : Bool) : bytesNat [boolByte b] = if b then 1 else 0 := by cases b <;> rfl

theorem boolByte_beq (b : Bool) : (bytesNat [boolByte b] == 1) = b := by cases b <;> rfl

theorem bytesNat_groupByte (g : Option GroupNo) : bytesNat [groupByte g] = (g.map (·.val)).getD 255 := by
  cases g with
  | none => rfl
  | some g =>
    rw [bytesNat_singleton]
    exact (BitVec.toNat_ofNat _ _).trans (Nat.mod_eq_of_lt (by omega))

theorem groupOfNat_groupByte (g : Option GroupNo) : groupOfNat ((g.map (·.val)).getD 255) = g := by
  cases g with
  | none => rfl
  | some g => exact dif_pos g.isLt

theorem bytesNat_trackByte (t : Option TrackIx) : bytesNat [trackByte t] = (t.map (·.val)).getD 255 := by
  cases t with
  | none => rfl
  | some t =>
    rw [bytesNat_singleton]
    exact (BitVec.toNat_ofNat _ _).trans (Nat.mod_eq_of_lt (by omega))

theorem trackOfNat_trackByte (t : Option TrackIx) : trackOfNat ((t.map (·.val)).getD 255) = t := by
  cases t with
  | none => rfl
  | some t => exact dif_pos t.isLt

/-- A two-byte field is read back. -/
theorem bytesNat_two {n : Nat} (h : n < 65536) : bytesNat (natBytes 2 n) = n := bytesNat_natBytes_of_lt h

/-- A one-byte field is read back. -/
theorem bytesNat_one {n : Nat} (h : n < 256) : bytesNat (natBytes 1 n) = n := bytesNat_natBytes_of_lt h

/-! ## The records read back (R186, R194) -/

theorem hoistOfFields_hoistFields {c : HoistConfig} (h3 : c.softLow ≤ 65000) (h4 : c.softHigh ≤ 65000)
    (h5 : c.speedCeiling ≤ 600) (h6 : c.underLimit ≤ 7998) (h7 : c.derateStart ≤ 7999) (h8 : c.overLimit ≤ 8000)
    (h9 : c.weight ≤ 1024) (h10 : -2000 ≤ c.offset) (h11 : c.offset ≤ 2000) :
    hoistOfFields (hoistFields c) = c := by
  have hsource : (if fieldNat (hoistFields c) 2 = 1 then LimitSource.group else .own) = c.limitSource := by
    show (if bytesNat (natBytes 1 (limitSourceNumber c.limitSource)) = 1 then LimitSource.group else .own) = _
    cases c.limitSource <;> rfl
  have hoffset : fieldInt (hoistFields c) 10 = c.offset := bytesInt_intBytes_two (by omega) (by omega)
  rw [hoistOfFields, hoffset, hsource]
  simp only [hoistFields, fieldNat_zero, fieldNat_succ, boolByte_beq, bytesNat_groupByte, groupOfNat_groupByte]
  rw [bytesNat_two (n := c.softLow) (by omega), bytesNat_two (n := c.softHigh) (by omega),
    bytesNat_two (n := c.speedCeiling) (by omega), bytesNat_two (n := c.underLimit) (by omega),
    bytesNat_two (n := c.derateStart) (by omega), bytesNat_two (n := c.overLimit) (by omega),
    bytesNat_two (n := c.weight) (by omega)]

theorem groupOfFields_groupFields {c : GroupConfig} (h0 : c.speedCeiling ≤ 600) (h1 : c.skewWarn ≤ 2000)
    (h2 : c.skewLimit ≤ 4000) (h3 : c.shareWarn ≤ 1023) (h4 : c.shareTolerance ≤ 1024) (h5 : c.shareFloor ≤ 64000)
    (h6 : c.underLimit ≤ 7998) (h7 : c.derateStart ≤ 7999) (h8 : c.overLimit ≤ 8000) :
    groupOfFields (groupFields c) = c := by
  simp only [groupOfFields, groupFields, fieldNat_zero, fieldNat_succ, bytesNat_trackByte, trackOfNat_trackByte]
  rw [bytesNat_two (n := c.speedCeiling) (by omega), bytesNat_two (n := c.skewWarn) (by omega),
    bytesNat_two (n := c.skewLimit) (by omega), bytesNat_two (n := c.shareWarn) (by omega),
    bytesNat_two (n := c.shareTolerance) (by omega), bytesNat_two (n := c.shareFloor) (by omega),
    bytesNat_two (n := c.underLimit) (by omega), bytesNat_two (n := c.derateStart) (by omega),
    bytesNat_two (n := c.overLimit) (by omega)]

theorem mapOfFields_mapFields {e : MapEntry} (h : e.spanExp ≤ 6) : mapOfFields (mapFields e) = e := by
  have hbase : BitVec.ofNat 16 e.base.toNat = e.base := by simp
  have hslot : Fin.ofNat 64 e.slotBase.val = e.slotBase := Fin.ext (Nat.mod_eq_of_lt e.slotBase.isLt)
  simp only [mapOfFields, mapFields, fieldNat_zero, fieldNat_succ, boolByte_beq, bytesNat_highByte_lowByte, hbase]
  rw [bytesNat_one (n := e.spanExp) (by omega), bytesNat_one (n := e.slotBase.val) (by omega), hslot]

theorem filterOfFields_filterFields {t : Filter} (h : t.offset ≤ 46) : filterOfFields (filterFields t) = t := by
  have hdirection : directionOfNat (bytesNat (natBytes 1 (directionNumber t.direction))) = t.direction := by
    cases t.direction <;> rfl
  have haction : actionOfNat (bytesNat (natBytes 1 (actionNumber t.action))) = t.action := by
    cases t.action <;> rfl
  have hkind : BitVec.ofNat 8 t.kind.toNat = t.kind := by simp
  have hmask : BitVec.ofNat 32 t.mask.toNat = t.mask := by simp
  have hexpected : BitVec.ofNat 16 t.expected.toNat = t.expected := by simp
  have hgroup : Fin.ofNat 16 t.actionGroup.val = t.actionGroup := Fin.ext (Nat.mod_eq_of_lt t.actionGroup.isLt)
  simp only [filterOfFields, filterFields, fieldNat_zero, fieldNat_succ, hdirection, haction,
    bytesNat_singleton, hkind, bytesNat_highByte_lowByte, hexpected]
  rw [bytesNat_one (n := t.offset) (by omega), bytesNat_natBytes_of_lt (w := 4) t.mask.isLt, hmask,
    bytesNat_one (n := t.actionGroup.val) (by omega), hgroup]
  simp only [← bytesNat_singleton, boolByte_beq]

theorem trackOfFields_trackFields {d : TrackStep} (h0 : d.base ≤ 65000) (h1 : d.speed ≤ 600) (h2 : d.dwell ≤ 60000) :
    trackOfFields (trackFields d) = d := by
  simp only [trackOfFields, trackFields, fieldNat_zero, fieldNat_succ, boolByte_beq]
  rw [bytesNat_two (n := d.base) (by omega), bytesNat_two (n := d.speed) (by omega),
    bytesNat_two (n := d.dwell) (by omega)]

/-- The Notice Levels are read back from their bytes, one per source. -/
theorem noticeLevels_of_bytes {t : Table 16 Nat} (h : ∀ i, t.get i ≤ 7) :
    (Table.build fun i : Fin 16 => ((t.cells.map fun n => BitVec.ofNat 8 n).getD i.val 0#8).toNat) = t := by
  refine Table.ext_get fun i => ?_
  have hi : i.val < t.cells.length := by rw [t.size]; exact i.isLt
  have hle : t.cells[i.val] ≤ 7 := h i
  rw [Table.get_build, List.getD_eq_getElem _ _ (by simpa using hi), List.getElem_map]
  exact (BitVec.toNat_ofNat _ _).trans (Nat.mod_eq_of_lt (by omega))

theorem lineOfFields_lineFields {c : LineConfig} (h0 : c.sweepInterval ≤ 1000) (h1 : c.pollTimeout ≤ 200)
    (h2 : c.ageLimit ≤ 2000) (h3 : c.silenceLimit ≤ 5000) (h5 : c.arrivalWindow ≤ 50)
    (h8 : ∀ i, c.noticeLevels.get i ≤ 7) : lineOfFields (lineFields c) = c := by
  have hsilence : (if fieldNat (lineFields c) 4 = 1 then SilenceAction.haltAll else .holdAll) = c.silenceAction := by
    show (if bytesNat (natBytes 1 (silenceActionNumber c.silenceAction)) = 1 then SilenceAction.haltAll
      else .holdAll) = _
    cases c.silenceAction <;> rfl
  have hrelay : (if fieldNat (lineFields c) 6 = 1 then OwnSampleRelay.sink else .relay) = c.ownSampleRelay := by
    show (if bytesNat (natBytes 1 (relayNumber c.ownSampleRelay)) = 1 then OwnSampleRelay.sink else .relay) = _
    cases c.ownSampleRelay <;> rfl
  have hlevels : (Table.build fun i : Fin 16 => (((lineFields c).getD 8 []).getD i.val 0#8).toNat) = c.noticeLevels :=
    noticeLevels_of_bytes h8
  rw [lineOfFields, hlevels, hsilence, hrelay]
  simp only [lineFields, fieldNat_zero, fieldNat_succ, boolByte_beq]
  rw [bytesNat_two (n := c.sweepInterval) (by omega), bytesNat_one (n := c.pollTimeout) (by omega),
    bytesNat_two (n := c.ageLimit) (by omega), bytesNat_two (n := c.silenceLimit) (by omega),
    bytesNat_one (n := c.arrivalWindow) (by omega)]

end Sys2Proof.Machine
end


/-! # Sitting 1: accepted WRITEs of the hoist, group, map, filter and track tables -/
section

namespace Sys2Proof.Machine

/-! ## A record in range passes its checks (R186 step 3) -/

theorem firstFailure_eq_none_iff (l : List (Bool × Nat × Reason)) :
    firstFailure l = none ↔ ∀ c ∈ l, c.1 = false := by
  induction l with
  | nil => simp [firstFailure]
  | cons x xs ih =>
    obtain ⟨fails, i, r⟩ := x
    rw [List.forall_mem_cons, ← ih]
    cases fails <;> simp [firstFailure]

theorem outside_eq_false {n lo hi : Nat} (h1 : lo ≤ n) (h2 : n ≤ hi) : outside n lo hi = false := by
  rw [outside_eq, decide_eq_false_iff_not]
  omega

/-- A byte that names one of `hi` + 1 records or none. -/
theorem outside_or_none_eq_false {n hi none : Nat} (h : n ≤ hi ∨ n = none) : (outside n 0 hi && n != none) = false := by
  rw [outside_and_ne, decide_eq_false_iff_not]
  omega

theorem bytesNat_boolByte_le (b : Bool) : bytesNat [boolByte b] ≤ 1 := by cases b <;> decide

theorem validateHoist_hoistFields {s : State} {h : Slot} {c : HoistConfig} (h1 : c.softLow ≤ c.softHigh)
    (h2 : c.softHigh ≤ 65000) (h3 : 10 ≤ c.speedCeiling) (h4 : c.speedCeiling ≤ 600)
    (h5 : c.underLimit < c.derateStart) (h6 : c.derateStart < c.overLimit) (h7 : c.overLimit ≤ 8000)
    (h8 : c.weight ≤ 1024) (h9 : -2000 ≤ c.offset) (h10 : c.offset ≤ 2000) (hfull : groupFull s h c = false) :
    validateHoist s h (hoistFields c) = none := by
  have hpresent : fieldNat (hoistFields c) 0 ≤ 1 := bytesNat_boolByte_le c.present
  have hgroup : fieldNat (hoistFields c) 1 ≤ 15 ∨ fieldNat (hoistFields c) 1 = 255 := by
    rw [show fieldNat (hoistFields c) 1 = (c.group.map (·.val)).getD 255 from bytesNat_groupByte c.group]
    cases c.group with
    | none => exact .inr rfl
    | some g => exact .inl (Nat.le_of_lt_succ g.isLt)
  have hsource : fieldNat (hoistFields c) 2 ≤ 1 := by
    show bytesNat (natBytes 1 (limitSourceNumber c.limitSource)) ≤ 1
    cases c.limitSource <;> decide
  have hlow : fieldNat (hoistFields c) 3 = c.softLow := bytesNat_two (by omega)
  have hhigh : fieldNat (hoistFields c) 4 = c.softHigh := bytesNat_two (by omega)
  have hceiling : fieldNat (hoistFields c) 5 = c.speedCeiling := bytesNat_two (by omega)
  have hunder : fieldNat (hoistFields c) 6 = c.underLimit := bytesNat_two (by omega)
  have hderate : fieldNat (hoistFields c) 7 = c.derateStart := bytesNat_two (by omega)
  have hover : fieldNat (hoistFields c) 8 = c.overLimit := bytesNat_two (by omega)
  have hweight : fieldNat (hoistFields c) 9 = c.weight := bytesNat_two (by omega)
  have hoffset : fieldInt (hoistFields c) 10 = c.offset := bytesInt_intBytes_two (by omega) (by omega)
  rw [validateHoist, firstFailure_eq_none_iff, hlow, hhigh, hceiling, hunder, hderate, hover, hweight, hoffset,
    hoistOfFields_hoistFields (by omega) h2 h4 (by omega) (by omega) h7 h8 h9 h10]
  simp only [List.forall_mem_cons]
  exact ⟨outside_eq_false (by omega) hpresent, outside_or_none_eq_false hgroup, hfull, outside_eq_false (by omega) hsource,
    outside_eq_false (by omega) (by omega), outside_eq_false (by omega) h2, decide_eq_false (by omega),
    outside_eq_false h3 h4, outside_eq_false (by omega) (by omega), outside_eq_false (by omega) (by omega),
    decide_eq_false (by omega), outside_eq_false (by omega) h7, decide_eq_false (by omega),
    outside_eq_false (by omega) h8, Bool.or_eq_false_iff.2 ⟨decide_eq_false (by omega), decide_eq_false (by omega)⟩,
    List.forall_mem_nil _⟩

theorem validateGroup_groupFields {c : GroupConfig} (h1 : 10 ≤ c.speedCeiling) (h2 : c.speedCeiling ≤ 600)
    (h3 : 1 ≤ c.skewWarn) (h4 : c.skewWarn ≤ 2000) (h5 : c.skewWarn < c.skewLimit) (h6 : c.skewLimit ≤ 4000)
    (h7 : 1 ≤ c.shareWarn) (h8 : c.shareWarn < c.shareTolerance) (h9 : c.shareTolerance ≤ 1024)
    (h10 : c.shareFloor ≤ 64000) (h11 : c.underLimit < c.derateStart) (h12 : c.derateStart < c.overLimit)
    (h13 : c.overLimit ≤ 8000) : validateGroup (groupFields c) = none := by
  have hceiling : fieldNat (groupFields c) 0 = c.speedCeiling := bytesNat_two (by omega)
  have hskewWarn : fieldNat (groupFields c) 1 = c.skewWarn := bytesNat_two (by omega)
  have hskewLimit : fieldNat (groupFields c) 2 = c.skewLimit := bytesNat_two (by omega)
  have hshareWarn : fieldNat (groupFields c) 3 = c.shareWarn := bytesNat_two (by omega)
  have htolerance : fieldNat (groupFields c) 4 = c.shareTolerance := bytesNat_two (by omega)
  have hfloor : fieldNat (groupFields c) 5 = c.shareFloor := bytesNat_two (by omega)
  have hunder : fieldNat (groupFields c) 6 = c.underLimit := bytesNat_two (by omega)
  have hderate : fieldNat (groupFields c) 7 = c.derateStart := bytesNat_two (by omega)
  have hover : fieldNat (groupFields c) 8 = c.overLimit := bytesNat_two (by omega)
  have htrack : fieldNat (groupFields c) 9 ≤ 127 ∨ fieldNat (groupFields c) 9 = 255 := by
    rw [show fieldNat (groupFields c) 9 = (c.trackStart.map (·.val)).getD 255 from bytesNat_trackByte c.trackStart]
    cases c.trackStart with
    | none => exact .inr rfl
    | some i => exact .inl (Nat.le_of_lt_succ i.isLt)
  rw [validateGroup, firstFailure_eq_none_iff, hceiling, hskewWarn, hskewLimit, hshareWarn, htolerance, hfloor, hunder,
    hderate, hover]
  simp only [List.forall_mem_cons]
  exact ⟨outside_eq_false h1 h2, outside_eq_false h3 h4, outside_eq_false (by omega) h6, decide_eq_false (by omega),
    outside_eq_false h7 (by omega), outside_eq_false (by omega) h9, decide_eq_false (by omega),
    outside_eq_false (by omega) h10, outside_eq_false (by omega) (by omega), outside_eq_false (by omega) (by omega),
    decide_eq_false (by omega), outside_eq_false (by omega) h13, decide_eq_false (by omega),
    outside_or_none_eq_false htrack, List.forall_mem_nil _⟩

/-- Two ranges that meet share their greater first value. -/
theorem exists_of_rangesMeet {a n b m : Nat} (hn : 0 < n) (hm : 0 < m) (h : rangesMeet a n b m = true) :
    ∃ x, (x = a ∨ x = b) ∧ (a ≤ x ∧ x < a + n) ∧ b ≤ x ∧ x < b + m := by
  simp only [rangesMeet, Bool.and_eq_true, decide_eq_true_eq] at h
  by_cases hab : a ≤ b
  · exact ⟨b, .inr rfl, ⟨hab, by omega⟩, le_rfl, by omega⟩
  · exact ⟨a, .inl rfl, ⟨le_rfl, by omega⟩, by omega, by omega⟩

/-- Entries that share no address and no slot do not overlap (R41). -/
theorem mapOverlaps_eq_false {s : State} {i : MapNo} {e : MapEntry}
    (h : ∀ j, j ≠ i → e.enabled = true → (s.addressMap.get j).enabled = true →
      (∀ a : LineAddr, ¬(entryHasAddr e a = true ∧ entryHasAddr (s.addressMap.get j) a = true)) ∧
      ∀ n : Nat, ¬((e.slotBase.val ≤ n ∧ n < e.slotBase.val + 2 ^ e.spanExp) ∧
        (s.addressMap.get j).slotBase.val ≤ n ∧
        n < (s.addressMap.get j).slotBase.val + 2 ^ (s.addressMap.get j).spanExp)) :
    mapOverlaps s i e = false := by
  rw [Bool.eq_false_iff]
  intro hover
  simp only [mapOverlaps, Bool.and_eq_true, List.any_eq_true, Bool.or_eq_true, bne_iff_ne] at hover
  obtain ⟨hon, j, -, ⟨hne, honj⟩, hmeet⟩ := hover
  obtain ⟨haddr, hslot⟩ := h j hne hon honj
  rcases hmeet with hmeet | hmeet
  · obtain ⟨x, hx, hin, hinj⟩ := exists_of_rangesMeet Nat.one_le_two_pow Nat.one_le_two_pow hmeet
    obtain ⟨a, rfl⟩ : ∃ a : LineAddr, a.toNat = x := by
      rcases hx with rfl | rfl
      · exact ⟨_, rfl⟩
      · exact ⟨_, rfl⟩
    have hlast : ∀ x : MapEntry, x.base.toNat ≤ a.toNat → a.toNat < x.base.toNat + 2 ^ x.spanExp →
        entryHasAddr x a = true := fun x h1 h2 =>
      Bool.and_eq_true_iff.2 ⟨decide_eq_true h1,
        decide_eq_true (show a.toNat ≤ x.base.toNat + 2 ^ x.spanExp - 1 by omega)⟩
    exact haddr a ⟨hlast e hin.1 hin.2, hlast _ hinj.1 hinj.2⟩
  · obtain ⟨n, -, hin, hinj⟩ := exists_of_rangesMeet Nat.one_le_two_pow Nat.one_le_two_pow hmeet
    exact hslot n ⟨hin, hinj⟩

theorem validateMap_mapFields {s : State} {i : MapNo} {e : MapEntry} (h1 : 1 ≤ e.base.toNat) (h2 : e.spanExp ≤ 6)
    (h3 : e.base.toNat % 2 ^ e.spanExp = 0) (h4 : e.base.toNat + 2 ^ e.spanExp - 1 ≤ 0xEFFF)
    (h5 : e.slotBase.val + 2 ^ e.spanExp ≤ 64) (hover : mapOverlaps s i e = false) :
    validateMap s i (mapFields e) = none := by
  have hpos : 1 ≤ 2 ^ e.spanExp := Nat.one_le_two_pow
  have henabled : fieldNat (mapFields e) 0 ≤ 1 := bytesNat_boolByte_le e.enabled
  have hbase : fieldNat (mapFields e) 1 = e.base.toNat := bytesNat_highByte_lowByte e.base
  have hspan : fieldNat (mapFields e) 2 = e.spanExp := bytesNat_one (by omega)
  have hslot : fieldNat (mapFields e) 3 = e.slotBase.val := bytesNat_one (by omega)
  rw [validateMap, firstFailure_eq_none_iff, hbase, hspan, hslot, mapOfFields_mapFields h2]
  simp only [List.forall_mem_cons]
  exact ⟨outside_eq_false (by omega) henabled, outside_eq_false h1 (by omega), outside_eq_false (by omega) h2,
    by rw [h3]; rfl, decide_eq_false (by omega), outside_eq_false (by omega) (by omega), decide_eq_false (by omega),
    hover, List.forall_mem_nil _⟩

theorem validateFilter_filterFields {t : Filter} (h : t.offset ≤ 46) : validateFilter (filterFields t) = none := by
  have henabled : fieldNat (filterFields t) 0 ≤ 1 := bytesNat_boolByte_le t.enabled
  have hdirection : fieldNat (filterFields t) 1 ≤ 2 := by
    show bytesNat (natBytes 1 (directionNumber t.direction)) ≤ 2
    cases t.direction <;> decide
  have hmatch : fieldNat (filterFields t) 2 ≤ 1 := bytesNat_boolByte_le t.kindMatch
  have hoffset : fieldNat (filterFields t) 4 = t.offset := bytesNat_one (by omega)
  have haction : fieldNat (filterFields t) 7 ≤ 5 := by
    show bytesNat (natBytes 1 (actionNumber t.action)) ≤ 5
    cases t.action <;> decide
  have hgroup : fieldNat (filterFields t) 8 = t.actionGroup.val := bytesNat_one (by omega)
  have hcapture : fieldNat (filterFields t) 9 ≤ 1 := bytesNat_boolByte_le t.capture
  rw [validateFilter, firstFailure_eq_none_iff, hoffset, hgroup]
  simp only [List.forall_mem_cons]
  exact ⟨outside_eq_false (by omega) henabled, outside_eq_false (by omega) hdirection, outside_eq_false (by omega) hmatch,
    outside_eq_false (by omega) h, outside_eq_false (by omega) haction,
    outside_eq_false (by omega) (Nat.le_of_lt_succ t.actionGroup.isLt), outside_eq_false (by omega) hcapture,
    List.forall_mem_nil _⟩

theorem validateTrack_trackFields {d : TrackStep} (h1 : d.base ≤ 65000) (h2 : 10 ≤ d.speed) (h3 : d.speed ≤ 600)
    (h4 : d.dwell ≤ 60000) : validateTrack (trackFields d) = none := by
  have hbase : fieldNat (trackFields d) 0 = d.base := bytesNat_two (by omega)
  have hspeed : fieldNat (trackFields d) 1 = d.speed := bytesNat_two (by omega)
  have hdwell : fieldNat (trackFields d) 2 = d.dwell := bytesNat_two (by omega)
  have hlast : fieldNat (trackFields d) 3 ≤ 1 := bytesNat_boolByte_le d.last
  rw [validateTrack, firstFailure_eq_none_iff, hbase, hspeed, hdwell]
  simp only [List.forall_mem_cons]
  exact ⟨outside_eq_false (by omega) h1, outside_eq_false h2 h3, outside_eq_false (by omega) h4,
    outside_eq_false (by omega) hlast, List.forall_mem_nil _⟩

theorem validateLine_lineFields {c : LineConfig} (h1 : 5 ≤ c.sweepInterval) (h2 : c.sweepInterval ≤ 1000)
    (h3 : 2 ≤ c.pollTimeout) (h4 : c.pollTimeout ≤ 200) (h5 : c.sweepInterval + c.pollTimeout < c.ageLimit)
    (h6 : 10 ≤ c.ageLimit) (h7 : c.ageLimit ≤ 2000) (h8 : 50 ≤ c.silenceLimit) (h9 : c.silenceLimit ≤ 5000)
    (h10 : c.arrivalWindow ≤ 50) (h11 : ∀ i, c.noticeLevels.get i ≤ 7) : validateLine (lineFields c) = none := by
  have hsweep : fieldNat (lineFields c) 0 = c.sweepInterval := bytesNat_two (by omega)
  have hpoll : fieldNat (lineFields c) 1 = c.pollTimeout := bytesNat_one (by omega)
  have hage : fieldNat (lineFields c) 2 = c.ageLimit := bytesNat_two (by omega)
  have hsilence : fieldNat (lineFields c) 3 = c.silenceLimit := bytesNat_two (by omega)
  have haction : fieldNat (lineFields c) 4 ≤ 1 := by
    show bytesNat (natBytes 1 (silenceActionNumber c.silenceAction)) ≤ 1
    cases c.silenceAction <;> decide
  have hwindow : fieldNat (lineFields c) 5 = c.arrivalWindow := bytesNat_one (by omega)
  have hrelay : fieldNat (lineFields c) 6 ≤ 1 := by
    show bytesNat (natBytes 1 (relayNumber c.ownSampleRelay)) ≤ 1
    cases c.ownSampleRelay <;> decide
  have hclears : fieldNat (lineFields c) 7 ≤ 1 := bytesNat_boolByte_le c.recoverClearsCause
  have hlevels : (((lineFields c).getD 8 []).any fun b => decide (7 < b.toNat)) = false := by
    show ((c.noticeLevels.cells.map fun n => BitVec.ofNat 8 n).any fun b => decide (7 < b.toNat)) = false
    rw [List.any_eq_false]
    intro b hb
    obtain ⟨n, hn, rfl⟩ := List.mem_map.1 hb
    obtain ⟨i, hi, rfl⟩ := List.getElem_of_mem hn
    have hle : c.noticeLevels.cells[i] ≤ 7 := h11 ⟨i, by rw [c.noticeLevels.size] at hi; exact hi⟩
    rw [decide_eq_true_iff, BitVec.toNat_ofNat]
    omega
  rw [validateLine, firstFailure_eq_none_iff, hsweep, hpoll, hage, hsilence, hwindow]
  simp only [List.forall_mem_cons]
  exact ⟨outside_eq_false h1 h2, outside_eq_false h3 h4, outside_eq_false h6 h7, decide_eq_false (by omega),
    outside_eq_false h8 h9, outside_eq_false (by omega) haction, outside_eq_false (by omega) h10,
    outside_eq_false (by omega) hrelay, outside_eq_false (by omega) hclears, hlevels,
    List.forall_mem_nil _⟩

/-! ## Protection (R42, R76, R115, R187) -/

theorem namesArmed_iff (s : State) (c : HoistConfig) :
    namesArmed s c = true ↔ ∃ g, c.present = true ∧ c.group = some g ∧ armed s g = true := by
  unfold namesArmed
  cases c.group with
  | none => simp
  | some g => simp

theorem hoistProtected_iff (s : State) (h : Slot) (c : HoistConfig) :
    hoistProtected s h c = true ↔ (liveAt s h).state = .moving ∨
      (∃ g, (cfgAt s h).present = true ∧ (cfgAt s h).group = some g ∧ armed s g = true) ∨
      ∃ g, c.present = true ∧ c.group = some g ∧ armed s g = true := by
  simp only [hoistProtected, Bool.or_eq_true, beq_iff_eq, namesArmed_iff, or_assoc]

theorem mapProtected_iff (s : State) (i : MapNo) (e : MapEntry) :
    mapProtected s i e = true ↔
      ∃ h, (((s.addressMap.get i).enabled = true ∧ entryHasSlot (s.addressMap.get i) h = true) ∨
          (e.enabled = true ∧ entryHasSlot e h = true)) ∧
        ((liveAt s h).state = .moving ∨
          ∃ g, (cfgAt s h).present = true ∧ (cfgAt s h).group = some g ∧ armed s g = true) := by
  simp only [mapProtected, allSlots, List.any_eq_true, List.mem_finRange, true_and, Bool.and_eq_true, Bool.or_eq_true,
    beq_iff_eq, namesArmed_iff]

theorem anyTrackRuns_iff (s : State) : anyTrackRuns s = true ↔ ∃ g, (groupAt s g).live.track ≠ none := by
  simp [anyTrackRuns, allGroups, Option.isSome_iff_ne_none]

/-- A group that refuses no further member (R3). -/
theorem groupFull_eq_false {s : State} {h : Slot} {c : HoistConfig}
    (hroom : ∀ g, c.group = some g → ((members s g).filter fun k => k != h).length < 16 ∨
      ((cfgAt s h).group = some g ∧ ((cfgAt s h).present = true ∨ c.present = false))) : groupFull s h c = false := by
  unfold groupFull
  cases hg : c.group with
  | none => rfl
  | some g =>
    rw [Bool.and_eq_false_iff]
    rcases hroom g hg with hless | ⟨hsame, hstays⟩
    · exact .inl (decide_eq_false (by omega))
    · right
      rcases hstays with hp | hp <;> simp [hsame, hp]

/-! ## A record that passes is refused by its protection or committed (R186 steps 4 and 5) -/

section

variable {s : State} {f : Frame} {epoch : BitVec 16} {rest : List IntakeEntry} {present merged : List (List Byte)}
  {validate : List (List Byte) → Option (Nat × Reason)} {protection : List (List Byte) → Option Reason}
  {commit : List (List Byte) → State}

theorem write_protected (htake : MgmtTakes s f epoch rest 0x02#8)
    (hop : writeOp { s with intake := rest } f =
      writeRecord { s with intake := rest } f present validate protection commit)
    (hmerge : mergeFields (payloadByte f 7 ++ payloadByte f 8) present (f.payload.drop 9) = some merged)
    (hvalid : validate merged = none) {r : Reason} (hprot : protection merged = some r) :
    exec .write s = .next (finish (answeredWith s rest (refusedReply f (reasonCode r) []))) := by
  have hmask : mergeFields (mgmtMask f) present (mgmtValues f) = some merged := hmerge
  refine write_refused htake (r := r) (values := []) ?_
  rw [hop, writeRecord, hmask]
  simp only [hvalid, hprot]
  rfl

theorem write_committed (htake : MgmtTakes s f epoch rest 0x02#8)
    (hop : writeOp { s with intake := rest } f =
      writeRecord { s with intake := rest } f present validate protection commit)
    (hmerge : mergeFields (payloadByte f 7 ++ payloadByte f 8) present (f.payload.drop 9) = some merged)
    (hvalid : validate merged = none) (hprot : protection merged = none) :
    exec .write s =
      .next (finish { commit merged with replySlot := some { frame := doneReply f [], resets := false } }) := by
  have hmask : mergeFields (mgmtMask f) present (mgmtValues f) = some merged := hmerge
  refine (exec_write s).trans (takeHead_done htake (by decide) ?_)
  rw [hop, writeRecord, hmask]
  simp only [hvalid, hprot]

end

/-! ## The load windows at a commit (R6, R76) -/

/-- The load window of limits. -/
def windowOf (w : Limits) : Nat × Nat × Nat := (w.underLimit, w.derateStart, w.overLimit)

theorem sameWindow_iff (a b : Limits) : sameWindow a b = true ↔ windowOf a = windowOf b := by
  simp [sameWindow, windowOf, and_assoc]

theorem reevaluate_eq (w : Limits) (l : HoistLive) :
    reevaluate w l = { l with loadCondition := match l.load with
      | some load => loadConditionOf w load
      | none => l.loadCondition } := by
  obtain ⟨_, _, load⟩ := l
  cases load <;> rfl

/-- The commit of a hoist record changes that record and its poll timer alone (R5, R6, R153). -/
theorem commitHoist_frame (s : State) (h : Slot) (c : HoistConfig) :
    commitHoist s h c =
      { s with hoists := (commitHoist s h c).hoists, pollTimers := (commitHoist s h c).pollTimers } := by
  unfold commitHoist
  dsimp only
  split <;> rfl

/-- The commit of a group record changes that record and the members' Load Conditions alone (R76). -/
theorem commitGroup_frame (s : State) (g : GroupNo) (c : GroupConfig) :
    commitGroup s g c = { s with hoists := (commitGroup s g c).hoists, groups := (commitGroup s g c).groups } := by
  unfold commitGroup
  dsimp only
  split <;> rfl

theorem groups_commitGroup (s : State) (g : GroupNo) (c : GroupConfig) :
    (commitGroup s g c).groups = (putGroup s g { groupAt s g with cfg := c }).groups := by
  unfold commitGroup
  dsimp only
  split <;> rfl

end Sys2Proof.Machine
end


/-! # Sitting 1: the commits of a WRITE by table -/
section

namespace Sys2Proof.Machine

/-! ## The five tables behind the line record -/

section

variable {s : State} {f : Frame} {epoch : BitVec 16} {rest : List IntakeEntry}

theorem write_hoist (htake : MgmtTakes s f epoch rest 0x02#8) (ht : (payloadByte f 5).toNat = 1) {h : Slot}
    (hi : (payloadByte f 6).toNat = h.val) {c : HoistConfig}
    (hmerge : mergeFields (payloadByte f 7 ++ payloadByte f 8) (hoistFields (cfgAt s h)) (f.payload.drop 9) =
      some (hoistFields c))
    (hvalid : validateHoist { s with intake := rest } h (hoistFields c) = none)
    (hread : hoistOfFields (hoistFields c) = c) :
    (hoistProtected s h c = true →
      exec .write s = .next (finish (answeredWith s rest (refusedReply f 21#8 [])))) ∧
    (¬hoistProtected s h c = true → exec .write s = .next (finish { commitHoist { s with intake := rest } h c with
      replySlot := some { frame := doneReply f [], resets := false } })) := by
  have hop := writeOp_hoist (s := { s with intake := rest }) ht h hi
  have hprot : hoistProtected { s with intake := rest } h (hoistOfFields (hoistFields c)) = hoistProtected s h c := by
    rw [hread]; rfl
  refine ⟨fun hp => write_protected htake hop hmerge hvalid (r := .isProtected) ?_, fun hp => ?_⟩
  · rw [hprot, hp]; rfl
  · rw [write_committed htake hop hmerge hvalid (by rw [hprot, Bool.eq_false_iff.2 hp]; rfl), hread]

theorem write_group (htake : MgmtTakes s f epoch rest 0x02#8) (ht : (payloadByte f 5).toNat = 2) {g : GroupNo}
    (hi : (payloadByte f 6).toNat = g.val) {c : GroupConfig}
    (hmerge : mergeFields (payloadByte f 7 ++ payloadByte f 8) (groupFields (groupAt s g).cfg) (f.payload.drop 9) =
      some (groupFields c))
    (hvalid : validateGroup (groupFields c) = none) (hread : groupOfFields (groupFields c) = c) :
    (armed s g = true → exec .write s = .next (finish (answeredWith s rest (refusedReply f 21#8 [])))) ∧
    (armed s g = false → exec .write s = .next (finish { commitGroup { s with intake := rest } g c with
      replySlot := some { frame := doneReply f [], resets := false } })) := by
  have hop := writeOp_group (s := { s with intake := rest }) ht g hi
  have hprot : groupProtected { s with intake := rest } g = armed s g := rfl
  refine ⟨fun hp => write_protected htake hop hmerge hvalid (r := .isProtected) ?_, fun hp => ?_⟩
  · rw [hprot, hp]; rfl
  · rw [write_committed htake hop hmerge hvalid (by rw [hprot, hp]; rfl), hread]

theorem write_map (htake : MgmtTakes s f epoch rest 0x02#8) (ht : (payloadByte f 5).toNat = 3) {i : MapNo}
    (hi : (payloadByte f 6).toNat = i.val) {e : MapEntry}
    (hmerge : mergeFields (payloadByte f 7 ++ payloadByte f 8) (mapFields (s.addressMap.get i)) (f.payload.drop 9) =
      some (mapFields e))
    (hvalid : validateMap { s with intake := rest } i (mapFields e) = none)
    (hread : mapOfFields (mapFields e) = e) :
    (mapProtected s i e = true → exec .write s = .next (finish (answeredWith s rest (refusedReply f 21#8 [])))) ∧
    (¬mapProtected s i e = true → exec .write s = .next (finish { answeredWith s rest (doneReply f []) with
      addressMap := s.addressMap.set i e })) := by
  have hop := writeOp_map (s := { s with intake := rest }) ht i hi
  have hprot : mapProtected { s with intake := rest } i (mapOfFields (mapFields e)) = mapProtected s i e := by
    rw [hread]; rfl
  refine ⟨fun hp => write_protected htake hop hmerge hvalid (r := .isProtected) ?_, fun hp => ?_⟩
  · rw [hprot, hp]; rfl
  · rw [write_committed htake hop hmerge hvalid (by rw [hprot, Bool.eq_false_iff.2 hp]; rfl), hread]
    rfl

theorem write_filter (htake : MgmtTakes s f epoch rest 0x02#8) (ht : (payloadByte f 5).toNat = 4) {i : FilterNo}
    (hi : (payloadByte f 6).toNat = i.val) {t : Filter}
    (hmerge : mergeFields (payloadByte f 7 ++ payloadByte f 8) (filterFields (s.filters.get i)) (f.payload.drop 9) =
      some (filterFields t)) (hoffset : t.offset ≤ 46) :
    exec .write s = .next (finish { answeredWith s rest (doneReply f []) with filters := s.filters.set i t }) := by
  have hop := writeOp_filter (s := { s with intake := rest }) ht i hi
  rw [write_committed htake hop hmerge (validateFilter_filterFields hoffset) rfl, filterOfFields_filterFields hoffset]
  rfl

theorem write_track (htake : MgmtTakes s f epoch rest 0x02#8) (ht : (payloadByte f 5).toNat = 5) {i : TrackIx}
    (hi : (payloadByte f 6).toNat = i.val) {d : TrackStep}
    (hmerge : mergeFields (payloadByte f 7 ++ payloadByte f 8) (trackFields (s.trackPool.get i)) (f.payload.drop 9) =
      some (trackFields d)) (h1 : d.base ≤ 65000) (h2 : 10 ≤ d.speed) (h3 : d.speed ≤ 600) (h4 : d.dwell ≤ 60000) :
    (anyTrackRuns s = true → exec .write s = .next (finish (answeredWith s rest (refusedReply f 15#8 [])))) ∧
    (¬anyTrackRuns s = true →
      exec .write s = .next (finish { answeredWith s rest (doneReply f []) with trackPool := s.trackPool.set i d })) := by
  have hop := writeOp_track (s := { s with intake := rest }) ht i hi
  have hvalid := validateTrack_trackFields h1 h2 h3 h4
  have hprot : anyTrackRuns { s with intake := rest } = anyTrackRuns s := rfl
  refine ⟨fun hp => write_protected htake hop hmerge hvalid (r := .trackActive) ?_, fun hp => ?_⟩
  · rw [hprot, hp]; rfl
  · rw [write_committed htake hop hmerge hvalid (by rw [hprot, Bool.eq_false_iff.2 hp]; rfl),
      trackOfFields_trackFields h1 h3 h4]
    rfl

end

/-! ## What the commit of a hoist record leaves (R5, R6, R153) -/

theorem effectiveLimits_commitHoist (s : State) (h : Slot) (c : HoistConfig) :
    effectiveLimits (commitHoist s h c) h = limitsOf s.groups c := by
  rw [effectiveLimits, groups_commitHoist, cfgAt_commitHoist, if_pos rfl]

theorem hoistAt_commitHoist_self (s : State) (h : Slot) (c : HoistConfig) :
    hoistAt (commitHoist s h c) h =
      { cfg := c
        live :=
          let live := if (cfgAt s h).present = true ∧ c.present = false then HoistLive.reset else liveAt s h
          if c.present = true ∧ windowOf (effectiveLimits (commitHoist s h c) h) ≠ windowOf (effectiveLimits s h) then
            { live with loadCondition := match live.load with
              | some load => loadConditionOf (effectiveLimits (commitHoist s h c) h) load
              | none => live.loadCondition }
          else live } := by
  rw [hoistAt_commitHoist, if_pos rfl, effectiveLimits_commitHoist]
  have hwindow : sameWindow (effectiveLimits s h) (limitsOf s.groups c) = false ↔
      windowOf (limitsOf s.groups c) ≠ windowOf (effectiveLimits s h) := by
    rw [Bool.eq_false_iff, ne_eq, sameWindow_iff, ne_comm]
  cases hc : c.present with
  | true =>
    cases hs : sameWindow (effectiveLimits s h) (limitsOf s.groups c) with
    | true =>
      have hsame := mt hwindow.2 (by rw [hs]; decide)
      simp [hsame]
    | false =>
      have hdiffers := hwindow.1 hs
      simp [hdiffers, reevaluate_eq] <;> rfl
  | false => cases (cfgAt s h).present <;> simp

/-! ## What the commit of a group record leaves (R76) -/

theorem groupAt_commitGroup (s : State) (g k : GroupNo) (c : GroupConfig) :
    groupAt (commitGroup s g c) k = if k = g then { groupAt s g with cfg := c } else groupAt s k := by
  rw [groupAt_congr (groups_commitGroup s g c), groupAt_putGroup]

/-- A Present hoist that takes its limits from group `g` (R4, R76). -/
abbrev usesGroup (s : State) (g : GroupNo) (h : Slot) : Prop :=
  (cfgAt s h).present = true ∧ (cfgAt s h).group = some g ∧ (cfgAt s h).limitSource = .group

theorem cfgAt_commitGroup (s : State) (g : GroupNo) (c : GroupConfig) (h : Slot) :
    cfgAt (commitGroup s g c) h = cfgAt s h := by
  have hput : ∀ r, cfgAt (putGroup s g r) h = cfgAt s h := fun _ => rfl
  unfold commitGroup
  dsimp only
  split
  · exact hput _
  · rw [← cfg_hoistAt, hoistAt_changeHoists]
    split <;> rfl

/-- The limits of a hoist that takes them from the group (R4). -/
theorem windowOf_effectiveLimits_of_usesGroup {s : State} {g : GroupNo} {h : Slot} (hu : usesGroup s g h) :
    windowOf (effectiveLimits s h) =
      ((groupAt s g).cfg.underLimit, (groupAt s g).cfg.derateStart, (groupAt s g).cfg.overLimit) := by
  obtain ⟨-, hgroup, hsource⟩ := hu
  simp only [effectiveLimits, limitsOf, hgroup, hsource]
  rfl

/-- A changed load window is applied to the hoists that take it from the group, and to no other (R76). -/
theorem hoistAt_commitGroup (s : State) (g : GroupNo) (c : GroupConfig) (h : Slot) :
    (usesGroup s g h ∧ windowOf (effectiveLimits (commitGroup s g c) h) ≠ windowOf (effectiveLimits s h) →
      hoistAt (commitGroup s g c) h =
        { hoistAt s h with live := reevaluate (effectiveLimits (commitGroup s g c) h) (liveAt s h) }) ∧
    (¬(usesGroup s g h ∧ windowOf (effectiveLimits (commitGroup s g c) h) ≠ windowOf (effectiveLimits s h)) →
      hoistAt (commitGroup s g c) h = hoistAt s h) := by
  have hlimits : effectiveLimits (commitGroup s g c) h =
      limitsOf (putGroup s g { groupAt s g with cfg := c }).groups (cfgAt s h) := by
    rw [effectiveLimits, groups_commitGroup, cfgAt_commitGroup]
  have huses : usesGroup (commitGroup s g c) g h ↔ usesGroup s g h := by
    simp only [usesGroup, cfgAt_commitGroup]
  have hnew : usesGroup s g h → windowOf (effectiveLimits (commitGroup s g c) h) =
      (c.underLimit, c.derateStart, c.overLimit) := fun hu => by
    rw [windowOf_effectiveLimits_of_usesGroup (huses.2 hu), groupAt_commitGroup, if_pos rfl]
  have hold := fun hu : usesGroup s g h => windowOf_effectiveLimits_of_usesGroup hu
  have hsame : ∀ k : GroupConfig, (c.underLimit = k.underLimit ∧ c.derateStart = k.derateStart ∧
      c.overLimit = k.overLimit) ↔ (c.underLimit, c.derateStart, c.overLimit) =
      (k.underLimit, k.derateStart, k.overLimit) := fun k => by simp
  have hcommit : hoistAt (commitGroup s g c) h =
      if (c.underLimit, c.derateStart, c.overLimit) = ((groupAt s g).cfg.underLimit, (groupAt s g).cfg.derateStart,
        (groupAt s g).cfg.overLimit) then hoistAt s h
      else if usesGroup s g h then
        { hoistAt s h with live := reevaluate (effectiveLimits (commitGroup s g c) h) (liveAt s h) }
      else hoistAt s h := by
    have huser : ((cfgAt s h).present && (cfgAt s h).group == some g && (cfgAt s h).limitSource == .group) = true ↔
        usesGroup s g h := by
      simp only [Bool.and_eq_true, beq_iff_eq, and_assoc]
    rw [hlimits, if_congr (hsame _).symm rfl rfl]
    unfold commitGroup
    dsimp only
    split
    · rfl
    · rw [hoistAt_changeHoists, ← if_congr huser rfl rfl]
      rfl
  rw [hcommit]
  constructor
  · rintro ⟨hu, hne⟩
    rw [hnew hu, hold hu] at hne
    rw [if_neg hne, if_pos hu]
  · intro hno
    split
    · rfl
    · next hdiffers =>
      split
      · next hu => exact absurd ⟨hu, by rw [hnew hu, hold hu]; exact hdiffers⟩ hno
      · rfl

end Sys2Proof.Machine
end


/-! # Sitting 1: the commit of the line record -/
section

namespace Sys2Proof.Machine

/-! ## Ended poll timers (R148, R153) -/

theorem endPollTimer_frame (s : State) (h : Slot) :
    endPollTimer s h = { s with hoists := (endPollTimer s h).hoists, pollTimers := (endPollTimer s h).pollTimers } := rfl

theorem hoistAt_endPollTimer (s : State) (h k : Slot) :
    hoistAt (endPollTimer s h) k =
      if k = h then { hoistAt s h with live := { liveAt s h with pollOutstanding := false } } else hoistAt s k :=
  hoistAt_changeLive s h k fun l => { l with pollOutstanding := false }

theorem get_pollTimers_endPollTimer (s : State) (h k : Slot) :
    (endPollTimer s h).pollTimers.get k = if k = h then none else s.pollTimers.get k := Table.get_set ..

/-- The timers of the slots of a list ended one after another. -/
theorem foldl_endPollTimer (l : List Slot) (s : State) :
    (∀ k, (l.foldl endPollTimer s).pollTimers.get k = if k ∈ l then none else s.pollTimers.get k) ∧
    (∀ k, hoistAt (l.foldl endPollTimer s) k =
      if k ∈ l then { hoistAt s k with live := { liveAt s k with pollOutstanding := false } } else hoistAt s k) ∧
    ∃ hoists timers, l.foldl endPollTimer s = { s with hoists := hoists, pollTimers := timers } := by
  induction l generalizing s with
  | nil => exact ⟨fun k => by simp, fun k => by simp, s.hoists, s.pollTimers, rfl⟩
  | cons h hs ih =>
    obtain ⟨htimers, hhoists, v, w, hframe⟩ := ih (endPollTimer s h)
    refine ⟨fun k => ?_, fun k => ?_, v, w, ?_⟩
    · rw [List.foldl_cons, htimers, get_pollTimers_endPollTimer]
      by_cases hk : k = h <;> simp [hk]
    · rw [List.foldl_cons, hhoists, ← live_hoistAt, hoistAt_endPollTimer]
      by_cases hk : k = h
      · subst hk
        by_cases hm : k ∈ hs <;> simp [hm]
      · simp [hk, live_hoistAt]
    · rw [List.foldl_cons, hframe, endPollTimer_frame]

/-- A changed Poll Timeout ends the timers at or above it (R148). -/
theorem endLateTimers_eq (s : State) (old : Nat) :
    endLateTimers s old =
      ((List.finRange 64).filter fun h => s.line.pollTimeout != old &&
        (s.pollTimers.get h).any fun n => decide (s.line.pollTimeout ≤ n)).foldl endPollTimer s := by
  unfold endLateTimers
  split
  · next h => simp [h]
  · next h =>
    have hne : (s.line.pollTimeout != old) = true := bne_iff_ne.2 h
    simp only [hne, Bool.true_and]
    rfl

/-! ## Late hoists (R148, R150) -/

theorem leavesReadings_staleExpire (s : State) (h : Slot) : LeavesReadings s (staleExpire s h) := by
  have hgone : LeavesReadings s (setHoistState s h .offline) := leavesReadings_setHoistState s h _
  have hstop : LeavesReadings s (staleStop s h) := by
    unfold staleStop
    split
    · exact .refl s
    · exact .refl s
    · exact leavesReadings_issueHoistStop _ _ _ _ _
    all_goals
      dsimp only
      split
      · exact hgone.trans (leavesReadings_issueHoistStop _ _ _ _ _)
      · exact hgone
  unfold staleExpire
  split
  · exact .refl s
  · exact hstop.trans (leavesReadings_raiseNotice _ _ _)

theorem leavesReadings_foldl_staleExpire (l : List Slot) (s : State) : LeavesReadings s (l.foldl staleExpire s) := by
  induction l generalizing s with
  | nil => exact .refl s
  | cons h hs ih => exact (leavesReadings_staleExpire s h).trans (ih _)

/-- The hoist at `h` is OFFLINE or TRIPPED. -/
def IsDown (s : State) (h : Slot) : Prop := (liveAt s h).state = .offline ∨ (liveAt s h).state = .tripped

theorem IsDown.admitStop {s : State} {h : Slot} (hd : IsDown s h) (o : StopIssue) : IsDown (admitStop s o) h := by
  have hstopped : ∀ k st, st = .offline ∨ st = .tripped →
      stoppedHoist k st = .offline ∨ stoppedHoist k st = .tripped := by
    rintro k st (rfl | rfl) <;> cases k <;> simp [stoppedHoist]
  unfold IsDown at hd ⊢
  rw [← live_hoistAt, hoistAt_admitStop]
  split
  · split
    · exact hstopped _ _ hd
    · exact hd
  · split
    · exact .inr rfl
    · exact hd

theorem IsDown.issueHoistStop {s : State} {h : Slot} (hd : IsDown s h) (k : StopKind) (j : Slot) (c : CauseKind)
    (seq : Byte) : IsDown (issueHoistStop s k j c seq) h := hd.admitStop _

theorem IsDown.congr {s t : State} {h : Slot} (hd : IsDown s h) (ht : t.hoists = s.hoists) : IsDown t h := by
  unfold IsDown at hd ⊢
  rwa [liveAt_congr ht]

theorem IsDown.setOffline {s : State} {h : Slot} (hd : IsDown s h) (j : Slot) :
    IsDown (setHoistState s j .offline) h := by
  have hlive := liveAt_changeLive s j h fun l => { l with state := .offline }
  unfold IsDown at hd ⊢
  rw [setHoistState, hlive]
  split
  · exact .inl rfl
  · exact hd

/-- The stale expiry of another hoist leaves a hoist that is down down. -/
theorem IsDown.staleExpire {s : State} {h : Slot} (hd : IsDown s h) (j : Slot) : IsDown (staleExpire s j) h := by
  have hstop : IsDown (staleStop s j) h := by
    unfold staleStop
    split
    · exact hd
    · exact hd
    · exact hd.issueHoistStop _ _ _ _
    all_goals
      dsimp only
      split
      · exact (hd.setOffline j).issueHoistStop _ _ _ _
      · exact hd.setOffline j
  unfold Machine.staleExpire
  split
  · exact hd
  · exact hstop.congr (raiseNotice_hoists ..)

/-- A stale Present hoist is down after its expiry (R150). -/
theorem isDown_staleExpire_self {s : State} {h : Slot} (hp : (cfgAt s h).present = true) :
    IsDown (staleExpire s h) h := by
  have hgone : IsDown (setHoistState s h .offline) h := .inl (by simp [setHoistState])
  have hhalted : IsDown (issueHoistStop s .halt h .stale 0x00#8) h := .inr (halted_issueHoistStop hp _ _).1
  have hstop : (liveAt s h).state ≠ .offline → IsDown (staleStop s h) h := fun hne => by
    unfold staleStop
    split
    · next hst => exact absurd hst hne
    · next hst => exact .inr hst
    · exact hhalted
    all_goals
      dsimp only
      split
      · exact hgone.issueHoistStop _ _ _ _
      · exact hgone
  unfold staleExpire
  split
  · next hst => exact .inl hst
  · next hst => exact (hstop hst).congr (raiseNotice_hoists ..)

theorem isDown_foldl_staleExpire {l : List Slot} {s : State} {h : Slot} (hd : IsDown s h) :
    IsDown (l.foldl staleExpire s) h := by
  induction l generalizing s with
  | nil => exact hd
  | cons j js ih => exact ih (hd.staleExpire j)

/-- Every Present hoist of a list is down once the list has expired. -/
theorem isDown_of_mem_late {l : List Slot} {s : State} (hp : ∀ h ∈ l, (cfgAt s h).present = true) :
    ∀ h ∈ l, IsDown (l.foldl staleExpire s) h := by
  induction l generalizing s with
  | nil => exact nofun
  | cons j js ih =>
    intro h hh
    rw [List.foldl_cons]
    rcases List.mem_cons.1 hh with rfl | hh
    · exact isDown_foldl_staleExpire (isDown_staleExpire_self (hp h (by simp)))
    · refine ih (fun k hk => ?_) h hh
      rw [(leavesReadings_staleExpire s j).cfg]
      exact hp k (List.mem_cons_of_mem j hk)

/-! ## The Silence Timer and the notices (R148, R157, R176) -/

theorem silenceExpire_eq_afterSilence (s : State) : silenceExpire s = afterSilence s := by
  unfold silenceExpire afterSilence
  cases s.line.silenceAction <;> rfl

theorem IsDown.silenceExpire {s : State} {h : Slot} (hd : IsDown s h) : IsDown (silenceExpire s) h := by
  have htimer : ∀ v, IsDown { s with silence := v } h := fun _ => hd
  exact ((htimer _).admitStop _).congr (raiseNotice_hoists ..)

theorem withdrawNotices_frame (s : State) :
    withdrawNotices s = { s with notices := (withdrawNotices s).notices } := rfl

theorem get_notices_withdrawNotices (s : State) (i : Fin 16) :
    (withdrawNotices s).notices.get i = if noticeLevel s i = 0 then none else s.notices.get i := Table.get_build ..


/-! ## The effects of a line WRITE in their order (R148, log entry 7) -/

/-- The commit with its first effect: the ended poll timers. -/
def afterTimers (s : State) (c : LineConfig) : State := endLateTimers { s with line := c } s.line.pollTimeout

/-- The second effect: the hoists that a lowered Age Limit makes stale. -/
def afterAges (s : State) (c : LineConfig) : State := expireLateHoists (afterTimers s c) s.line.ageLimit

/-- The third effect: the expiry of the Silence Timer by a lowered limit. -/
def afterLimits (s : State) (c : LineConfig) : State := expireLateSilence (afterAges s c) s.line.silenceLimit

theorem commitLine_eq (s : State) (c : LineConfig) (levels : Bool) :
    commitLine s c levels = if levels then withdrawNotices (afterLimits s c) else afterLimits s c := rfl

/-- Whether the poll timer of `h` ends by the commit of `c` (R148). -/
def endsTimer (s : State) (c : LineConfig) (h : Slot) : Bool :=
  c.pollTimeout != s.line.pollTimeout && (s.pollTimers.get h).any fun n => decide (c.pollTimeout ≤ n)

/-- The hoists that the commit of `c` makes stale, in slot order (R148). -/
def lateHoists (s : State) (c : LineConfig) : List Slot :=
  (List.finRange 64).filter fun h =>
    (cfgAt s h).present && decide ((liveAt s h).sampleAge < s.line.ageLimit) &&
      decide (c.ageLimit ≤ (liveAt s h).sampleAge)

section

variable (s : State) (c : LineConfig)

theorem afterTimers_eq :
    afterTimers s c = ((List.finRange 64).filter (endsTimer s c)).foldl endPollTimer { s with line := c } :=
  endLateTimers_eq _ _

theorem get_pollTimers_afterTimers (h : Slot) :
    (afterTimers s c).pollTimers.get h = if endsTimer s c h then none else s.pollTimers.get h := by
  rw [afterTimers_eq, (foldl_endPollTimer _ _).1]
  exact if_congr (by simp) rfl rfl

theorem hoistAt_afterTimers (h : Slot) :
    hoistAt (afterTimers s c) h =
      if endsTimer s c h then { hoistAt s h with live := { liveAt s h with pollOutstanding := false } }
      else hoistAt s h := by
  rw [afterTimers_eq, (foldl_endPollTimer _ _).2.1]
  exact if_congr (by simp) rfl rfl

theorem afterTimers_frame :
    ∃ hoists timers, afterTimers s c = { s with line := c, hoists := hoists, pollTimers := timers } := by
  obtain ⟨v, w, h⟩ := (foldl_endPollTimer ((List.finRange 64).filter (endsTimer s c)) { s with line := c }).2.2
  exact ⟨v, w, (afterTimers_eq s c).trans h⟩

theorem cfgAt_afterTimers (h : Slot) : cfgAt (afterTimers s c) h = cfgAt s h := by
  rw [← cfg_hoistAt, hoistAt_afterTimers]
  split <;> rfl

theorem afterAges_eq : afterAges s c = (lateHoists s c).foldl staleExpire (afterTimers s c) := by
  obtain ⟨v, w, hframe⟩ := afterTimers_frame s c
  have hline : (afterTimers s c).line = c := by rw [hframe]
  have hage : ∀ h, (liveAt (afterTimers s c) h).sampleAge = (liveAt s h).sampleAge := fun h => by
    rw [← live_hoistAt, hoistAt_afterTimers]
    split <;> rfl
  unfold afterAges expireLateHoists lateHoists
  simp only [hline, hage, cfgAt_afterTimers]
  rfl

theorem leavesReadings_afterAges : LeavesReadings (afterTimers s c) (afterAges s c) := by
  rw [afterAges_eq]
  exact leavesReadings_foldl_staleExpire _ _

theorem line_afterAges : (afterAges s c).line = c := by
  obtain ⟨v, w, hframe⟩ := afterTimers_frame s c
  rw [(leavesReadings_afterAges s c).line, hframe]

theorem silence_afterAges : (afterAges s c).silence = s.silence := by
  obtain ⟨v, w, hframe⟩ := afterTimers_frame s c
  rw [(leavesReadings_afterAges s c).silence, hframe]

theorem afterLimits_eq :
    afterLimits s c =
      if c.silenceLimit < s.line.silenceLimit ∧ s.silence.state = .running ∧ c.silenceLimit ≤ s.silence.count then
        afterSilence (afterAges s c)
      else afterAges s c := by
  unfold afterLimits expireLateSilence
  rw [line_afterAges, silence_afterAges, silenceExpire_eq_afterSilence]

/-- A late hoist is down behind all the effects. -/
theorem isDown_afterLimits {h : Slot} (hh : h ∈ lateHoists s c) : IsDown (afterLimits s c) h := by
  have hdown : IsDown (afterAges s c) h := by
    rw [afterAges_eq]
    refine isDown_of_mem_late (fun k hk => ?_) h hh
    have hpresent := (List.mem_filter.1 hk).2
    simp only [Bool.and_eq_true] at hpresent
    rw [cfgAt_afterTimers]
    exact hpresent.1.1
  rw [afterLimits_eq]
  split
  · rw [← silenceExpire_eq_afterSilence]
    exact hdown.silenceExpire
  · exact hdown

/-- What the expiry of the Silence Timer leaves as the expiries of the ages have left it. -/
theorem afterSilence_stands :
    (afterSilence s).line = s.line ∧ (afterSilence s).intake = s.intake ∧
    (afterSilence s).pollTimers = s.pollTimers ∧
    (afterSilence s).silence = { s.silence with state := .expired, epoch := s.silence.epoch + 1#16 } := by
  simp [afterSilence]

end

end Sys2Proof.Machine
end


/-! # Sitting 1: accepted WRITEs -/
section

namespace Sys2Proof.Machine

section

variable {s : State} {f : Frame} {epoch : BitVec 16} {rest : List IntakeEntry}

theorem write_line (htake : MgmtTakes s f epoch rest 0x02#8) (ht : (payloadByte f 5).toNat = 6)
    (hi : (payloadByte f 6).toNat = 0) {c : LineConfig}
    (hmerge : mergeFields (payloadByte f 7 ++ payloadByte f 8) (lineFields s.line) (f.payload.drop 9) =
      some (lineFields c))
    (hvalid : validateLine (lineFields c) = none) (hread : lineOfFields (lineFields c) = c) :
    exec .write s = .next (finish
      { commitLine { s with intake := rest } c ((payloadByte f 7 ++ payloadByte f 8).getLsbD 8) with
        replySlot := some { frame := doneReply f [], resets := false } }) := by
  rw [write_committed htake (writeOp_line ht hi) hmerge hvalid rfl, hread]
  rfl

end

/-- The line and the Intake behind all the effects of a line WRITE. -/
theorem afterLimits_stands (s : State) (c : LineConfig) :
    (afterLimits s c).line = c ∧ (afterLimits s c).intake = s.intake ∧
    (afterLimits s c).pollTimers = (afterTimers s c).pollTimers ∧
    (afterLimits s c).silence =
      if c.silenceLimit < s.line.silenceLimit ∧ s.silence.state = .running ∧ c.silenceLimit ≤ s.silence.count then
        { s.silence with state := .expired, epoch := s.silence.epoch + 1#16 }
      else s.silence := by
  obtain ⟨v, w, hframe⟩ := afterTimers_frame s c
  have hleaves := leavesReadings_afterAges s c
  have hintake : (afterAges s c).intake = s.intake := by rw [hleaves.intake, hframe]
  obtain ⟨hl, hin, hp, hs⟩ := afterSilence_stands (afterAges s c)
  rw [afterLimits_eq]
  split
  · exact ⟨hl.trans (line_afterAges s c), hin.trans hintake, hp.trans hleaves.pollTimers,
      by rw [hs, silence_afterAges]⟩
  · exact ⟨line_afterAges s c, hintake, hleaves.pollTimers, silence_afterAges s c⟩

/-- The commit's notices: withdrawn at level 0 when the write selects Notice Levels (R176). -/
theorem get_notices_commitLine (s : State) (c : LineConfig) (levels : Bool) (i : Fin 16) :
    (commitLine s c levels).notices.get i =
      if levels = true ∧ c.noticeLevels.get i = 0 then none else (afterLimits s c).notices.get i := by
  rw [commitLine_eq]
  cases levels with
  | false => simp
  | true =>
    rw [if_pos rfl, get_notices_withdrawNotices, noticeLevel, (afterLimits_stands s c).1]
    simp

theorem commitLine_frame (s : State) (c : LineConfig) (levels : Bool) :
    commitLine s c levels = { afterLimits s c with notices := (commitLine s c levels).notices } := by
  rw [commitLine_eq]
  cases levels <;> rfl

/-- Settles O50: a record in range is read back from its fields and passes the checks of its table, so its protection
refuses it or its commit takes place, which the lemmas on the commits describe. -/
theorem acceptedWritesCommit : Obligations.AcceptedWritesCommit := by
  intro s f epoch rest htake table index merges answered refusal window
  refine ⟨fun ht h c hi hm h1 h2 h3 h4 h5 h6 h7 h8 h9 h10 hroom => ?_,
    fun ht g c hi hm h1 h2 h3 h4 h5 h6 h7 h8 h9 h10 h11 h12 h13 => ?_, fun ht i e hi hm h1 h2 h3 h4 h5 hno => ?_,
    fun ht i t hi hm hoffset => write_filter htake ht hi hm hoffset, fun ht i d hi hm h1 h2 h3 h4 => ?_,
    fun ht c hi hm h1 h2 h3 h4 h5 h6 h7 h8 h9 h10 h11 => ?_⟩
  · intro isLocked live
    have hfull : groupFull { s with intake := rest } h c = false := groupFull_eq_false hroom
    have hvalid := validateHoist_hoistFields (s := { s with intake := rest }) (h := h) h1 h2 h3 h4 h5 h6 h7 h8 h9 h10 hfull
    have hread := hoistOfFields_hoistFields (c := c) (by omega) h2 h4 (by omega) (by omega) h7 h8 h9 h10
    obtain ⟨hrefused, hcommitted⟩ := write_hoist htake ht hi hm hvalid hread
    refine ⟨fun hl => hrefused ((hoistProtected_iff s h c).2 hl),
      fun hl => ⟨_, hcommitted (mt (hoistProtected_iff s h c).1 hl), ⟨?_, fun k hk => ?_⟩, fun k => ?_, ?_⟩⟩
    · exact hoistAt_commitHoist_self { s with intake := rest } h c
    · exact (hoistAt_commitHoist { s with intake := rest } h k c).trans (if_neg hk)
    · exact pollTimers_commitHoist { s with intake := rest } h k c
    · rw [commitHoist_frame]
  · intro uses
    have hread := groupOfFields_groupFields (c := c) h2 h4 h6 (by omega) h9 h10 (by omega) (by omega) h13
    obtain ⟨hrefused, hcommitted⟩ := write_group htake ht hi hm
      (validateGroup_groupFields h1 h2 h3 h4 h5 h6 h7 h8 h9 h10 h11 h12 h13) hread
    refine ⟨hrefused, fun ha => ⟨_, hcommitted ha, ⟨?_, fun k hk => ?_⟩, fun h => ?_, ?_⟩⟩
    · exact (groupAt_commitGroup { s with intake := rest } g g c).trans (if_pos rfl)
    · exact (groupAt_commitGroup { s with intake := rest } g k c).trans (if_neg hk)
    · obtain ⟨hchanged, hkept⟩ := hoistAt_commitGroup { s with intake := rest } g c h
      rw [reevaluate_eq] at hchanged
      by_cases hc : uses h ∧ window (effectiveLimits (commitGroup { s with intake := rest } g c) h) ≠
          window (effectiveLimits s h)
      · exact (hchanged hc).trans (congrArg (fun l => { hoistAt s h with live := l }) (if_pos hc).symm)
      · exact (hkept hc).trans (congrArg (fun l => { hoistAt s h with live := l }) (if_neg hc).symm)
    · rw [commitGroup_frame]
  · intro covered isLocked
    have hvalid := validateMap_mapFields (s := { s with intake := rest }) (i := i) h1 h2 h3 h4 h5
      (mapOverlaps_eq_false hno)
    obtain ⟨hrefused, hcommitted⟩ := write_map htake ht hi hm hvalid (mapOfFields_mapFields h2)
    exact ⟨fun hl => hrefused ((mapProtected_iff s i e).2 hl), fun hl => hcommitted (mt (mapProtected_iff s i e).1 hl)⟩
  · obtain ⟨hrefused, hcommitted⟩ := write_track htake ht hi hm h1 h2 h3 h4
    refine ⟨fun hr => hrefused ((anyTrackRuns_iff s).2 hr), fun hr => hcommitted ?_⟩
    rw [anyTrackRuns_iff]
    rintro ⟨g, hg⟩
    exact hg (hr g)
  · intro ended late expires
    have hwrite := write_line htake ht hi hm (validateLine_lineFields h1 h2 h3 h4 h5 h6 h7 h8 h9 h10 h11)
      (lineOfFields_lineFields h2 h4 h7 h9 h10 h11)
    obtain ⟨v, w, hframe⟩ := afterTimers_frame { s with intake := rest } c
    obtain ⟨hline, hintake, htimers, hsilence⟩ := afterLimits_stands { s with intake := rest } c
    have hlate : lateHoists { s with intake := rest } c = late := rfl
    have hstale : afterStale = staleExpire := funext fun u => funext fun h => (staleExpire_eq_afterStale u h).symm
    have haged : late.foldl afterStale (afterTimers { s with intake := rest } c) = afterAges { s with intake := rest } c := by
      rw [afterAges_eq, hlate, hstale]
    have hcommit := commitLine_frame { s with intake := rest } c ((payloadByte f 7 ++ payloadByte f 8).getLsbD 8)
    refine ⟨afterTimers { s with intake := rest } c, _, hwrite, get_pollTimers_afterTimers _ c, hoistAt_afterTimers _ c,
      ?_, ?_, ?_, ?_, fun h => ?_, ?_, fun h hh => ?_, fun hnone hquiet => ?_⟩
    · rw [hframe]
    · intro aged v'
      have hv : v' = afterLimits { s with intake := rest } c := by
        rw [afterLimits_eq, ← haged]
      refine ⟨fun i => ?_, ?_⟩
      · rw [hv]
        exact get_notices_commitLine _ c _ i
      · rw [hv, hcommit]
    · rw [hcommit]
      exact hline
    · rw [hcommit]
      exact hintake
    · rw [hcommit]
      exact congrArg (fun x => Table.get x h) htimers
    · rw [hcommit]
      exact hsilence
    · have hdown : IsDown (afterLimits { s with intake := rest } c) h := isDown_afterLimits _ c hh
      rw [hcommit]
      exact hdown
    · have hstill : afterLimits { s with intake := rest } c = afterTimers { s with intake := rest } c := by
        rw [afterLimits_eq, if_neg hquiet, afterAges_eq, hlate, hnone]
        rfl
      rw [hcommit, hstill]
      refine ⟨rfl, ?_⟩
      rw [hframe]

end Sys2Proof.Machine
end


/-! # Sitting 2: the close of an event touches the transmitters' own fields alone

`Transmits s t` says what a selection, the Transmit Stage and the Upstream Arbiter have in common: nothing changes but the
transmitters' own fields, and no queue grows. -/
section

namespace Sys2Proof.Machine

/-- `t` with the transmitters' own fields as `s` has them (R136, R142, R143, R153, R177, R178). -/
def withTransmitters (s t : State) : State :=
  { t with
    lane := s.lane, pollPromote := s.pollPromote, motionQueue := s.motionQueue, nextFrame := s.nextFrame,
    onWire := s.onWire, pollTimers := s.pollTimers, seqCounter := s.seqCounter, notices := s.notices,
    relayQueue := s.relayQueue, replySlot := s.replySlot, uWire := s.uWire, lastWasNotice := s.lastWasNotice }

/-- `t` is `s` after transmitters have taken what they select: only their own fields differ, and no queue is longer. -/
structure Transmits (s t : State) : Prop where
  frame : withTransmitters s t = s
  lane : t.lane.length ≤ s.lane.length
  pollPromote : t.pollPromote.length ≤ s.pollPromote.length
  motionQueue : t.motionQueue.length ≤ s.motionQueue.length
  relayQueue : t.relayQueue.length ≤ s.relayQueue.length

theorem Transmits.refl (s : State) : Transmits s s := ⟨rfl, le_rfl, le_rfl, le_rfl, le_rfl⟩

theorem Transmits.trans {s t u : State} (h1 : Transmits s t) (h2 : Transmits t u) : Transmits s u where
  frame := (congrArg (withTransmitters s) h2.frame).trans h1.frame
  lane := h2.lane.trans h1.lane
  pollPromote := h2.pollPromote.trans h1.pollPromote
  motionQueue := h2.motionQueue.trans h1.motionQueue
  relayQueue := h2.relayQueue.trans h1.relayQueue

/-- A change of transmitters' fields that leaves the four queues alone. -/
theorem Transmits.of_queues {s t : State} (hf : withTransmitters s t = s) (hl : t.lane = s.lane)
    (hp : t.pollPromote = s.pollPromote) (hm : t.motionQueue = s.motionQueue) (hr : t.relayQueue = s.relayQueue) :
    Transmits s t := ⟨hf, by rw [hl], by rw [hp], by rw [hm], by rw [hr]⟩

/-! ## The Transmit Stage (R142) -/

/-- An emission leaves the lane at most as long as it was (R136). -/
theorem length_lane_emitStop (s : State) (o : StopOrder) (rest : List StopOrder) :
    (emitStop s o rest).2.lane.length ≤ (o :: rest).length := by
  unfold emitStop
  split
  · exact Nat.le_succ _
  · exact Nat.le_succ _
  all_goals
    split
    · exact Nat.le_succ _
    · dsimp only
      split
      · exact Nat.le_succ _
      · exact le_rfl

theorem transmits_selectOne {s t : State} {e : Option Entry} (h : selectOne s = some (e, t)) : Transmits s t := by
  have hframe : withTransmitters s t = s := (congrArg (withTransmitters s) (selectOne_frame h)).trans rfl
  obtain ⟨o, rest, hl, he⟩ | ⟨m, ms, hm, -, rfl⟩ | ⟨p, ps, hp, -, rfl⟩ := selectOne_cases h
  · have ht : t = (emitStop s o rest).2 := congrArg Prod.snd he
    have hlane := length_lane_emitStop s o rest
    rw [← hl, ← ht] at hlane
    have hs := emitStop_snd s o rest
    rw [← ht] at hs
    refine ⟨hframe, hlane, ?_, ?_, ?_⟩
    · rw [hs]
    · rw [hs]
    · rw [hs]
  · exact ⟨hframe, le_rfl, le_rfl, by simp [hm], le_rfl⟩
  · exact ⟨hframe, le_rfl, by simp [hp], le_rfl, le_rfl⟩

theorem transmits_startPollTimer (s : State) (slot : Option Slot) : Transmits s (startPollTimer s slot) := by
  rw [startPollTimer_frame]
  exact .of_queues rfl rfl rfl rfl rfl

theorem transmits_discardFrame (s : State) (e : Entry) : Transmits s (discardFrame s e) := by
  rw [discardFrame_frame]
  exact .of_queues rfl rfl rfl rfl rfl

theorem transmits_fillNext (fuel : Nat) (s : State) : Transmits s (fillNext fuel s) := by
  induction fuel generalizing s with
  | zero => exact .refl s
  | succ n ih =>
    unfold fillNext
    split
    · exact .refl s
    · split
      · exact .refl s
      · next t h => exact (transmits_selectOne h).trans (ih t)
      · next e t h =>
        split
        · exact (transmits_selectOne h).trans ((transmits_discardFrame t e).trans (ih _))
        · exact (transmits_selectOne h).trans (.of_queues rfl rfl rfl rfl rfl)

theorem transmits_advance (s : State) : Transmits s (advance s) := by
  unfold advance
  split
  · next e _ _ =>
    have hmove : Transmits s { s with onWire := some e, nextFrame := none } := .of_queues rfl rfl rfl rfl rfl
    exact hmove.trans (transmits_startPollTimer _ _)
  · exact .refl s
  · exact .refl s

theorem transmits_settleStage (s : State) : Transmits s (settleStage s) :=
  (transmits_fillNext _ s).trans ((transmits_advance _).trans (transmits_fillNext _ _))

/-! ## The Upstream Arbiter (R177) -/

theorem length_relayQueue_arbitrate (s : State) : (arbitrate s).relayQueue.length ≤ s.relayQueue.length := by
  have hrelay : (sendRelay s).relayQueue.length ≤ s.relayQueue.length := by
    unfold sendRelay
    split
    · exact le_rfl
    · next h => simp [h]
  have hnotice : ∀ i, (sendNotice s i).relayQueue = s.relayQueue := fun i => by
    unfold sendNotice
    split <;> rfl
  unfold arbitrate
  split
  · exact le_rfl
  · split
    · split <;> exact le_rfl
    · split
      · split
        · rw [hnotice]
        · exact hrelay
      · exact hrelay

theorem transmits_arbitrate (s : State) : Transmits s (arbitrate s) where
  frame := (congrArg (withTransmitters s) (arbitrate_frame s)).trans rfl
  lane := by rw [arbitrate_frame]
  pollPromote := by rw [arbitrate_frame]
  motionQueue := by rw [arbitrate_frame]
  relayQueue := length_relayQueue_arbitrate s

theorem transmits_finish (s : State) : Transmits s (finish s) :=
  (transmits_settleStage s).trans (transmits_arbitrate _)

/-- Settles O4: every selection, discard and transmission changes the transmitters' own fields alone. -/
theorem finishTouchesOnlyTransmitters : Obligations.FinishTouchesOnlyTransmitters := fun s => (transmits_finish s).frame

end Sys2Proof.Machine
end


/-! # Sitting 2: what every part of an event leaves alone of the configuration, the tags and the capacities

`Steady s t` says what every part of an event does to the records, the Address Map, the Rig Identity, the tag counter and the
capacities of the queues (O7, O10, O14). It is closed under composition, and each shared operation has one lemma. -/
section

namespace Sys2Proof.Machine

/-! ## The relation -/

/-- The fields, besides the configuration, that a steady part of an event reads as before, but for tags and queues. -/
def standing (s : State) : Table 16 MapEntry × Option (BitVec 32) × Byte := (s.addressMap, s.rigIdentity, s.tagCounter)

/-- The five queues that have a capacity. -/
def queues (s : State) : List IntakeEntry × List StopOrder × List Entry × List Entry × List Frame :=
  (s.intake, s.lane, s.pollPromote, s.motionQueue, s.relayQueue)

/-- What every part of an event does, but for a WRITE, a SET_IDENTITY and a power-on reset. -/
structure Steady (s t : State) : Prop where
  cfg : ∀ h, cfgAt t h = cfgAt s h
  groupCfg : ∀ g, (groupAt t g).cfg = (groupAt s g).cfg
  addressMap : t.addressMap = s.addressMap
  rigIdentity : t.rigIdentity = s.rigIdentity
  tag : TagCounterSound s → TagCounterSound t
  capacity : WithinCapacity s → WithinCapacity t

theorem Steady.refl (s : State) : Steady s s := ⟨fun _ => rfl, fun _ => rfl, rfl, rfl, id, id⟩

theorem Steady.trans {s t u : State} (h1 : Steady s t) (h2 : Steady t u) : Steady s u where
  cfg h := (h2.cfg h).trans (h1.cfg h)
  groupCfg g := (h2.groupCfg g).trans (h1.groupCfg g)
  addressMap := h2.addressMap.trans h1.addressMap
  rigIdentity := h2.rigIdentity.trans h1.rigIdentity
  tag := h2.tag ∘ h1.tag
  capacity := h2.capacity ∘ h1.capacity

theorem withinCapacity_congr {s t : State} (h : queues t = queues s) (hs : WithinCapacity s) : WithinCapacity t := by
  simp only [queues, Prod.mk.injEq] at h
  obtain ⟨h1, h2, h3, h4, h5⟩ := h
  simpa [WithinCapacity, h1, h2, h3, h4, h5] using hs

/-- A change that leaves the configurations, the standing fields and the queues alone. -/
theorem Steady.of_cfg {s t : State} (hc : ∀ h, cfgAt t h = cfgAt s h) (hg : ∀ g, (groupAt t g).cfg = (groupAt s g).cfg)
    (hf : standing t = standing s) (hq : queues t = queues s) : Steady s t := by
  simp only [standing, Prod.mk.injEq] at hf
  obtain ⟨hm, hi, ht⟩ := hf
  exact ⟨hc, hg, hm, hi, by rw [TagCounterSound, TagCounterSound, ht]; exact id, withinCapacity_congr hq⟩

theorem Steady.of_eq {s t : State} (hh : t.hoists = s.hoists) (hg : t.groups = s.groups)
    (hf : standing t = standing s) (hq : queues t = queues s) : Steady s t :=
  .of_cfg (cfgAt_congr hh) (fun g => by rw [groupAt_congr hg]) hf hq

/-- A change of queues that does not exceed a capacity. -/
theorem Steady.of_queues {s t : State} (hh : t.hoists = s.hoists) (hg : t.groups = s.groups)
    (hf : standing t = standing s) (hq : WithinCapacity s → WithinCapacity t) : Steady s t := by
  simp only [standing, Prod.mk.injEq] at hf
  obtain ⟨hm, hi, ht⟩ := hf
  exact ⟨cfgAt_congr hh, fun g => by rw [groupAt_congr hg], hm, hi, by rw [TagCounterSound, TagCounterSound, ht]; exact id,
    hq⟩

/-- A steady change leaves every address of a slot alone. -/
theorem Steady.addrOfSlot {s t : State} (h : Steady s t) (k : Slot) : addrOfSlot t k = addrOfSlot s k := by
  simp [Machine.addrOfSlot, h.addressMap]

theorem Steady.foldl {α : Type} {f : State → α → State} (h : ∀ s x, Steady s (f s x)) (l : List α) (s : State) :
    Steady s (l.foldl f s) := by
  induction l generalizing s with
  | nil => exact .refl s
  | cons x xs ih => exact (h s x).trans (ih _)

/-! ## Basic updates -/

section

variable (s : State)

theorem steady_changeLive (h : Slot) (f : HoistLive → HoistLive) : Steady s (changeLive s h f) :=
  .of_cfg (fun k => by simp) (fun _ => rfl) rfl rfl

/-- A change of hoists' live parts. -/
theorem steady_changeHoists {f : Slot → Hoist → Hoist} (hf : ∀ h r, (f h r).cfg = r.cfg) : Steady s (changeHoists s f) :=
  .of_cfg (fun h => by simp only [← cfg_hoistAt, hoistAt_changeHoists]; exact hf h _) (fun _ => rfl) rfl rfl

/-- A change of some hoists' live parts. -/
theorem steady_changeSome (p : Slot → Bool) (f : Slot → HoistLive → HoistLive) :
    Steady s (changeHoists s fun h r => if p h then { r with live := f h r.live } else r) :=
  steady_changeHoists s fun h r => by split <;> rfl

theorem steady_changeGroup (g : GroupNo) (f : GroupLive → GroupLive) : Steady s (changeGroup s g f) :=
  .of_cfg (fun _ => rfl) (fun k => by simp) rfl rfl

/-- A change of groups' live parts. -/
theorem steady_changeGroups {f : GroupNo → Group → Group} (hf : ∀ g r, (f g r).cfg = r.cfg) :
    Steady s (changeGroups s f) :=
  .of_cfg (fun _ => rfl) (fun g => by rw [groupAt_changeGroups]; exact hf g _) rfl rfl

theorem steady_withBatches (l : List InternalBatch) : Steady s { s with internalBatches := l } := .of_eq rfl rfl rfl rfl

theorem steady_cancelBatch (g : GroupNo) : Steady s (cancelBatch s g) := steady_withBatches s _

/-- A tag taken from the counter leaves it a part tag (R32). -/
theorem steady_stepTag : Steady s (stepTag s) :=
  ⟨fun _ => rfl, fun _ => rfl, rfl, rfl, nextTag_partTag s.tagCounter, id⟩

theorem steady_stepSeq (n : Nat) : Steady s (stepSeq s n) := .of_eq rfl rfl rfl rfl

theorem steady_raiseNotice (src : NoticeSource) (p : NoticePayload) : Steady s (raiseNotice s src p) :=
  .of_eq (by simp) (by simp) (by simp [standing]) (by simp [queues])

theorem steady_raiseClamp (a b : Bool) (d : Byte) (h : Option Slot) (g : Option GroupNo) (q : Byte) :
    Steady s (raiseClamp s a b d h g q) := .of_eq (by simp) (by simp) (by simp [standing]) (by simp [queues])

theorem steady_refuseFrame (f : Frame) (r : Reason) : Steady s (refuseFrame s f r) := steady_raiseNotice s _ _

/-- Frames that join the Motion Queue tail while it has room for them (R139, R140). -/
theorem steady_enqueue {s : State} {es : List Entry} (hroom : s.motionQueue.length + es.length ≤ 32) :
    Steady s { s with motionQueue := s.motionQueue ++ es } :=
  .of_queues rfl rfl rfl fun ⟨h1, h2, h3, _, h5⟩ => ⟨h1, h2, h3, by simpa using hroom, h5⟩

end

/-! ## The close of an event -/

theorem Transmits.steady {s t : State} (h : Transmits s t) : Steady s t := by
  have hframe := h.frame
  have hstand : standing t = standing s := (congrArg standing hframe :)
  have hintake : t.intake = s.intake := (congrArg State.intake hframe :)
  refine .of_queues (congrArg State.hoists hframe :) (congrArg State.groups hframe :) hstand ?_
  rintro ⟨h1, h2, h3, h4, h5⟩
  exact ⟨hintake ▸ h1, h.lane.trans h2, h.pollPromote.trans h3, h.motionQueue.trans h4, h.relayQueue.trans h5⟩

theorem steady_finish (s : State) : Steady s (finish s) := (transmits_finish s).steady

/-! ## Stop orders -/

@[simp] theorem length_enterLane (o : StopOrder) (lane : List StopOrder) :
    (enterLane o lane).length = lane.length + 1 := by
  have hkinds : ∀ l : List StopOrder,
      (l.filter fun x => x.kind == .halt).length + (l.filter fun x => x.kind == .hold).length = l.length := fun l => by
    induction l with
    | nil => rfl
    | cons x xs ih => cases hx : x.kind <;> simp [hx] <;> omega
  cases h : o.kind with
  | hold => simp [enterLane, h]
  | halt =>
    have := hkinds lane
    simp [enterLane, h]
    omega

/-- The lane after an admission without a collapse holds no more orders than before, or at most four (R131). -/
theorem length_laneAfter {s : State} {o : StopIssue} {lane : List StopOrder} (h : laneAfter s o = some lane)
    (hs : s.lane.length ≤ 4) : lane.length ≤ 4 := by
  obtain ⟨-, -, rfl⟩ | ⟨-, rfl⟩ | ⟨⟨x, hx, hr⟩, rfl⟩ | ⟨hl, rfl⟩ := laneAfter_cases s o lane h
  · simp
  · simpa using hs
  · have hless : (s.lane.filter fun x => !replaces s o x).length < s.lane.length :=
      List.length_filter_lt_length_iff_exists.2 ⟨x, hx, by simp [hr]⟩
    rw [length_enterLane]
    omega
  · rw [length_enterLane]
    omega

/-- The effects of an admission purge the Motion Queue and enter nothing (R134, R135). -/
theorem length_motionQueue_admissionEffects (s : State) (o : StopIssue) :
    (admissionEffects s o).motionQueue.length ≤ s.motionQueue.length := by
  unfold admissionEffects
  rw [recordStop_motionQueue]
  exact List.length_filter_le _ _

/-- A collapse leaves the HALT ALL alone in the lane (R133). -/
theorem lane_collapse (s : State) (o : StopIssue) :
    (collapse s o).lane = [laneOrder (stopNotice (admissionEffects s o) o) (overflowStop o)] := by
  simp [collapse]

theorem length_motionQueue_admitStop (s : State) (o : StopIssue) :
    (admitStop s o).motionQueue.length ≤ s.motionQueue.length := by
  obtain ⟨lane, -, he⟩ | ⟨-, he⟩ := admitStop_cases s o
  · rw [he, stopNotice_motionQueue]
    exact length_motionQueue_admissionEffects { s with lane := lane } o
  · have hown := length_motionQueue_admissionEffects s o
    have hhalt := length_motionQueue_admissionEffects (beforeOverflow s o) (overflowStop o)
    have hbefore : (beforeOverflow s o).motionQueue = (admissionEffects s o).motionQueue := by simp [beforeOverflow]
    have hcollapse : (collapse s o).motionQueue = (admissionEffects (beforeOverflow s o) (overflowStop o)).motionQueue :=
      raiseNotice_motionQueue _ _ _
    rw [he, hcollapse]
    rw [hbefore] at hhalt
    exact hhalt.trans hown

theorem length_lane_admitStop {s : State} (o : StopIssue) (hs : s.lane.length ≤ 4) : (admitStop s o).lane.length ≤ 4 := by
  obtain ⟨lane, hl, he⟩ | ⟨-, he⟩ := admitStop_cases s o
  · rw [he, stopNotice_lane, admissionEffects_lane]
    exact length_laneAfter hl hs
  · rw [he, lane_collapse]
    simp

theorem steady_admitStop (s : State) (o : StopIssue) : Steady s (admitStop s o) where
  cfg h := cfgAt_admitStop s o h
  groupCfg := (leavesReadings_admitStop s o).groupCfg
  addressMap := admitStop_addressMap s o
  rigIdentity := admitStop_rigIdentity s o
  tag := by rw [TagCounterSound, TagCounterSound, admitStop_tagCounter]; exact id
  capacity := by
    rintro ⟨h1, h2, h3, h4, h5⟩
    exact ⟨by simpa using h1, length_lane_admitStop o h2, by simpa using h3,
      (length_motionQueue_admitStop s o).trans h4, by simpa using h5⟩

theorem steady_issueStop (s : State) (o : StopIssue) : Steady s (issueStop s o) := steady_admitStop s _

theorem steady_issueHoistStop (s : State) (k : StopKind) (h : Slot) (c : CauseKind) (seq : Byte) :
    Steady s (issueHoistStop s k h c seq) := steady_issueStop s _

/-! ## Batches and track steps -/

/-- A batch has at most one frame for each member (R91). -/
theorem length_batchEntries (s : State) (p : BatchPlan) (hs : List Slot) (seq : Byte) :
    (batchEntries s p hs seq).length ≤ hs.length := by
  induction hs generalizing seq with
  | nil => exact le_rfl
  | cons h hs ih =>
    unfold batchEntries
    split
    · exact (ih seq).trans (Nat.le_succ _)
    · split
      · simpa using ih seq
      · simpa using ih _

theorem fitsBatch_iff (s : State) (g : GroupNo) :
    fitsBatch s g = true ↔ s.motionQueue.length + (members s g).length ≤ 32 := by simp [fitsBatch]

theorem steady_queueBatch {s : State} {p : BatchPlan} (hroom : fitsBatch s p.group = true) :
    Steady s (queueBatch s p) := by
  have hlen := length_batchEntries s p (members s p.group) s.seqCounter
  have hfree := (fitsBatch_iff s p.group).1 hroom
  have hserial : ∀ u, Steady u (stepSerial u) := fun _ => .of_eq rfl rfl rfl rfl
  exact (steady_enqueue (by omega)).trans ((steady_stepSeq _ _).trans (hserial _))

theorem steady_grantMembers (s : State) (p : BatchPlan) : Steady s (grantMembers s p) :=
  steady_changeSome s _ fun h => takeGrant { target := memberTarget s p.base h, speed := p.speed, tag := p.tag }

theorem steady_admitBatch {s : State} {p : BatchPlan} (hroom : fitsBatch s p.group = true) : Steady s (admitBatch s p) :=
  (steady_queueBatch hroom).trans ((steady_grantMembers _ _).trans (steady_changeGroup _ _ _))

theorem steady_admitWave {s : State} {g : GroupNo} (hroom : fitsBatch s g = true) : Steady s (admitWave s g) := by
  unfold admitWave
  split
  · exact steady_cancelBatch s g
  · exact (steady_cancelBatch s g).trans ((steady_queueBatch (s := cancelBatch s g) (by exact hroom)).trans
      ((steady_grantMembers _ _).trans (steady_changeGroup _ _ _)))

theorem steady_admitStep {s : State} {g : GroupNo} (tr : Track) (hroom : fitsBatch s g = true) :
    Steady s (admitStep s g tr) :=
  (steady_stepTag s).trans ((steady_admitBatch (s := stepTag s) (by exact hroom)).trans
    ((steady_changeGroup _ _ _).trans (steady_raiseClamp _ _ _ _ _ _ _)))

theorem steady_takeDueStep {s : State} {g : GroupNo} (hroom : fitsBatch s g = true) : Steady s (takeDueStep s g) := by
  have hcancel := steady_cancelBatch s g
  unfold takeDueStep
  split
  · exact hcancel
  · dsimp only
    split
    · exact hcancel.trans (steady_admitStep (s := cancelBatch s g) _ (by exact hroom))
    · exact hcancel.trans ((steady_admitStop _ _).trans (steady_raiseNotice _ _ _))

theorem steady_makeStepDue (s : State) (g : GroupNo) : Steady s (makeStepDue s g) := by
  have htake : ∀ u, Steady u (takeIfOldest u g) := fun u => by
    unfold takeIfOldest
    split
    · next h => exact steady_takeDueStep h.2
    · exact .refl u
  exact (steady_changeGroup s g _).trans ((steady_withBatches _ _).trans (htake _))

/-! ## Completion and the Group Check -/

theorem steady_completeStep (s : State) (g : GroupNo) (tr : Track) (seq : Byte) : Steady s (completeStep s g tr seq) := by
  have hdiscard : Steady s (cancelBatch (changeGroup s g fun l => { l with wave := none }) g) :=
    (steady_changeGroup s g _).trans (steady_cancelBatch _ g)
  unfold completeStep
  dsimp only
  split
  · exact hdiscard.trans ((steady_changeGroup _ _ _).trans (steady_raiseNotice _ _ _))
  · split
    · exact hdiscard.trans (steady_makeStepDue _ g)
    · exact hdiscard.trans (steady_changeGroup _ _ _)

theorem steady_examineArrival (s : State) (g : GroupNo) (seq : Byte) : Steady s (examineArrival s g seq) := by
  unfold examineArrival
  split
  · split
    · exact ((steady_changeGroup s g _).trans (steady_cancelBatch _ g)).trans (steady_raiseNotice _ _ _)
    · exact .refl s
  · split
    · exact steady_completeStep _ _ _ _
    · exact .refl s

theorem steady_formWave (s : State) (g : GroupNo) : Steady s (formWave s g) :=
  (steady_stepTag s).trans ((steady_changeGroup _ _ _).trans (steady_withBatches _ _))

theorem steady_warnEffect (s : State) (g : GroupNo) : Steady s (warnEffect s g) := by
  unfold warnEffect
  split
  · dsimp only
    split
    · exact steady_changeGroup _ _ _
    · exact (steady_changeGroup _ _ _).trans (steady_formWave _ _)
  · exact steady_changeGroup _ _ _
  all_goals exact .refl s

theorem steady_cleanEffect (s : State) (g : GroupNo) : Steady s (cleanEffect s g) := by
  unfold cleanEffect
  dsimp only
  split
  · split
    · exact steady_changeGroup _ _ _
    · exact (steady_changeGroup _ _ _).trans (steady_withBatches _ _)
  · exact .refl s

theorem steady_verdictEffect (s : State) (g : GroupNo) (v : Evaluation) (seq : Byte) :
    Steady s (verdictEffect s g v seq) := by
  unfold verdictEffect
  split
  · exact steady_admitStop _ _
  · split
    · exact .refl s
    · exact steady_admitStop _ _
  · exact (steady_raiseNotice _ _ _).trans (steady_warnEffect _ g)
  · exact steady_cleanEffect s g
  · exact .refl s

theorem steady_examineRound (s : State) (h : Slot) (seq : Byte) : Steady s (examineRound s h seq) := by
  have hstore : ∀ g v, Steady s (storeEvaluation s g v) := fun g v =>
    (steady_changeGroup s g _).trans (steady_changeSome _ _ fun _ l => { l with fresh := false })
  unfold examineRound
  split
  · exact .refl s
  · split
    · exact (hstore _ _).trans (steady_verdictEffect _ _ _ _)
    · exact .refl s

/-! ## The application of a SAMPLE -/

theorem steady_setHoistState (s : State) (h : Slot) (st : HoistState) : Steady s (setHoistState s h st) :=
  steady_changeLive s h _

theorem steady_arrivalRule (s : State) (h : Slot) (r : Reading) : Steady s (arrivalRule s h r) := by
  have harrive : ∀ seq, Steady s (arrive s h seq) := fun seq => by
    unfold arrive
    dsimp only
    split
    · exact (steady_changeLive s h _).trans (steady_examineArrival _ _ _)
    · exact steady_changeLive s h _
  have hmiss : ∀ seq, Steady s (missArrival s h seq) := fun seq => by
    unfold missArrival
    split
    · exact steady_issueHoistStop _ _ _ _ _
    · exact (steady_setHoistState _ _ _).trans (steady_raiseNotice _ _ _)
  unfold arrivalRule
  split
  · exact .refl s
  · split
    · exact .refl s
    · split
      · exact harrive _
      · exact hmiss _

theorem steady_uncommandedRule (s : State) (h : Slot) (seq : Byte) : Steady s (uncommandedRule s h seq) := by
  unfold uncommandedRule
  split
  · exact steady_issueHoistStop _ _ _ _ _
  · exact .refl s

theorem steady_driveStateRule (s : State) (h : Slot) (r : Reading) (d : DriveState) :
    Steady s (driveStateRule s h r d) := by
  unfold driveStateRule
  split
  any_goals exact .refl s
  any_goals exact steady_issueHoistStop _ _ _ _ _
  any_goals exact steady_setHoistState _ _ _
  any_goals exact steady_uncommandedRule _ _ _
  · exact steady_arrivalRule _ _ _
  · exact (steady_setHoistState _ _ _).trans (steady_uncommandedRule _ _ _)

theorem steady_loadRule (s : State) (h : Slot) (r : Reading) : Steady s (loadRule s h r) := by
  unfold loadRule
  dsimp only
  split
  · exact (steady_changeLive s h _).trans (steady_issueHoistStop _ _ _ _ _)
  · exact steady_changeLive s h _

theorem steady_applySample (s : State) (h : Slot) (r : Reading) : Steady s (applySample s h r) := by
  have htimer : ∀ u : State, Steady u { u with pollTimers := u.pollTimers.set h none } := fun _ => .of_eq rfl rfl rfl rfl
  have hstore : Steady s (storeReading s h r) := (steady_changeLive s h _).trans (htimer _)
  have hrules : ∀ u, Steady u (stateAndLoad u h r) := fun u => by
    unfold stateAndLoad
    split
    · exact (steady_driveStateRule _ _ _ _).trans (steady_loadRule _ _ _)
    · exact steady_driveStateRule _ _ _ _
  exact hstore.trans ((hrules _).trans (steady_examineRound _ _ _))

/-! ## Filters and arrivals -/

theorem steady_filterBank (s : State) (f : Frame) (d : Direction) : Steady s (filterBank s f d) := by
  have hstop : ∀ hits u i, Steady u (filterStop f d hits u i) := fun hits u i => by
    unfold filterStop
    dsimp only
    split
    · exact .refl u
    · exact steady_admitStop _ _
  have hnotice : ∀ u hits, Steady u (filterNotice u f d hits) := fun u hits => by
    unfold filterNotice
    split
    · exact .refl u
    · exact steady_raiseNotice _ _ _
  exact (Steady.foldl (hstop (hitSet s f d)) (hitSet s f d) s).trans (hnotice _ _)

/-- A frame joins the Intake Buffer only while it holds fewer than eight (R47). -/
theorem steady_offerIntake (s : State) (f : Frame) : Steady s (offerIntake s f) := by
  unfold offerIntake
  split
  · next hroom =>
    refine .of_queues rfl rfl rfl fun ⟨_, h2, h3, h4, h5⟩ => ⟨?_, h2, h3, h4, h5⟩
    rw [List.length_append]
    exact hroom
  · exact steady_raiseNotice _ _ _

theorem steady_classify (s : State) (f : Frame) : Steady s (classify s f) := by
  unfold classify
  split
  · exact steady_issueStop _ _
  · exact steady_refuseFrame _ _ _
  · exact .refl s
  all_goals exact steady_offerIntake _ _

theorem steady_takeDownstream (s : State) (f : Frame) : Steady s (takeDownstream s f) := by
  have hreload : Steady s (reloadSilence s f) := .of_eq rfl rfl rfl rfl
  unfold takeDownstream
  dsimp only
  split
  · exact hreload.trans (steady_filterBank _ _ _)
  · exact hreload.trans ((steady_filterBank _ _ _).trans (steady_classify _ _))

theorem steady_sampleMonitor (s : State) (f : Frame) : Steady s (sampleMonitor s f) := by
  unfold sampleMonitor
  split
  · exact .refl s
  · split
    · exact steady_refuseFrame _ _ _
    · split
      · split
        · exact steady_applySample _ _ _
        · exact .refl s
      · exact .refl s

/-- A frame joins the Relay Queue only while it holds fewer than sixteen (R180). -/
theorem steady_offerRelay (s : State) (f : Frame) : Steady s (offerRelay s f) := by
  unfold offerRelay
  split
  · next hroom =>
    refine .of_queues rfl rfl rfl fun ⟨h1, h2, h3, h4, _⟩ => ⟨h1, h2, h3, h4, ?_⟩
    rw [List.length_append]
    exact hroom
  · exact steady_raiseNotice _ _ _

theorem steady_takeUpstream (s : State) (f : Frame) : Steady s (takeUpstream s f) := by
  have hmonitor : Steady s (sampleMonitor (filterBank s f .up) f) :=
    (steady_filterBank s f .up).trans (steady_sampleMonitor _ f)
  unfold takeUpstream
  dsimp only
  split
  · exact hmonitor
  · exact hmonitor.trans (steady_offerRelay _ _)

/-! ## The Intake head -/

theorem headRoom_iff (s : State) (n : Nat) : headRoom s n = true ↔ RoomFor s n := by
  simp [headRoom, and_assoc]

theorem fitsBatch_of_headRoom {s : State} {g : GroupNo} (h : headRoom s (members s g).length = true) :
    fitsBatch s g = true := (fitsBatch_iff s g).2 ((headRoom_iff s _).1 h).2.2

theorem steady_grantMove {s : State} (f : Frame) (h : Slot) (hroom : headRoom s 1 = true) : Steady s (grantMove s f h) :=
  (steady_enqueue (es := [_]) ((headRoom_iff s 1).1 hroom).2.2).trans
    ((steady_changeLive _ h _).trans (steady_raiseClamp _ _ _ _ _ _ _))

theorem steady_gateMove {s : State} (e : IntakeEntry) (hroom : headRoom s 1 = true) : Steady s (gateMove s e) := by
  unfold gateMove
  split
  · exact steady_refuseFrame _ _ _
  · split
    · exact steady_refuseFrame _ _ _
    · exact steady_grantMove _ _ hroom

theorem steady_gateGmove {s : State} (e : IntakeEntry) {g : GroupNo} (hroom : fitsBatch s g = true) :
    Steady s (gateGmove s e g) := by
  unfold gateGmove
  split
  · exact steady_refuseFrame _ _ _
  · exact (steady_admitBatch (by exact hroom)).trans (steady_raiseClamp _ _ _ _ _ _ _)

theorem steady_gateGo {s : State} (e : IntakeEntry) {g : GroupNo} (hroom : fitsBatch s g = true) :
    Steady s (gateGo s e g) := by
  unfold gateGo
  split
  · exact steady_refuseFrame _ _ _
  · unfold startTrack
    dsimp only
    split
    · exact steady_admitStep _ hroom
    · exact steady_raiseNotice _ _ _
  · exact steady_refuseFrame _ _ _

theorem steady_markPolled (s : State) (f : Frame) : Steady s (markPolled s f) := by
  unfold markPolled
  split
  · split
    · exact steady_changeLive _ _ _
    · exact .refl s
  · exact .refl s

/-- A POLL joins the Poll Promote Queue only while it holds fewer than two (R141). -/
theorem steady_promotePoll {s : State} {a : LineAddr} (f : Frame) (hroom : canPromote s a = true) :
    Steady s (promotePoll s f) := by
  have hfree : s.pollPromote.length < 2 := by
    simp only [canPromote, Bool.and_eq_true, decide_eq_true_eq] at hroom
    exact hroom.1
  have hplace : Steady s { s with pollPromote := s.pollPromote ++ [pollEntry s f] } :=
    .of_queues rfl rfl rfl fun ⟨h1, h2, _, h4, h5⟩ => ⟨h1, h2, by rw [List.length_append]; exact hfree, h4, h5⟩
  exact hplace.trans (steady_markPolled _ f)

theorem steady_queuePoll {s : State} (f : Frame) (hroom : s.motionQueue.length < 32) : Steady s (queuePoll s f) :=
  (steady_enqueue (es := [_]) hroom).trans (steady_markPolled _ f)

theorem steady_placeOwnPoll {s t : State} {a : LineAddr} (h : placeOwnPoll s a = some t) : Steady s t := by
  unfold placeOwnPoll at h
  dsimp only at h
  split at h
  · next hroom =>
    cases h
    exact (steady_stepSeq s 1).trans (steady_promotePoll (s := stepSeq s 1) (a := a) _ (by exact hroom))
  · split at h
    · next hroom =>
      simp only [Bool.and_eq_true, decide_eq_true_eq] at hroom
      cases h
      exact (steady_stepSeq s 1).trans (steady_queuePoll (s := stepSeq s 1) _ hroom.2)
    · cases h

/-! ## Expiries -/

theorem steady_staleExpire (s : State) (h : Slot) : Steady s (staleExpire s h) := by
  have hstop : Steady s (staleStop s h) := by
    unfold staleStop
    split
    any_goals exact .refl s
    any_goals exact steady_issueHoistStop _ _ _ _ _
    all_goals
      dsimp only
      split
      · exact (steady_setHoistState _ _ _).trans (steady_issueHoistStop _ _ _ _ _)
      · exact steady_setHoistState _ _ _
  unfold staleExpire
  split
  · exact .refl s
  · exact hstop.trans (steady_raiseNotice _ _ _)

theorem steady_endPollTimer (s : State) (h : Slot) : Steady s (endPollTimer s h) := by
  have htimer : ∀ u : State, Steady u { u with pollTimers := u.pollTimers.set h none } := fun _ => .of_eq rfl rfl rfl rfl
  exact (steady_changeLive s h _).trans (htimer _)

theorem steady_silenceExpire (s : State) : Steady s (silenceExpire s) := by
  have hsilence : ∀ v, Steady s { s with silence := v } := fun _ => .of_eq rfl rfl rfl rfl
  exact (hsilence _).trans ((steady_admitStop _ _).trans (steady_raiseNotice _ _ _))

end Sys2Proof.Machine
end


/-! # Sitting 2: a sound Address Map decodes as R43 says, and WRITE keeps it so -/
section

namespace Sys2Proof.Machine

/-! ## Both directions of decoding (R43) -/

theorem entryHasAddr_iff (e : MapEntry) (a : LineAddr) :
    entryHasAddr e a = true ↔ e.base.toNat ≤ a.toNat ∧ a.toNat < e.base.toNat + 2 ^ e.spanExp := by
  have hpos : 1 ≤ 2 ^ e.spanExp := Nat.one_le_two_pow
  simp only [entryHasAddr, Bool.and_eq_true, decide_eq_true_eq]
  rw [spanOf]
  omega

theorem entryHasSlot_iff (e : MapEntry) (h : Slot) :
    entryHasSlot e h = true ↔ e.slotBase.val ≤ h.val ∧ h.val < e.slotBase.val + 2 ^ e.spanExp := by
  have hpos : 1 ≤ 2 ^ e.spanExp := Nat.one_le_two_pow
  simp only [entryHasSlot, Bool.and_eq_true, decide_eq_true_eq]
  rw [spanOf]
  omega

/-- A search of the map finds the only entry that meets its condition. -/
theorem find?_mapEntries_eq_some {p : MapNo → Bool} {i : MapNo} (hi : p i = true) (honly : ∀ j, p j = true → j = i) :
    allMapEntries.find? p = some i := by
  cases h : allMapEntries.find? p with
  | none => exact absurd hi (List.find?_eq_none.1 h i (List.mem_finRange i))
  | some j => rw [honly j (List.find?_some h)]

/-- Two enabled entries of a sound map that share an address or a slot are the same entry (R41). -/
theorem MapSound.entry_eq {s : State} (hm : MapSound s) {i j : MapNo} (hi : (s.addressMap.get i).enabled = true)
    (hj : (s.addressMap.get j).enabled = true)
    (hshare : (∃ a, entryHasAddr (s.addressMap.get i) a = true ∧ entryHasAddr (s.addressMap.get j) a = true) ∨
      ∃ h, entryHasSlot (s.addressMap.get i) h = true ∧ entryHasSlot (s.addressMap.get j) h = true) : j = i := by
  by_contra hne
  obtain ⟨haddr, hslot⟩ := (hm i hi).2 j hne hj
  rcases hshare with ⟨a, h1, h2⟩ | ⟨h, h1, h2⟩
  · rw [entryHasAddr_iff] at h1 h2
    omega
  · rw [entryHasSlot_iff] at h1 h2
    omega

/-- Decoding an address reads the enabled entry that covers it (R43). -/
theorem slotOfAddr_eq_some_iff {s : State} (hm : MapSound s) (a : LineAddr) (h : Slot) :
    slotOfAddr s a = some h ↔ MapsTo s a h := by
  constructor
  · intro hs
    unfold slotOfAddr slotOfNat at hs
    dsimp only at hs
    split at hs
    · split at hs
      · next i hi =>
        have hcover := List.find?_some hi
        simp only [Bool.and_eq_true, entryHasAddr_iff] at hcover
        obtain ⟨hon, hlow, hhigh⟩ := hcover
        split at hs <;> cases hs
        exact ⟨i, hon, a.toNat - (s.addressMap.get i).base.toNat, by omega, by omega, rfl⟩
      · cases hs
    · cases hs
  · rintro ⟨i, hon, n, hn, ha, hh⟩
    obtain ⟨hlow, hhigh, -⟩ := (hm i hon).1
    have hcover : entryHasAddr (s.addressMap.get i) a = true := (entryHasAddr_iff _ a).2 (by omega)
    have hdevice : isDevice a = true := by
      simp only [isDevice, Bool.and_eq_true, decide_eq_true_eq]
      omega
    have hfind := find?_mapEntries_eq_some (i := i)
      (p := fun i => (s.addressMap.get i).enabled && entryHasAddr (s.addressMap.get i) a) (by simp [hon, hcover])
      fun j hj => by
        simp only [Bool.and_eq_true] at hj
        exact hm.entry_eq hon hj.1 (.inl ⟨a, hcover, hj.2⟩)
    have hplace : (s.addressMap.get i).slotBase.val + (a.toNat - (s.addressMap.get i).base.toNat) = h.val := by omega
    unfold slotOfAddr slotOfNat
    simp only [hdevice, if_true, hfind, hplace]
    simp

/-- Encoding a slot reads the enabled entry that covers it (R43). -/
theorem addrOfSlot_eq_some_iff {s : State} (hm : MapSound s) (a : LineAddr) (h : Slot) :
    addrOfSlot s h = some a ↔ MapsTo s a h := by
  constructor
  · intro hs
    unfold addrOfSlot at hs
    dsimp only at hs
    split at hs
    · next i hi =>
      have hcover := List.find?_some hi
      simp only [Bool.and_eq_true, entryHasSlot_iff] at hcover
      obtain ⟨hon, hlow, hhigh⟩ := hcover
      obtain ⟨-, hbase, -⟩ := (hm i hon).1
      cases hs
      refine ⟨i, hon, h.val - (s.addressMap.get i).slotBase.val, by omega, ?_, by omega⟩
      rw [BitVec.toNat_ofNat]
      exact Nat.mod_eq_of_lt (by omega)
    · cases hs
  · rintro ⟨i, hon, n, hn, ha, hh⟩
    have hcover : entryHasSlot (s.addressMap.get i) h = true := (entryHasSlot_iff _ h).2 (by omega)
    have hfind := find?_mapEntries_eq_some (i := i)
      (p := fun i => (s.addressMap.get i).enabled && entryHasSlot (s.addressMap.get i) h) (by simp [hon, hcover])
      fun j hj => by
        simp only [Bool.and_eq_true] at hj
        exact hm.entry_eq hon hj.1 (.inr ⟨h, hcover, hj.2⟩)
    have hplace : (s.addressMap.get i).base.toNat + (h.val - (s.addressMap.get i).slotBase.val) = a.toNat := by omega
    unfold addrOfSlot
    simp only [hfind, hplace]
    simp

/-! ## A validated entry (R41) -/

theorem outside_eq_false_iff (n lo hi : Nat) : outside n lo hi = false ↔ lo ≤ n ∧ n ≤ hi := by
  rw [outside_eq, decide_eq_false_iff_not]
  omega

/-- A merged entry that passes its checks is in range. -/
theorem entryInRange_of_validateMap {s : State} {i : MapNo} {raw : List (List Byte)} (h : validateMap s i raw = none) :
    EntryInRange (mapOfFields raw) ∧ mapOverlaps s i (mapOfFields raw) = false := by
  rw [validateMap, firstFailure_eq_none_iff] at h
  simp only [List.forall_mem_cons, outside_eq_false_iff, decide_eq_false_iff_not] at h
  obtain ⟨-, ⟨hlow, hhigh⟩, -, -, hlast, ⟨-, hslot⟩, hslots, hover, -⟩ := h
  have hpos : 1 ≤ 2 ^ fieldNat raw 2 := Nat.one_le_two_pow
  have hbase : (mapOfFields raw).base.toNat = fieldNat raw 1 :=
    (BitVec.toNat_ofNat _ _).trans (Nat.mod_eq_of_lt (by omega))
  have hslotBase : (mapOfFields raw).slotBase.val = fieldNat raw 3 := Nat.mod_eq_of_lt (by omega)
  have hspan : (mapOfFields raw).spanExp = fieldNat raw 2 := rfl
  rw [EntryInRange, hbase, hslotBase, hspan]
  exact ⟨⟨hlow, by omega, by omega⟩, hover⟩

/-- An enabled entry that does not overlap is apart from every other enabled entry. -/
theorem entriesApart_of_mapOverlaps {s : State} {i j : MapNo} {e : MapEntry} (h : mapOverlaps s i e = false)
    (he : e.enabled = true) (hne : j ≠ i) (hj : (s.addressMap.get j).enabled = true) :
    EntriesApart e (s.addressMap.get j) := by
  by_contra hmeet
  refine Bool.eq_false_iff.1 h ?_
  simp only [mapOverlaps, he, Bool.true_and, List.any_eq_true]
  refine ⟨j, List.mem_finRange j, ?_⟩
  simp only [hj, bne_iff_ne.2 hne, Bool.true_and, Bool.or_eq_true, rangesMeet, Bool.and_eq_true, decide_eq_true_eq]
  simp only [spanOf]
  omega

/-- The commit of a validated entry keeps the map sound (R41, R42). -/
theorem mapSound_commitMap {s : State} {i : MapNo} {raw : List (List Byte)} (hs : MapSound s)
    (hv : validateMap s i raw = none) : MapSound (commitMap s i (mapOfFields raw)) := by
  obtain ⟨hrange, hover⟩ := entryInRange_of_validateMap hv
  intro k hk
  simp only [commitMap, Table.get_set] at hk ⊢
  split at hk
  · next hki =>
    rw [if_pos hki]
    refine ⟨hrange, fun j hj hon => ?_⟩
    have hne : j ≠ i := fun e => hj (e.trans hki.symm)
    rw [if_neg hne] at hon ⊢
    exact entriesApart_of_mapOverlaps hover hk hne hon
  · next hki =>
    rw [if_neg hki]
    refine ⟨(hs k hk).1, fun j hj hon => ?_⟩
    split at hon
    · next hji =>
      rw [if_pos hji]
      obtain ⟨haddr, hslot⟩ := entriesApart_of_mapOverlaps hover hon hki hk
      exact ⟨haddr.symm, hslot.symm⟩
    · next hji =>
      rw [if_neg hji]
      exact (hs k hk).2 j hj hon

end Sys2Proof.Machine
end


/-! # Sitting 2: every step keeps the capacities, the tags, the map, and the records of armed groups

`KeepsRecords s t` says of a whole event what O7, O10 and O14 want of it. Every steady event has it, and a WRITE has it by its
checks and its protection. -/
section

namespace Sys2Proof.Machine

/-- Group `g` has the members, the record, the members' records and the members' addresses that it had. -/
abbrev SameGroup (s t : State) (g : GroupNo) : Prop :=
  members t g = members s g ∧ (groupAt t g).cfg = (groupAt s g).cfg ∧
    ∀ h ∈ members s g, cfgAt t h = cfgAt s h ∧ addrOfSlot t h = addrOfSlot s h

/-- What every event keeps but a power-on reset. -/
structure KeepsRecords (s t : State) : Prop where
  capacity : WithinCapacity s → WithinCapacity t
  tag : TagCounterSound s → TagCounterSound t
  map : MapSound s → MapSound t
  identity : ∀ v, s.rigIdentity = some v → t.rigIdentity = some v
  armed : ∀ g, armed s g = true → SameGroup s t g

theorem Steady.sameGroup {s t : State} (h : Steady s t) (g : GroupNo) : SameGroup s t g :=
  ⟨members_congr h.cfg g, h.groupCfg g, fun k _ => ⟨h.cfg k, h.addrOfSlot k⟩⟩

theorem Steady.keepsRecords {s t : State} (h : Steady s t) : KeepsRecords s t where
  capacity := h.capacity
  tag := h.tag
  map hs := by rw [MapSound, h.addressMap]; exact hs
  identity v hv := h.rigIdentity.trans hv
  armed g _ := h.sameGroup g

theorem KeepsRecords.refl (s : State) : KeepsRecords s s := (Steady.refl s).keepsRecords

/-- What an event keeps, a steady part behind it keeps too. -/
theorem KeepsRecords.trans_steady {s t u : State} (h1 : KeepsRecords s t) (h2 : Steady t u) : KeepsRecords s u where
  capacity := h2.capacity ∘ h1.capacity
  tag := h2.tag ∘ h1.tag
  map hs := h2.keepsRecords.map (h1.map hs)
  identity v hv := h2.rigIdentity.trans (h1.identity v hv)
  armed g ha := by
    obtain ⟨hm, hc, hr⟩ := h1.armed g ha
    obtain ⟨hm', hc', -⟩ := h2.sameGroup g
    exact ⟨hm'.trans hm, hc'.trans hc, fun k hk =>
      ⟨(h2.cfg k).trans (hr k hk).1, (h2.addrOfSlot k).trans (hr k hk).2⟩⟩

/-- What an event keeps behind a steady part that arms and parks no group, both keep together. -/
theorem KeepsRecords.of_steady {s t u : State} (h1 : Steady s t) (ha : t.groups = s.groups) (h2 : KeepsRecords t u) :
    KeepsRecords s u where
  capacity := h2.capacity ∘ h1.capacity
  tag := h2.tag ∘ h1.tag
  map hs := h2.map (h1.keepsRecords.map hs)
  identity v hv := h2.identity v (h1.rigIdentity.trans hv)
  armed g hg := by
    have harmed : Machine.armed t g = true := by rw [Machine.armed, groupAt_congr ha]; exact hg
    obtain ⟨hm, hc, hr⟩ := h2.armed g harmed
    obtain ⟨hm', hc', hr'⟩ := h1.sameGroup g
    refine ⟨hm.trans hm', hc.trans hc', fun k hk => ?_⟩
    obtain ⟨hcfg, haddr⟩ := hr k (hm' ▸ hk)
    exact ⟨hcfg.trans (h1.cfg k), haddr.trans (h1.addrOfSlot k)⟩

/-! ## WRITE (R42, R76, R186, R187) -/

/-- A WRITE of one record leaves the state as it is or commits a merged record that has passed its checks and that nothing
protects (R186). -/
theorem writeRecord_cases (s : State) (f : Frame) (present : List (List Byte))
    (validate : List (List Byte) → Option (Nat × Reason)) (protection : List (List Byte) → Option Reason)
    (commit : List (List Byte) → State) :
    (writeRecord s f present validate protection commit).state = s ∨
    ∃ raw, validate raw = none ∧ protection raw = none ∧
      (writeRecord s f present validate protection commit).state = commit raw := by
  unfold writeRecord
  split
  · exact .inl rfl
  · next raw _ =>
    split
    · exact .inl rfl
    · exact .inl rfl
    · next hv hp => exact .inr ⟨raw, hv, hp, rfl⟩

theorem refusesWhen_eq_none_iff (p : Bool) (r : Reason) : refusesWhen p r = none ↔ p = false := by
  cases p <;> simp [refusesWhen]

theorem keepsRecords_writeRecord {s : State} {f : Frame} {present : List (List Byte)}
    {validate : List (List Byte) → Option (Nat × Reason)} {protection : List (List Byte) → Option Reason}
    {commit : List (List Byte) → State}
    (h : ∀ raw, validate raw = none → protection raw = none → KeepsRecords s (commit raw)) :
    KeepsRecords s (writeRecord s f present validate protection commit).state := by
  obtain e | ⟨raw, hv, hp, e⟩ := writeRecord_cases s f present validate protection commit
  · rw [e]; exact .refl s
  · rw [e]; exact h raw hv hp

/-- A configuration that names no armed group is no member's of one (R187). -/
theorem ne_of_namesArmed {s : State} {g : GroupNo} {c : HoistConfig} (h : namesArmed s c = false)
    (hg : armed s g = true) : ¬(c.present = true ∧ c.group = some g) := fun ⟨hp, hc⟩ =>
  Bool.eq_false_iff.1 h ((namesArmed_iff s c).2 ⟨g, hp, hc, hg⟩)

/-- The protection of a hoist record keeps it out of every armed group, before and after (R187). -/
theorem keepsRecords_commitHoist {s : State} {h : Slot} {c : HoistConfig} (hprot : hoistProtected s h c = false) :
    KeepsRecords s (commitHoist s h c) := by
  have hframe := commitHoist_frame s h c
  simp only [hoistProtected, Bool.or_eq_false_iff] at hprot
  obtain ⟨⟨-, hold⟩, hnew⟩ := hprot
  have hmap : (commitHoist s h c).addressMap = s.addressMap := by rw [hframe]
  have hidentity : (commitHoist s h c).rigIdentity = s.rigIdentity := by rw [hframe]
  refine ⟨fun hs => by rw [hframe]; exact hs, fun hs => by rw [hframe]; exact hs, fun hs => by rw [MapSound, hmap]; exact hs,
    fun v hv => hidentity.trans hv, fun g hg => ?_⟩
  have hother : ∀ k, isMember s g k = true → k ≠ h := by
    rintro k hk rfl
    exact ne_of_namesArmed hold hg ((isMember_iff s g k).1 hk)
  have hmember : ∀ k, isMember (commitHoist s h c) g k = isMember s g k := fun k => by
    rw [Bool.eq_iff_iff, isMember_iff, isMember_iff, cfgAt_commitHoist]
    split
    · next e =>
      subst e
      exact iff_of_false (ne_of_namesArmed hnew hg) (ne_of_namesArmed hold hg)
    · exact Iff.rfl
  refine ⟨by simp [members, funext hmember], by rw [groupAt_congr (groups_commitHoist s h c)], fun k hk => ⟨?_, ?_⟩⟩
  · rw [cfgAt_commitHoist, if_neg (hother k ((mem_members s g k).1 hk))]
  · simp [addrOfSlot, hmap]

/-- A group's record is written only while the group is PARKED (R76). -/
theorem keepsRecords_commitGroup {s : State} {g : GroupNo} {c : GroupConfig} (hprot : groupProtected s g = false) :
    KeepsRecords s (commitGroup s g c) := by
  have hframe := commitGroup_frame s g c
  have hmap : (commitGroup s g c).addressMap = s.addressMap := by rw [hframe]
  have hidentity : (commitGroup s g c).rigIdentity = s.rigIdentity := by rw [hframe]
  refine ⟨fun hs => by rw [hframe]; exact hs, fun hs => by rw [hframe]; exact hs, fun hs => by rw [MapSound, hmap]; exact hs,
    fun v hv => hidentity.trans hv, fun k hk => ⟨members_congr (cfgAt_commitGroup s g c) k, ?_, fun h _ =>
      ⟨cfgAt_commitGroup s g c h, by simp [addrOfSlot, hmap]⟩⟩⟩
  have hne : k ≠ g := by
    rintro rfl
    exact Bool.eq_false_iff.1 hprot hk
  rw [groupAt_commitGroup, if_neg hne]

/-- A slot that neither the old nor the new entry covers keeps its address (R43). -/
theorem addrOfSlot_commitMap {s : State} {i : MapNo} {e : MapEntry} {h : Slot}
    (hold : ((s.addressMap.get i).enabled && entryHasSlot (s.addressMap.get i) h) = false)
    (hnew : (e.enabled && entryHasSlot e h) = false) : addrOfSlot (commitMap s i e) h = addrOfSlot s h := by
  have hsame : ∀ j, (((commitMap s i e).addressMap.get j).enabled && entryHasSlot ((commitMap s i e).addressMap.get j) h) =
      ((s.addressMap.get j).enabled && entryHasSlot (s.addressMap.get j) h) := fun j => by
    simp only [commitMap, Table.get_set]
    split
    · next hj => rw [hj, hold, hnew]
    · rfl
  unfold addrOfSlot
  rw [funext hsame]
  split
  · next j hj =>
    have hne : j ≠ i := by
      rintro rfl
      have hcover := List.find?_some hj
      rw [hold] at hcover
      cases hcover
    simp only [commitMap, Table.get_set, if_neg hne]
  · rfl

/-- A map entry is written only while it covers no member of an armed group, before and after (R42). -/
theorem keepsRecords_commitMap {s : State} {i : MapNo} {raw : List (List Byte)} (hv : validateMap s i raw = none)
    (hprot : mapProtected s i (mapOfFields raw) = false) : KeepsRecords s (commitMap s i (mapOfFields raw)) := by
  refine ⟨id, id, fun hs => mapSound_commitMap hs hv, fun _ hv => hv, fun g hg => ⟨rfl, rfl, fun h hh => ⟨rfl, ?_⟩⟩⟩
  have hmember := (isMember_iff s g h).1 ((mem_members s g h).1 hh)
  have hclear : ∀ p, (p = true → mapProtected s i (mapOfFields raw) = true) → p = false := fun p hp =>
    Bool.eq_false_iff.2 fun e => Bool.eq_false_iff.1 hprot (hp e)
  refine addrOfSlot_commitMap (hclear _ fun e => ?_) (hclear _ fun e => ?_)
  · exact (mapProtected_iff s i _).2 ⟨h, .inl (Bool.and_eq_true_iff.1 e), .inr ⟨g, hmember.1, hmember.2, hg⟩⟩
  · exact (mapProtected_iff s i _).2 ⟨h, .inr (Bool.and_eq_true_iff.1 e), .inr ⟨g, hmember.1, hmember.2, hg⟩⟩

theorem steady_commitLine (s : State) (c : LineConfig) (levels : Bool) : Steady s (commitLine s c levels) := by
  have hline : Steady s { s with line := c } := .of_eq rfl rfl rfl rfl
  have htimers : ∀ u old, Steady u (endLateTimers u old) := fun u old => by
    unfold endLateTimers
    split
    · exact .refl u
    · exact .foldl steady_endPollTimer _ u
  have hages : ∀ u old, Steady u (expireLateHoists u old) := fun u _ => .foldl steady_staleExpire _ u
  have hsilence : ∀ u old, Steady u (expireLateSilence u old) := fun u old => by
    unfold expireLateSilence
    split
    · exact steady_silenceExpire u
    · exact .refl u
  have hnotices : ∀ u, Steady u (withdrawNotices u) := fun _ => .of_eq rfl rfl rfl rfl
  have hlimits := hline.trans ((htimers _ s.line.pollTimeout).trans ((hages _ s.line.ageLimit).trans
    (hsilence _ s.line.silenceLimit)))
  unfold commitLine
  dsimp only
  split
  · exact hlimits.trans (hnotices _)
  · exact hlimits

theorem keepsRecords_writeOp (s : State) (f : Frame) : KeepsRecords s (writeOp s f).state := by
  have hfilter : ∀ i t, Steady s (commitFilter s i t) := fun _ _ => .of_eq rfl rfl rfl rfl
  have htrack : ∀ i d, Steady s (commitTrack s i d) := fun _ _ => .of_eq rfl rfl rfl rfl
  unfold writeOp
  split
  · exact .refl s
  · exact .refl s
  · exact keepsRecords_writeRecord fun raw _ hp => keepsRecords_commitHoist ((refusesWhen_eq_none_iff _ _).1 hp)
  · exact keepsRecords_writeRecord fun raw _ hp => keepsRecords_commitGroup ((refusesWhen_eq_none_iff _ _).1 hp)
  · exact keepsRecords_writeRecord fun raw hv hp => keepsRecords_commitMap hv ((refusesWhen_eq_none_iff _ _).1 hp)
  · exact keepsRecords_writeRecord fun _ _ _ => (hfilter _ _).keepsRecords
  · exact keepsRecords_writeRecord fun _ _ _ => (htrack _ _).keepsRecords
  · exact keepsRecords_writeRecord fun _ _ _ => (steady_commitLine _ _ _).keepsRecords

/-! ## The other operations -/

theorem steady_armOp (s : State) (f : Frame) : Steady s (armOp s f).state := by
  have harm : ∀ g, Steady s (armGroup s g) := fun g =>
    (steady_changeGroup s g _).trans (steady_changeSome _ _ fun _ l => { l with fresh := false })
  unfold armOp
  split
  · exact .refl s
  · split
    · exact .refl s
    · exact harm _

theorem steady_parkOp (s : State) (f : Frame) : Steady s (parkOp s f).state := by
  unfold parkOp
  split
  · exact .refl s
  · split
    · exact .refl s
    · next g _ _ _ =>
      show Steady s (changeGroup s g fun l => { GroupLive.reset with tripCause := l.tripCause })
      exact steady_changeGroup s g _

theorem steady_recoverOp (s : State) (f : Frame) : Steady s (recoverOp s f).state := by
  have hset : ∀ p q, Steady s (clearOnRecover (recoverSet s p q)) := fun p q => by
    have hclear : ∀ u, Steady u (clearOnRecover u) := fun u => by
      unfold clearOnRecover
      split
      · exact .of_eq rfl rfl rfl rfl
      · exact .refl u
    refine ((steady_changeSome s p fun _ => recoverLive).trans (steady_changeGroups _ fun g r => ?_)).trans (hclear _)
    split <;> rfl
  have hhoist : ∀ h, Steady s (recoverHoistOp s h).state := fun h => by
    unfold recoverHoistOp
    split
    · exact .refl s
    · split
      · exact .refl s
      · exact hset _ _
  have hgroup : ∀ g, Steady s (recoverGroupOp s g).state := fun g => by
    unfold recoverGroupOp
    split
    · exact .refl s
    · split
      · exact .refl s
      · exact hset _ _
  have hall : Steady s (recoverAllOp s).state := by
    unfold recoverAllOp
    split
    · exact .refl s
    · exact hset _ _
  unfold recoverOp
  split
  · exact hall
  · split
    · exact hhoist _
    · exact .refl s
  · split
    · exact hgroup _
    · exact .refl s
  all_goals exact .refl s

/-- A Rig Identity is set only while there is none (R183). -/
theorem keepsRecords_setIdentityOp (s : State) (f : Frame) : KeepsRecords s (setIdentityOp s f).state := by
  unfold setIdentityOp
  split
  · exact .refl s
  · split
    · exact .refl s
    · next hunset =>
      refine ⟨id, id, id, fun v hv => ?_, fun g _ => ⟨rfl, rfl, fun _ _ => ⟨rfl, rfl⟩⟩⟩
      rw [hv] at hunset
      exact absurd rfl hunset

theorem steady_motionOff (s : State) (seq : Byte) : Steady s (motionOff s seq) := by
  have hoff : Steady s { s with motionEnable := false } := .of_eq rfl rfl rfl rfl
  have habort : ∀ u, Steady u (abortTracks u) := fun u =>
    (steady_changeGroups u (f := fun _ r => { r with live := { r.live with track := none } }) fun _ _ => rfl).trans
      (steady_withBatches _ _)
  unfold motionOff
  refine .trans ?_ (habort _)
  split
  · exact hoff.trans (steady_admitStop _ _)
  · exact hoff

theorem steady_setMotionOp (s : State) (f : Frame) : Steady s (setMotionOp s f).state := by
  unfold setMotionOp
  split
  · show Steady s (if s.motionEnable then motionOff s f.seq else s)
    split
    · exact steady_motionOff s _
    · exact .refl s
  · split
    · split
      · exact .refl s
      · exact .of_eq rfl rfl rfl rfl
    · exact .refl s

theorem steady_setPortModeOp (s : State) (f : Frame) : Steady s (setPortModeOp s f).state := by
  have hmode : ∀ (m : PortMode) (n : Option Entry), Steady s { s with portMode := m, nextFrame := n } :=
    fun _ _ => .of_eq rfl rfl rfl rfl
  have hchange : ∀ m, Steady s (changeMode s m) := fun m => by
    unfold changeMode
    dsimp only
    split
    · split
      · exact (hmode m none).trans (transmits_discardFrame _ _).steady
      · exact hmode m s.nextFrame
    · exact hmode m s.nextFrame
  unfold setPortModeOp
  split
  · exact .refl s
  · split
    · exact .refl s
    · split
      · exact .refl s
      · exact hchange _

/-- A line reset keeps the configuration and empties the queues (R192). -/
theorem steady_resetLine (s : State) (seq : Byte) : Steady s (resetLine s seq) := by
  have hempty : Steady s (emptyForReset s) := by
    refine ⟨fun h => ?_, fun g => by simp, rfl, rfl, fun _ => ?_, fun _ => ?_⟩
    · rw [← cfg_hoistAt, hoistAt_emptyForReset]
      rfl
    · show 128 ≤ (128#8 : Byte).toNat
      decide
    · simp [emptyForReset, WithinCapacity]
  exact hempty.trans (steady_admitStop _ _)

/-! ## Commands -/

/-- The next state of an outcome, when it has one, keeps what `s` has. -/
def KeepsRecordsNext (s : State) (x : Host.Outcome State Fault Refusal) : Prop := ∀ t, x = .next t → KeepsRecords s t

/-- The next state of an outcome, when it has one, is steady. -/
def SteadyNext (s : State) (x : Host.Outcome State Fault Refusal) : Prop := ∀ t, x = .next t → Steady s t

theorem Steady.steadyNext {s t : State} (h : Steady s t) : SteadyNext s (.next (finish t)) := fun _ e => by
  cases e
  exact h.trans (steady_finish t)

theorem steadyNext_same (s : State) : SteadyNext s (.next s) := fun _ e => by cases e; exact .refl s

theorem steadyNext_fault (s : State) (f : Fault) : SteadyNext s (.fault f) := fun _ e => by cases e

theorem SteadyNext.keepsRecordsNext {s : State} {x : Host.Outcome State Fault Refusal} (h : SteadyNext s x) :
    KeepsRecordsNext s x := fun t e => (h t e).keepsRecords

theorem SteadyNext.nextOr {s : State} {x : Host.Outcome State Fault Refusal} (h : SteadyNext s x) :
    Steady s (nextOr s x) := by
  cases x with
  | next t => exact h t rfl
  | fault _ => exact .refl s
  | refused _ => exact .refl s

/-- The taking of an Intake head (R48). -/
theorem keepsRecordsNext_takeHead {s : State} {act : IntakeEntry → State → Option State}
    (h : ∀ e u v, act e u = some v → KeepsRecords u v) : KeepsRecordsNext s (takeHead s act) := by
  intro t ht
  obtain ⟨e, rest, u, hi, ha, he⟩ | ⟨-, he⟩ := takeHead_cases s act
  · have htake : Steady s { s with intake := rest } := by
      refine .of_queues rfl rfl rfl fun ⟨h1, h2, h3, h4, h5⟩ => ⟨?_, h2, h3, h4, h5⟩
      rw [hi] at h1
      exact (Nat.le_succ _).trans h1
    rw [he] at ht
    cases ht
    exact .of_steady htake rfl ((h e _ u ha).trans_steady (steady_finish u))
  · rw [he] at ht
    cases ht
    exact .refl s

/-- A management command keeps what its operation keeps (R182). -/
theorem keepsRecordsNext_mgmt {s : State} {accepts : Byte → Bool} {act : State → Frame → MgmtResult}
    (h : ∀ u f, KeepsRecords u (act u f).state) : KeepsRecordsNext s (takeHead s (mgmtTaken accepts act)) := by
  refine keepsRecordsNext_takeHead fun e u v hv => ?_
  have hreply : ∀ (f : Frame) (r : MgmtResult), Steady r.state (placeReply f r) := fun _ _ => .of_eq rfl rfl rfl rfl
  unfold mgmtTaken answer at hv
  split at hv
  · cases hv
    split
    · exact (hreply _ (refuses u _)).keepsRecords
    · exact (h u e.frame).trans_steady (hreply _ _)
  · cases hv

theorem steadyNext_arrivals (s : State) (content : List Byte) :
    SteadyNext s (execUPortArrival content s) ∧ SteadyNext s (execDPortArrival content s) := by
  refine ⟨?_, ?_⟩
  · unfold execUPortArrival
    split
    · exact (steady_raiseNotice _ _ _).steadyNext
    · exact (steady_takeDownstream _ _).steadyNext
  · unfold execDPortArrival
    split
    · exact (steady_raiseNotice _ _ _).steadyNext
    · exact (steady_takeUpstream _ _).steadyNext

theorem keepsRecordsNext_move (s : State) : KeepsRecordsNext s (execMove s) := by
  refine keepsRecordsNext_takeHead fun e u v h => ?_
  unfold moveTaken at h
  split at h <;> cases h
  next hroom => exact (steady_gateMove _ hroom.2).keepsRecords

theorem keepsRecordsNext_gmove (s : State) : KeepsRecordsNext s (execGmove s) := by
  refine keepsRecordsNext_takeHead fun e u v h => ?_
  unfold gmoveTaken at h
  split at h
  · split at h <;> cases h
    next hroom => exact (steady_gateGmove _ (fitsBatch_of_headRoom hroom)).keepsRecords
  all_goals cases h

theorem keepsRecordsNext_go (s : State) : KeepsRecordsNext s (execGo s) := by
  refine keepsRecordsNext_takeHead fun e u v h => ?_
  unfold goTaken at h
  split at h
  · split at h <;> cases h
    next hroom => exact (steady_gateGo _ (fitsBatch_of_headRoom hroom)).keepsRecords
  all_goals cases h

theorem keepsRecordsNext_poll (s : State) : KeepsRecordsNext s (execPoll s) := by
  refine keepsRecordsNext_takeHead fun e u v h => ?_
  unfold pollTaken at h
  split at h
  · split at h
    · next hplace =>
      split at h <;> cases h
      exact (steady_promotePoll _ hplace).keepsRecords
    · split at h <;> cases h
      next hroom => exact (steady_queuePoll _ ((headRoom_iff _ 1).1 hroom).2.2).keepsRecords
  · cases h

theorem keepsRecordsNext_passThroughFrame (s : State) : KeepsRecordsNext s (execPassThroughFrame s) := by
  refine keepsRecordsNext_takeHead fun e u v h => ?_
  unfold passThroughTaken at h
  split at h <;> cases h
  next hroom => exact (steady_enqueue (es := [_]) ((headRoom_iff _ 1).1 hroom.2).2.2).keepsRecords

theorem steadyNext_ownPoll (s : State) : SteadyNext s (execOwnPoll s) := by
  unfold execOwnPoll
  split
  · next t ht =>
    obtain ⟨h, -, hh⟩ := List.exists_of_findSome?_eq_some ht
    split at hh
    · obtain ⟨a, -, ha⟩ := Option.bind_eq_some_iff.1 hh
      exact (steady_placeOwnPoll ha).steadyNext
    · cases hh
  · exact steadyNext_same s

theorem steadyNext_internalBatches (s : State) :
    SteadyNext s (execRewriteWaveAdmission s) ∧ SteadyNext s (execTrackStep s) := by
  refine ⟨?_, ?_⟩
  · unfold execRewriteWaveAdmission
    split
    · split
      · next hroom => exact (steady_admitWave hroom).steadyNext
      · exact steadyNext_same s
    all_goals exact steadyNext_same s
  · unfold execTrackStep
    split
    · split
      · next hroom => exact (steady_takeDueStep hroom).steadyNext
      · exact steadyNext_same s
    all_goals exact steadyNext_same s

theorem steadyNext_transmitCompletions (s : State) :
    SteadyNext s (execDPortTransmitCompletion s) ∧ SteadyNext s (execUPortTransmitCompletion s) := by
  have hd : Steady s { s with onWire := none } := .of_eq rfl rfl rfl rfl
  have hu : Steady s { s with uWire := none } := .of_eq rfl rfl rfl rfl
  refine ⟨?_, ?_⟩
  · unfold execDPortTransmitCompletion
    split
    · exact hd.steadyNext
    · exact steadyNext_same s
  · unfold execUPortTransmitCompletion
    split
    · exact hu.steadyNext
    · exact steadyNext_same s

theorem steadyNext_lineResetTakesEffect (s : State) : SteadyNext s (execLineResetTakesEffect s) := by
  have hwire : ∀ f, Steady s { s with uWire := f } := fun _ => .of_eq rfl rfl rfl rfl
  unfold execLineResetTakesEffect
  split
  · split
    · exact ((hwire _).trans (steady_resetLine _ _)).steadyNext
    · exact steadyNext_same s
  all_goals exact steadyNext_same s

/-! ## Expiries and the idle step -/

theorem steadyNext_staleExpiry (s : State) (n : Nat) : SteadyNext s (execStaleExpiry n s) := by
  unfold execStaleExpiry
  split
  · exact steadyNext_fault _ _
  · split
    · exact ((steady_changeLive s _ _).trans (steady_staleExpire _ _)).steadyNext
    · exact steadyNext_same s

theorem steadyNext_pollTimeout (s : State) (n : Nat) : SteadyNext s (execPollTimeout n s) := by
  unfold execPollTimeout
  split
  · exact steadyNext_fault _ _
  · split
    · exact (steady_endPollTimer _ _).steadyNext
    · exact steadyNext_same s

theorem steadyNext_silenceTimerExpiry (s : State) : SteadyNext s (execSilenceTimerExpiry s) := by
  have hreach : Steady s (reachSilenceLimit s) := .of_eq rfl rfl rfl rfl
  unfold execSilenceTimerExpiry
  split
  · exact (hreach.trans (steady_silenceExpire _)).steadyNext
  · exact steadyNext_same s

theorem steadyNext_dwellExpiry (s : State) (n : Nat) : SteadyNext s (execDwellExpiry n s) := by
  unfold execDwellExpiry
  split
  · exact steadyNext_fault _ _
  · split
    · exact (steady_makeStepDue _ _).steadyNext
    · exact steadyNext_same s

theorem steady_stepCounts (s : State) : Steady s (stepCounts s) := by
  refine .of_cfg (fun h => ?_) (fun g => ?_) rfl rfl
  · rw [← cfg_hoistAt]
    simp [stepCounts, hoistAt, cfgAt]
  · simp [stepCounts, groupAt]

theorem steady_tick (s : State) : Steady s (tick s) := by
  have hrun : ∀ u x, Steady u (runExpiry u x) := fun u x => by
    cases x with
    | stale h => exact (steadyNext_staleExpiry u _).nextOr
    | pollTimeout h => exact (steadyNext_pollTimeout u _).nextOr
    | dwell g => exact (steadyNext_dwellExpiry u _).nextOr
    | silence => exact (steadyNext_silenceTimerExpiry u).nextOr
  exact (steady_stepCounts s).trans (.foldl hrun _ _)

/-! ## Every step -/

/-- Every command but a power-on reset keeps what `KeepsRecords` lists. -/
theorem keepsRecordsNext_exec {c : Instr} (hc : c ≠ .powerOnReset) (s : State) : KeepsRecordsNext s (exec c s) := by
  have same : ∀ {u v : State}, v = u → KeepsRecords u v := fun e => e ▸ .refl _
  cases c with
  | powerOnReset => exact absurd rfl hc
  | uPortArrival content => exact (steadyNext_arrivals s content).1.keepsRecordsNext
  | dPortArrival content => exact (steadyNext_arrivals s content).2.keepsRecordsNext
  | move => exact keepsRecordsNext_move s
  | gmove => exact keepsRecordsNext_gmove s
  | go => exact keepsRecordsNext_go s
  | poll => exact keepsRecordsNext_poll s
  | passThroughFrame => exact keepsRecordsNext_passThroughFrame s
  | read => exact keepsRecordsNext_mgmt fun u f => same (keeps_readOps u f).1
  | write => exact keepsRecordsNext_mgmt keepsRecords_writeOp
  | readLive => exact keepsRecordsNext_mgmt fun u f => same (keeps_readOps u f).2.1
  | arm => exact keepsRecordsNext_mgmt fun u f => (steady_armOp u f).keepsRecords
  | park => exact keepsRecordsNext_mgmt fun u f => (steady_parkOp u f).keepsRecords
  | recover => exact keepsRecordsNext_mgmt fun u f => (steady_recoverOp u f).keepsRecords
  | clearCause =>
    have hclear : ∀ u : State, Steady u { u with causeRecord := none } := fun _ => .of_eq rfl rfl rfl rfl
    exact keepsRecordsNext_mgmt fun u f => (hclear u).keepsRecords
  | readCause => exact keepsRecordsNext_mgmt fun u f => same (keeps_readOps u f).2.2
  | setIdentity => exact keepsRecordsNext_mgmt keepsRecords_setIdentityOp
  | setMotion => exact keepsRecordsNext_mgmt fun u f => (steady_setMotionOp u f).keepsRecords
  | setPortMode => exact keepsRecordsNext_mgmt fun u f => (steady_setPortModeOp u f).keepsRecords
  | lineReset => exact keepsRecordsNext_mgmt fun u f => .refl u
  | lineResetTakesEffect => exact (steadyNext_lineResetTakesEffect s).keepsRecordsNext
  | dPortTransmitCompletion => exact (steadyNext_transmitCompletions s).1.keepsRecordsNext
  | uPortTransmitCompletion => exact (steadyNext_transmitCompletions s).2.keepsRecordsNext
  | staleExpiry n => exact (steadyNext_staleExpiry s n).keepsRecordsNext
  | pollTimeout n => exact (steadyNext_pollTimeout s n).keepsRecordsNext
  | silenceTimerExpiry => exact (steadyNext_silenceTimerExpiry s).keepsRecordsNext
  | dwellExpiry n => exact (steadyNext_dwellExpiry s n).keepsRecordsNext
  | trackStep => exact (steadyNext_internalBatches s).2.keepsRecordsNext
  | rewriteWaveAdmission => exact (steadyNext_internalBatches s).1.keepsRecordsNext
  | ownPoll => exact (steadyNext_ownPoll s).keepsRecordsNext
  | mgmtBadOperation => exact keepsRecordsNext_mgmt fun u f => .refl u

/-- A step keeps what `KeepsRecords` lists, or it is a power-on reset, which leaves the power-on state. -/
theorem step_keepsRecords {s t : State} (h : step s = .next t) :
    KeepsRecords s t ∨ s.pending.head? = some .powerOnReset ∧ ∃ rest, t = { State.reset with pending := rest } := by
  unfold step at h
  split at h
  · next c rest hp =>
    by_cases hc : c = .powerOnReset
    · subst hc
      cases h
      exact .inr ⟨by rw [hp]; rfl, rest, rfl⟩
    · have hpop : Steady s { s with pending := rest } := .of_eq rfl rfl rfl rfl
      exact .inl (.of_steady hpop rfl (keepsRecordsNext_exec hc _ t h))
  · cases h
    exact .inl (steady_tick s).keepsRecords

/-- Settles O7: every queue takes a frame or an order only while it has a place, and a full lane merges or collapses. -/
theorem queuesStayWithinCapacity : Obligations.QueuesStayWithinCapacity := by
  intro s t hs hstep
  obtain hkeep | ⟨-, rest, rfl⟩ := step_keepsRecords hstep
  · exact hkeep.capacity hs
  · exact resetMeetsEveryInvariant.1

/-- Settles O10: tags are taken from the counter alone, a WRITE of a map entry passes the checks of R41, and an identity is
set only while there is none; in a sound map the entry that covers an address or a slot is the only one. -/
theorem partTagsIdentityAndMapAreKept : Obligations.PartTagsIdentityAndMapAreKept := by
  obtain ⟨-, -, -, htag, hmap, -, -⟩ := resetMeetsEveryInvariant
  refine ⟨fun s t hs hstep => ?_, fun s t hs hstep => ?_, fun s t v hv hstep => ?_, fun s hm a h =>
    ⟨slotOfAddr_eq_some_iff hm a h, addrOfSlot_eq_some_iff hm a h⟩⟩
  · obtain hkeep | ⟨-, rest, rfl⟩ := step_keepsRecords hstep
    · exact hkeep.tag hs
    · exact htag
  · obtain hkeep | ⟨-, rest, rfl⟩ := step_keepsRecords hstep
    · exact hkeep.map hs
    · exact hmap
  · exact (step_keepsRecords hstep).imp (fun hkeep => hkeep.identity v hv) fun hreset => hreset.1

/-- Settles O14: a WRITE is refused where it would reach an armed group, no other event changes a record, and a power-on reset
leaves no group armed. -/
theorem armedGroupKeepsItsRecords : Obligations.ArmedGroupKeepsItsRecords := by
  intro s t g hstep hs ht
  obtain hkeep | ⟨-, rest, rfl⟩ := step_keepsRecords hstep
  · exact hkeep.armed g hs
  · refine absurd ?_ ((armed_iff _ g).1 ht)
    have hgroup : groupAt { State.reset with pending := rest } g = groupAt State.reset g := rfl
    rw [hgroup, groupAt_reset]
    rfl

end Sys2Proof.Machine
end


/-! # Sitting 2: frame content, reception and classification -/
section

namespace Sys2Proof.Machine

/-! ## Frame content (R23, R24) -/

@[simp] theorem highByte_word16 (hi lo : Byte) : highByte (word16 hi lo) = hi := by
  apply BitVec.eq_of_toNat_eq
  have := lo.isLt
  have := hi.isLt
  simp only [word16, highByte, BitVec.toNat_append, BitVec.extractLsb'_toNat]
  rw [← Nat.shiftLeft_add_eq_or_of_lt (by omega)]
  omega

@[simp] theorem lowByte_word16 (hi lo : Byte) : lowByte (word16 hi lo) = lo := by
  apply BitVec.eq_of_toNat_eq
  have := lo.isLt
  have := hi.isLt
  simp only [word16, lowByte, BitVec.toNat_append, BitVec.extractLsb'_toNat]
  rw [← Nat.shiftLeft_add_eq_or_of_lt (by omega)]
  omega

theorem crcShifts_eq_iterate (n : Nat) (r : BitVec 16) : crcShifts n r = crcShift^[n] r := by
  induction n generalizing r with
  | zero => rfl
  | succ n ih => exact ih _

/-- Feeding one more byte: eight shifts of the register with the byte combined in at its high half (R24). -/
theorem crc_append_singleton (bs : List Byte) (b : Byte) :
    crc (bs ++ [b]) = (List.range 8).foldl (fun r _ => crcShift r) (crc bs ^^^ word16 b 0x00#8) := by
  rw [List.foldl_const, List.length_range, ← crcShifts_eq_iterate, crc, List.foldl_append]
  rfl

theorem crcShift_eq (r : BitVec 16) :
    crcShift r = if r.getLsbD 15 = true then (r <<< 1) ^^^ 0x1021#16 else r <<< 1 := by
  rw [crcShift, BitVec.msb_eq_getLsbD_last]

/-! ## Reception (R34) -/

/-- What is received has the seven bytes of a header, as many more as its Len says, and the Check over them. -/
theorem exists_of_receive {bytes : List Byte} {f : Frame} (h : receive bytes = .ok f) :
    ∃ k d1 d0 s1 s0 q l payload c1 c0, bytes = [k, d1, d0, s1, s0, q, l] ++ payload ++ [c1, c0] ∧
      payload.length = l.toNat ∧ l.toNat ≤ 40 ∧ word16 c1 c0 = crc ([k, d1, d0, s1, s0, q, l] ++ payload) ∧
      f = { kind := k, dest := word16 d1 d0, src := word16 s1 s0, seq := q, payload := payload } := by
  unfold receive at h
  dsimp only at h
  split at h
  · cases h
  next hshort =>
  split at h
  · cases h
  next hlen =>
  split at h
  · cases h
  next hcount =>
  split at h
  · cases h
  next hcheck =>
  obtain _ | ⟨k, _ | ⟨d1, _ | ⟨d0, _ | ⟨s1, _ | ⟨s0, _ | ⟨q, _ | ⟨l, rest⟩⟩⟩⟩⟩⟩⟩ := bytes
  iterate 7 exact absurd (by simp) hshort
  simp only [List.getD_cons_succ, List.getD_cons_zero] at h hlen hcount hcheck
  have hrest : rest.length = l.toNat + 2 := by
    simp only [List.length_cons] at hcount
    omega
  have hbehind : (rest.drop l.toNat).length = 2 := by rw [List.length_drop]; omega
  obtain ⟨c1, c0, htail⟩ := List.length_eq_two.1 hbehind
  obtain ⟨payload, rfl, hpayload⟩ : ∃ payload, rest = payload ++ [c1, c0] ∧ payload.length = l.toNat :=
    ⟨rest.take l.toNat, by rw [← htail, List.take_append_drop], by rw [List.length_take]; omega⟩
  have hindex : 7 + l.toNat = payload.length + 7 := by omega
  have hlast : 8 + l.toNat = payload.length + 1 + 7 := by omega
  simp only [hindex, hlast, List.take_succ_cons, List.getD_eq_getElem?_getD] at hcheck
  refine ⟨k, d1, d0, s1, s0, q, l, payload, c1, c0, rfl, hpayload, by omega, ?_, ?_⟩
  · simpa using hcheck
  · cases h
    simp [← hpayload]

theorem frameContent_of_receive {bytes : List Byte} {f : Frame} (h : receive bytes = .ok f) :
    bytes = frameContent f ∧ f.payload.length ≤ 40 := by
  obtain ⟨k, d1, d0, s1, s0, q, l, payload, c1, c0, rfl, hpayload, hlen, hcheck, rfl⟩ := exists_of_receive h
  have hl : BitVec.ofNat 8 payload.length = l := by rw [hpayload, BitVec.ofNat_toNat, BitVec.setWidth_eq]
  have hhead : frameHead { kind := k, dest := word16 d1 d0, src := word16 s1 s0, seq := q, payload := payload } =
      [k, d1, d0, s1, s0, q, l] ++ payload := by
    simp [frameHead, frameLen, hl]
  refine ⟨?_, hpayload ▸ hlen⟩
  rw [frameContent, hhead, ← hcheck, highByte_word16, lowByte_word16]

/-- Settles O22: the content is the header, the payload and the Check by definition, and reception takes it apart again. -/
theorem frameContentRoundTrip : Obligations.FrameContentRoundTrip := by
  refine ⟨fun f _ => rfl, rfl, fun bs b => ?_, receive_frameContent, fun bytes f => frameContent_of_receive⟩
  simp only [← crcShift_eq]
  exact crc_append_singleton bs b

/-- Settles O23: the port's event is the LINE_ERROR notice of the first check that fails. -/
theorem receptionErrorRaisesLineError : Obligations.ReceptionErrorRaisesLineError := by
  intro bytes s len hlen failed
  have hreceive : (∀ d, failed = some d → receive bytes = .error d) ∧ (failed = none → ∃ f, receive bytes = .ok f) := by
    unfold receive
    simp only [failed, ← hlen]
    by_cases h1 : bytes.length < 7
    · simp [h1, detailCount]
    by_cases h2 : 40 < len
    · simp [h1, h2, detailLength]
    by_cases h3 : bytes.length ≠ 9 + len
    · simp [h1, h2, h3, detailCount]
    rw [if_neg h1, if_neg h2, if_neg h3, if_neg h1, if_neg h2, if_neg h3]
    by_cases h4 : crc (bytes.take (7 + len)) ≠ bytes.getD (7 + len) 0x00#8 ++ bytes.getD (8 + len) 0x00#8
    · rw [if_pos h4]
      refine ⟨fun d hd => ?_, nofun⟩
      cases hd
      exact if_pos h4.symm
    · rw [if_neg h4]
      exact ⟨nofun, fun _ => ⟨_, if_neg (not_not.2 (not_not.1 h4).symm)⟩⟩
  refine ⟨fun d hd => ?_, hreceive.2⟩
  have herror := hreceive.1 d hd
  refine ⟨?_, ?_⟩
  · show execUPortArrival bytes s = _
    rw [execUPortArrival, herror]
    rfl
  · show execDPortArrival bytes s = _
    rw [execDPortArrival, herror]
    rfl

/-! ## Classification (R31, R44) -/

/-- The address plan: the class of each range of addresses (R31). -/
theorem addrClass_cases (a : LineAddr) :
    (a.toNat = 0 ∧ addrClass a = .invalid) ∨
    ((1 ≤ a.toNat ∧ a.toNat ≤ 0xEFFF) ∧ addrClass a = .device) ∨
    ((0xF000 ≤ a.toNat ∧ a.toNat ≤ 0xF00F) ∧ addrClass a = .group (Fin.ofNat 16 (a.toNat - 0xF000))) ∨
    ((0xF010 ≤ a.toNat ∧ a.toNat ≤ 0xFFFD) ∧ addrClass a = .foreign) ∨
    (a.toNat = 0xFFFE ∧ addrClass a = .interlock) ∨
    (a.toNat = 0xFFFF ∧ addrClass a = .broadcast) := by
  have hlt := a.isLt
  have hzero : a = 0x0000#16 ↔ a.toNat = 0 := BitVec.toNat_inj.symm
  have hinterlock : a = interlockAddr ↔ a.toNat = 0xFFFE := BitVec.toNat_inj.symm
  unfold addrClass
  split
  · next h => exact .inl ⟨hzero.1 h, rfl⟩
  next h0 =>
  rw [hzero] at h0
  split
  · exact .inr (.inl ⟨⟨by omega, by omega⟩, rfl⟩)
  split
  · exact .inr (.inr (.inl ⟨⟨by omega, by omega⟩, rfl⟩))
  split
  · exact .inr (.inr (.inr (.inl ⟨⟨by omega, by omega⟩, rfl⟩)))
  split
  · next h => exact .inr (.inr (.inr (.inr (.inl ⟨hinterlock.1 h, rfl⟩))))
  · next h =>
    rw [hinterlock] at h
    exact .inr (.inr (.inr (.inr (.inr ⟨by omega, rfl⟩))))

theorem addrClass_eq_device_iff (a : LineAddr) : addrClass a = .device ↔ 1 ≤ a.toNat ∧ a.toNat ≤ 0xEFFF := by
  rcases addrClass_cases a with ⟨h, e⟩ | ⟨h, e⟩ | ⟨h, e⟩ | ⟨h, e⟩ | ⟨h, e⟩ | ⟨h, e⟩ <;> rw [e] <;>
    simp only [reduceCtorEq, false_iff, true_iff] <;> omega

theorem addrClass_eq_foreign_iff (a : LineAddr) : addrClass a = .foreign ↔ 0xF010 ≤ a.toNat ∧ a.toNat ≤ 0xFFFD := by
  rcases addrClass_cases a with ⟨h, e⟩ | ⟨h, e⟩ | ⟨h, e⟩ | ⟨h, e⟩ | ⟨h, e⟩ | ⟨h, e⟩ <;> rw [e] <;>
    simp only [reduceCtorEq, false_iff, true_iff] <;> omega

theorem addrClass_eq_interlock_iff (a : LineAddr) : addrClass a = .interlock ↔ a = 0xFFFE#16 := by
  have hinterlock : a = 0xFFFE#16 ↔ a.toNat = 0xFFFE := BitVec.toNat_inj.symm
  rw [hinterlock]
  rcases addrClass_cases a with ⟨h, e⟩ | ⟨h, e⟩ | ⟨h, e⟩ | ⟨h, e⟩ | ⟨h, e⟩ | ⟨h, e⟩ <;> rw [e] <;>
    simp only [reduceCtorEq, false_iff, true_iff] <;> omega

theorem toNat_groupAddr (g : GroupNo) : (0xF000#16 + BitVec.ofNat 16 g.val).toNat = 0xF000 + g.val := by
  have := g.isLt
  rw [BitVec.toNat_add, BitVec.toNat_ofNat, BitVec.toNat_ofNat]
  omega

/-- The address of a group is that group's (R31). -/
theorem addrClass_eq_group_iff_groupAddr (a : LineAddr) (g : GroupNo) :
    addrClass a = .group g ↔ a = 0xF000#16 + BitVec.ofNat 16 g.val := by
  have := g.isLt
  rw [addrClass_eq_group_iff, ← BitVec.toNat_inj, toNat_groupAddr, Fin.ext_iff]
  simp only [Fin.ofNat]
  omega

theorem routeOf_move (a : LineAddr) :
    routeOf 0x21#8 a = if 1 ≤ a.toNat ∧ a.toNat ≤ 0xEFFF then .move else .refused .badDest := by
  rw [if_congr (addrClass_eq_device_iff a).symm rfl rfl, routeOf]
  cases addrClass a <;> rfl

theorem routeOf_poll (a : LineAddr) :
    routeOf 0x25#8 a = if 1 ≤ a.toNat ∧ a.toNat ≤ 0xEFFF then .poll else .refused .badDest := by
  rw [if_congr (addrClass_eq_device_iff a).symm rfl rfl, routeOf]
  cases addrClass a <;> rfl

theorem routeOf_beat (a : LineAddr) : routeOf 0x27#8 a = if a = 0xFFFE#16 then .beat else .refused .badDest := by
  rw [if_congr (addrClass_eq_interlock_iff a).symm rfl rfl, routeOf]
  cases addrClass a <;> rfl

theorem routeOf_mgmt (a : LineAddr) : routeOf 0x2E#8 a = if a = 0xFFFE#16 then .mgmt else .refused .badDest := by
  rw [if_congr (addrClass_eq_interlock_iff a).symm rfl rfl, routeOf]
  cases addrClass a <;> rfl

/-- The kinds of a group's commands are routed to the group that the Dest addresses (R44). -/
theorem routeOf_group {k : Byte} {c : GroupNo → FrameClass} (a : LineAddr)
    (hk : k = 0x22#8 ∧ c = .gmove ∨ k = 0x26#8 ∧ c = .go) :
    (∀ g : GroupNo, a = 0xF000#16 + BitVec.ofNat 16 g.val → routeOf k a = c g) ∧
    ((∀ g : GroupNo, a ≠ 0xF000#16 + BitVec.ofNat 16 g.val) → routeOf k a = .refused .badDest) := by
  simp only [ne_eq, ← addrClass_eq_group_iff_groupAddr, routeOf]
  refine ⟨fun g hg => ?_, fun hno => ?_⟩
  · rw [hg]
    obtain ⟨rfl, rfl⟩ | ⟨rfl, rfl⟩ := hk <;> rfl
  · cases h : addrClass a with
    | group g => exact absurd h (hno g)
    | device => obtain ⟨rfl, -⟩ | ⟨rfl, -⟩ := hk <;> rfl
    | interlock => obtain ⟨rfl, -⟩ | ⟨rfl, -⟩ := hk <;> rfl
    | invalid => rfl
    | foreign => rfl
    | broadcast => rfl

/-- A frame of a kind that is neither a stop nor governed passes through (R44 step 3). -/
theorem classOf_of_ungoverned {f : Frame} (hstop : stopKindOf f = none)
    (hk : addrClass f.dest = .foreign ∨ isDownstreamKind f.kind = false) : classOf f = .passThrough := by
  rw [classOf, hstop]
  dsimp only
  split
  · rfl
  · next hdest => rw [hk.resolve_left hdest]; rfl

/-- A governed frame whose Dest is not foreign is refused for its Len or routed by its Dest (R44 steps 4 to 6). -/
theorem classOf_of_governed {f : Frame} (hstop : stopKindOf f = none) (hdest : addrClass f.dest ≠ .foreign)
    (hk : isDownstreamKind f.kind = true) :
    classOf f = if lenAllowed f.kind f.payload.length = true then routeOf f.kind f.dest else .refused .malformed := by
  rw [classOf, hstop]
  dsimp only
  rw [if_neg hdest, hk, frameLen]
  cases lenAllowed f.kind f.payload.length <;> rfl

/-- Settles O25: the table of R44, kind by kind over the address ranges of R31. -/
theorem classifierRoutesByKindAndDest : Obligations.ClassifierRoutesByKindAndDest := by
  intro f
  refine ⟨fun hk => ?_, fun hk => ?_, fun hhold hhalt => ?_⟩
  · simp [classOf, stopKindOf, hk, kindHold]
  · simp [classOf, stopKindOf, hk, kindHold, kindHalt]
  have hstop : stopKindOf f = none := Option.isNone_iff_eq_none.1 ((stopKindOf_isNone f).2 ⟨hhold, hhalt⟩)
  rw [← addrClass_eq_foreign_iff]
  refine ⟨fun hd => classOf_of_ungoverned hstop (.inl hd), fun hk => classOf_of_ungoverned hstop (.inr ?_), fun hd => ?_⟩
  · simp only [List.mem_cons, List.not_mem_nil, or_false, not_or] at hk
    obtain ⟨hmove, hgmove, hpoll, hgo, hbeat, hmgmt⟩ := hk
    simp [isDownstreamKind, kindMove, kindGmove, kindHold, kindHalt, kindPoll, kindGo, kindBeat, kindMgmt, *]
  have hclass : ∀ k, f.kind = k → isDownstreamKind k = true → classOf f =
      if lenAllowed k f.payload.length = true then routeOf k f.dest else .refused .malformed := fun k hk hgov => by
    rw [classOf_of_governed hstop hd (by rw [hk]; exact hgov), hk]
  have hmove := hclass 0x21#8
  have hgmove := hclass 0x22#8
  have hpoll := hclass 0x25#8
  have hgo := hclass 0x26#8
  have hbeat := hclass 0x27#8
  have hmgmt := hclass 0x2E#8
  have hfive : ∀ k, k = 0x21#8 ∨ k = 0x22#8 → lenAllowed k f.payload.length = (f.payload.length == 5) := by
    rintro k (rfl | rfl) <;> rfl
  have hempty : ∀ k, k = 0x25#8 ∨ k = 0x26#8 → lenAllowed k f.payload.length = (f.payload.length == 0) := by
    rintro k (rfl | rfl) <;> rfl
  have hrange : lenAllowed 0x2E#8 f.payload.length =
      (decide (9 ≤ f.payload.length) && decide (f.payload.length ≤ 40)) := rfl
  refine ⟨?_, ?_, ?_, ?_, ?_, ?_, ?_, ?_, ?_⟩
  · rintro (hk | hk) hl
    · rw [hmove hk rfl, hfive _ (.inl rfl), if_neg (by simpa using hl)]
    · rw [hgmove hk rfl, hfive _ (.inr rfl), if_neg (by simpa using hl)]
  · rintro (hk | hk) hl
    · rw [hpoll hk rfl, hempty _ (.inl rfl), if_neg (by simpa using hl)]
    · rw [hgo hk rfl, hempty _ (.inr rfl), if_neg (by simpa using hl)]
  · intro hk hl
    rw [hmgmt hk rfl, hrange, if_neg (by simp only [Bool.and_eq_true, decide_eq_true_eq]; omega)]
  · intro hk hl
    rw [hmove hk rfl, hfive _ (.inl rfl), if_pos (by simpa using hl), routeOf_move]
  · intro hk hl
    rw [hpoll hk rfl, hempty _ (.inl rfl), if_pos (by simpa using hl), routeOf_poll]
  · intro hk
    rw [hbeat hk rfl, if_pos (show lenAllowed 0x27#8 f.payload.length = true from rfl), routeOf_beat]
  · intro hk h9 h40
    rw [hmgmt hk rfl, hrange, if_pos (by simp [h9, h40]), routeOf_mgmt]
  · intro hk hl
    rw [hgmove hk rfl, hfive _ (.inr rfl), if_pos (by simpa using hl)]
    exact routeOf_group f.dest (.inl ⟨rfl, rfl⟩)
  · intro hk hl
    rw [hgo hk rfl, hempty _ (.inr rfl), if_pos (by simpa using hl)]
    exact routeOf_group f.dest (.inr ⟨rfl, rfl⟩)

/-! ## Console stops (R46, R64, R66) -/

/-- Address 0 is no device address (R31). -/
theorem slotOfAddr_of_zero (s : State) {a : LineAddr} (h : a.toNat = 0) : slotOfAddr s a = none := by
  rw [slotOfAddr, if_neg]
  simp [isDevice, h]

/-- The scope of a console stop by the ranges of its Dest (R64). -/
theorem scopeOfDest_eq (s : State) (a : LineAddr) :
    scopeOfDest s a =
      if a = 0xFFFF#16 ∨ a = 0xFFFE#16 then .all
      else if 0xF000 ≤ a.toNat ∧ a.toNat ≤ 0xF00F then .group (Fin.ofNat 16 (a.toNat - 0xF000))
      else match slotOfAddr s a with
        | some h => .hoist h
        | none => .raw a := by
  have hall : a = 0xFFFF#16 ∨ a = 0xFFFE#16 ↔ a.toNat = 0xFFFF ∨ a.toNat = 0xFFFE :=
    or_congr BitVec.toNat_inj.symm BitVec.toNat_inj.symm
  rw [if_congr hall rfl rfl, scopeOfDest]
  rcases addrClass_cases a with ⟨h, e⟩ | ⟨h, e⟩ | ⟨h, e⟩ | ⟨h, e⟩ | ⟨h, e⟩ | ⟨h, e⟩ <;> rw [e]
  · rw [if_neg (by omega), if_neg (by omega), slotOfAddr_of_zero s h]
  · rw [if_neg (by omega), if_neg (by omega)] <;> rfl
  · rw [if_neg (by omega), if_pos h]
  · rw [if_neg (by omega), if_neg (by omega), slotOfAddr_of_group s (by omega)]
  · rw [if_pos (.inr h)]
  · rw [if_pos (.inl h)]

/-- A console stop names the hoist of a mapped device address alone (R66). -/
theorem hoist_consoleStop (s : State) (f : Frame) (k : StopKind) :
    (consoleStop s f k).hoist = if 0xF000 ≤ f.dest.toNat then none else slotOfAddr s f.dest := by
  unfold consoleStop scopeOfDest
  dsimp only
  rcases addrClass_cases f.dest with ⟨h, e⟩ | ⟨h, e⟩ | ⟨h, e⟩ | ⟨h, e⟩ | ⟨h, e⟩ | ⟨h, e⟩ <;> rw [e]
  · rw [if_neg (by omega), slotOfAddr_of_zero s h]
  · rw [if_neg (by omega)]
    cases slotOfAddr s f.dest <;> rfl
  all_goals rw [if_pos (by omega)]

theorem consoleStop_eq (s : State) (f : Frame) (k : StopKind) :
    consoleStop s f k =
      { kind := k, scope := scopeOfDest s f.dest, origin := .console f.src f.seq, relatedSeq := f.seq
        cause := if k = .halt then some .consoleHalt else none
        hoist := if 0xF000 ≤ f.dest.toNat then none else slotOfAddr s f.dest
        hits := none
        capture := if k = .halt then some ((frameContent f).take 32) else none } := by
  rw [← hoist_consoleStop s f k]
  rfl

/-- Settles O27: no filter drops a stop frame, the Filter Bank leaves the map alone, and the Classifier issues the order. -/
theorem consoleStopIsAdmitted : Obligations.ConsoleStopIsAdmitted := by
  intro s f hlen hkind reloaded filtered scope
  have hleaves : LeavesReadings reloaded filtered := leavesReadings_filterBank _ f .down
  have hslot : slotOfAddr filtered f.dest = slotOfAddr s f.dest := hleaves.slotOfAddr f.dest
  have hscope : scopeOfDest filtered f.dest = scope := by
    rw [scopeOfDest_eq, hslot] <;> rfl
  have hpassed : filterDrops s f .down = false := Bool.eq_false_iff.2 fun hdrop => by
    obtain ⟨-, hhold, hhalt⟩ := (filterDrops_iff s f .down).1 hdrop
    exact hkind.elim hhold hhalt
  have hstop : ∀ k, classOf f = .stop k →
      exec (.uPortArrival (frameContent f)) s = .next (finish (issueStop filtered (consoleStop filtered f k))) :=
    fun k hk => by
      rw [exec_uPortArrival s f hlen, takeDownstream, hpassed]
      show Host.Outcome.next (finish (classify filtered f)) = _
      rw [classify, hk]
  refine ⟨fun hno => filterBank_of_noHit (hitSet_of_noFilter hno f .down), ?_⟩
  rcases hkind with hk | hk
  · rw [hstop .hold (by simp [classOf, stopKindOf, hk, kindHold]), consoleStop_eq, hscope, hslot]
    simp [hk]
  · rw [hstop .halt (by simp [classOf, stopKindOf, hk, kindHold, kindHalt]), consoleStop_eq, hscope, hslot]
    simp [hk]

end Sys2Proof.Machine
end


/-! # Sitting 2: the Stop Lane after an admission -/
section

namespace Sys2Proof.Machine

/-! ## Coverage (R130) -/

theorem scopeCovers_iff (s : State) (x y : Scope) :
    scopeCovers s x y = true ↔ x = .all ∨ x = y ∨ ∃ g h, x = .group g ∧ y = .hoist h ∧ h ∈ members s g := by
  cases x <;> cases y <;> simp [scopeCovers]

theorem scopeCovers_self (s : State) (x : Scope) : scopeCovers s x x = true := (scopeCovers_iff s x x).2 (.inr (.inl rfl))

theorem atLeastAsStrong_iff (k j : StopKind) : atLeastAsStrong k j = true ↔ k = .halt ∨ j = .hold := by
  cases k <;> cases j <;> simp [atLeastAsStrong]

theorem atLeastAsStrong_self (k : StopKind) : atLeastAsStrong k k = true := by cases k <;> rfl

/-- Coverage reads membership alone (R7, R130). -/
theorem scopeCovers_congr {s t : State} (h : ∀ k, cfgAt t k = cfgAt s k) (x y : Scope) :
    scopeCovers t x y = scopeCovers s x y := by
  cases x <;> cases y <;> simp [scopeCovers, isMember_congr h]

theorem absorbs_iff (s : State) (o : StopIssue) (x : StopOrder) :
    absorbs s o x = true ↔ scopeCovers s x.scope o.scope = true ∧ atLeastAsStrong x.kind o.kind = true :=
  Bool.and_eq_true_iff

/-! ## The steps of R131 -/

/-- The merge changes the Pending List of an order that names slots, and nothing else (R132). -/
theorem mergedOrder_eq (s : State) (o : StopIssue) (x : StopOrder) :
    mergedOrder s o x = { x with
      pendingList := if namesSlots x.scope = true then mergeSlots x.pendingList (scopeSlots s o.scope)
        else x.pendingList } := by
  obtain ⟨kind, scope, pendingList, origin, relatedSeq, cause⟩ := x
  cases scope <;> rfl

/-- The first order that absorbs is merged into, and every other order stands (R131 step 2). -/
theorem mergeLane_append {s : State} {o : StopIssue} {before behind : List StopOrder} {x : StopOrder}
    (hx : absorbs s o x = true) (hbefore : ∀ y ∈ before, absorbs s o y = false) :
    mergeLane s o (before ++ x :: behind) = before ++ mergedOrder s o x :: behind := by
  induction before with
  | nil => simp [mergeLane, hx]
  | cons y ys ih =>
    rw [List.cons_append, mergeLane, hbefore y (by simp), ih fun z hz => hbefore z (by simp [hz])]
    rfl

/-- The lane of an admission without a collapse is that of steps 1 to 4 (R131). -/
theorem lane_admitStop_of_some {s : State} {o : StopIssue} {lane : List StopOrder} (h : laneAfter s o = some lane) :
    (admitStop s o).lane = lane := by
  simp [admitStop, h]

theorem laneAfter_of_haltAll {s : State} {o : StopIssue} (hk : o.kind = .halt) (hs : o.scope = .all) :
    laneAfter s o = some [laneOrder s o] := if_pos ⟨hk, hs⟩

theorem laneAfter_of_absorbed {s : State} {o : StopIssue} (hno : ¬(o.kind = .halt ∧ o.scope = .all))
    (h : ∃ x ∈ s.lane, absorbs s o x = true) : laneAfter s o = some (mergeLane s o s.lane) := by
  rw [laneAfter, if_neg hno, if_pos (List.any_eq_true.2 h)]

/-- An order that nothing absorbs enters in place of those it replaces, or behind the others while there is room (R131
steps 3 and 4). -/
theorem laneAfter_of_entering {s : State} {o : StopIssue} (hno : ¬(o.kind = .halt ∧ o.scope = .all))
    (habsorbs : ∀ x ∈ s.lane, absorbs s o x = false)
    (hroom : (∃ x ∈ s.lane, replaces s o x = true) ∨ s.lane.length < 4) :
    laneAfter s o = some (enterLane (laneOrder s o) (s.lane.filter fun x => !replaces s o x)) := by
  have hany : ¬ s.lane.any (absorbs s o) = true := by simpa using habsorbs
  rw [laneAfter, if_neg hno, if_neg hany]
  by_cases hr : ∃ x ∈ s.lane, replaces s o x = true
  · rw [if_pos (List.any_eq_true.2 hr)]
  · have hkeep : (s.lane.filter fun x => !replaces s o x) = s.lane :=
      List.filter_eq_self.2 fun x hx => by
        rw [Bool.not_eq_true']
        exact Bool.eq_false_iff.2 fun e => hr ⟨x, hx, e⟩
    rw [if_neg (mt List.any_eq_true.1 hr), if_pos (hroom.resolve_left hr), hkeep]

/-- An order of the lane covers the admitted one with a kind at least as strong, and will send to every slot it names. -/
def CoversAdmitted (s : State) (o : StopIssue) (x : StopOrder) : Prop :=
  scopeCovers s x.scope o.scope = true ∧ atLeastAsStrong x.kind o.kind = true ∧
    (namesSlots x.scope = true → ∀ h ∈ scopeSlots s o.scope, h ∈ x.pendingList)

/-- The order that enters covers itself with every slot of its scope. -/
theorem coversAdmitted_laneOrder (s : State) (o : StopIssue) : CoversAdmitted s o (laneOrder s o) :=
  ⟨scopeCovers_self s o.scope, atLeastAsStrong_self o.kind, fun _ _ h => h⟩

theorem coversAdmitted_mergedOrder {s : State} {o : StopIssue} {x : StopOrder} (hx : absorbs s o x = true) :
    CoversAdmitted s o (mergedOrder s o x) := by
  obtain ⟨hscope, hkind⟩ := (absorbs_iff s o x).1 hx
  rw [mergedOrder_eq]
  refine ⟨hscope, hkind, fun hn h hh => ?_⟩
  rw [if_pos hn]
  exact (mem_mergeSlots _ _ h).2 (.inr hh)

theorem exists_coversAdmitted_mergeLane {s : State} {o : StopIssue} {lane : List StopOrder}
    (h : ∃ x ∈ lane, absorbs s o x = true) : ∃ x ∈ mergeLane s o lane, CoversAdmitted s o x := by
  induction lane with
  | nil => simp at h
  | cons y ys ih =>
    rw [mergeLane]
    split
    · next hy => exact ⟨_, List.mem_cons_self, coversAdmitted_mergedOrder hy⟩
    · next hy =>
      obtain ⟨x, hx, hax⟩ := h
      obtain rfl | hx := List.mem_cons.1 hx
      · exact absurd hax hy
      · obtain ⟨z, hz, hc⟩ := ih ⟨x, hx, hax⟩
        exact ⟨z, List.mem_cons_of_mem _ hz, hc⟩

/-- Whatever the step of R131, the collapse included, some order of the lane covers the admitted one. -/
theorem exists_coversAdmitted (s : State) (o : StopIssue) : ∃ x ∈ (admitStop s o).lane, CoversAdmitted s o x := by
  cases hl : laneAfter s o with
  | none =>
    rw [admitStop_eq_collapse hl, lane_collapse]
    exact ⟨_, List.mem_singleton_self _, rfl, rfl, nofun⟩
  | some lane =>
    rw [lane_admitStop_of_some hl]
    have henter := fun l => (mem_enterLane (laneOrder s o) (laneOrder s o) l).2 (.inl rfl)
    obtain ⟨-, -, rfl⟩ | ⟨habsorbed, rfl⟩ | ⟨-, rfl⟩ | ⟨-, rfl⟩ := laneAfter_cases s o lane hl
    · exact ⟨_, List.mem_singleton_self _, coversAdmitted_laneOrder s o⟩
    · exact exists_coversAdmitted_mergeLane habsorbed
    · exact ⟨_, henter _, coversAdmitted_laneOrder s o⟩
    · exact ⟨_, henter _, coversAdmitted_laneOrder s o⟩

/-- Settles O15: each step of R131 by its own equation of the lane, and an order that covers the admitted one in each. -/
theorem laneTakesAdmittedOrder : Obligations.LaneTakesAdmittedOrder := by
  refine ⟨scopeCovers_iff, atLeastAsStrong_iff, fun s o => ?_, fun s o => ?_⟩
  · intro slots entering absorbing isReplaced kept
    have hslots : slots = scopeSlots s o.scope := by
      simp only [slots]
      cases o.scope <;> rfl
    have hentering : entering = laneOrder s o := by
      simp only [entering, hslots]
      rfl
    have habsorbing : ∀ x, ¬absorbing x → absorbs s o x = false := fun x hx =>
      Bool.eq_false_iff.2 fun e => hx ((absorbs_iff s o x).1 e)
    refine ⟨fun hk hs => ?_, fun hno => ⟨fun before x behind hl hx hbefore => ?_, fun hnone hroom => ?_⟩⟩
    · rw [hentering]
      exact lane_admitStop_of_some (laneAfter_of_haltAll hk hs)
    · have hax := (absorbs_iff s o x).2 hx
      rw [lane_admitStop_of_some (laneAfter_of_absorbed hno ⟨x, by rw [hl]; simp, hax⟩), hl,
        mergeLane_append hax fun y hy => habsorbing y (hbefore y hy), mergedOrder_eq, hslots]
      simp [mergeSlots, allSlots]
    · rw [lane_admitStop_of_some (laneAfter_of_entering hno (fun x hx => habsorbing x (hnone x hx)) hroom), hentering]
      have hkind : (laneOrder s o).kind = o.kind := rfl
      cases hk : o.kind <;> simp only [enterLane, hkind, hk] <;> rfl
  · obtain ⟨x, hx, hscope, hkind, hsends⟩ := exists_coversAdmitted s o
    exact ⟨x, hx, by rw [scopeCovers_congr (cfgAt_admitStop s o)]; exact hscope, hkind, hsends⟩

end Sys2Proof.Machine
end


/-! # Sitting 2: the Intake head -/
section

namespace Sys2Proof.Machine

/-! ## A head that waits (R48) -/

section

variable {s : State} {f : Frame} {epoch : BitVec 16} {rest : List IntakeEntry}

/-- A head that its command does not take changes nothing (R48). -/
theorem takeHead_of_none (hhead : AtHead s f epoch rest) {act : IntakeEntry → State → Option State}
    (h : act { frame := f, epoch := epoch } { s with intake := rest } = none) : takeHead s act = .next s := by
  simp [takeHead, hhead, h]

/-- A head that its command takes makes way for the state its command answers (R48). -/
theorem takeHead_of_some (hhead : AtHead s f epoch rest) {act : IntakeEntry → State → Option State} {u : State}
    (h : act { frame := f, epoch := epoch } { s with intake := rest } = some u) : takeHead s act = .next (finish u) := by
  simp [takeHead, hhead, h]

/-- The room for a head does not depend on what stands behind it (R48, R140). -/
theorem headRoom_behind (s : State) (rest : List IntakeEntry) (n : Nat) :
    headRoom { s with intake := rest } n = true ↔ RoomFor s n := headRoom_iff _ n

theorem exec_move_waits (hhead : AtHead s f epoch rest) (h : classOf f = .move → ¬RoomFor s 1) :
    exec .move s = .next s :=
  takeHead_of_none hhead (if_neg fun ⟨hclass, hroom⟩ => h hclass ((headRoom_behind s rest 1).1 hroom))

theorem exec_passThroughFrame_waits (hhead : AtHead s f epoch rest) (h : classOf f = .passThrough → ¬RoomFor s 1) :
    exec .passThroughFrame s = .next s :=
  takeHead_of_none hhead (if_neg fun ⟨hclass, hroom⟩ => h hclass ((headRoom_behind s rest 1).1 hroom))

theorem exec_poll_waits (hhead : AtHead s f epoch rest) (h : classOf f ≠ .poll) : exec .poll s = .next s :=
  takeHead_of_none hhead (if_neg h)

theorem exec_gmove_waits (hhead : AtHead s f epoch rest)
    (h : ∀ g, classOf f = .gmove g → ¬RoomFor s (members s g).length) : exec .gmove s = .next s := by
  refine takeHead_of_none hhead ?_
  unfold gmoveTaken
  split
  · next g hclass => exact if_neg fun hroom => h g hclass ((headRoom_behind s rest _).1 hroom)
  all_goals rfl

theorem exec_go_waits (hhead : AtHead s f epoch rest)
    (h : ∀ g, classOf f = .go g → ¬RoomFor s (members s g).length) : exec .go s = .next s := by
  refine takeHead_of_none hhead ?_
  unfold goTaken
  split
  · next g hclass => exact if_neg fun hroom => h g hclass ((headRoom_behind s rest _).1 hroom)
  all_goals rfl

/-- A management command is one consumer of MGMT frames, by its own Operation (R182, R193). -/
theorem exec_eq_mgmtTaken {c : Instr} (h : operationOf c ≠ none) (s : State) :
    ∃ accepts act, exec c s = takeHead s (mgmtTaken accepts act) := by
  cases c with
  | read | write | readLive | arm | park | recover | clearCause | readCause | setIdentity | setMotion | setPortMode
  | lineReset | mgmtBadOperation => exact ⟨_, _, rfl⟩
  | powerOnReset | uPortArrival _ | dPortArrival _ | move | gmove | go | poll | passThroughFrame | lineResetTakesEffect
  | dPortTransmitCompletion | uPortTransmitCompletion | staleExpiry _ | pollTimeout _ | silenceTimerExpiry
  | dwellExpiry _ | trackStep | rewriteWaveAdmission | ownPoll => exact absurd rfl h

/-- No management command takes a head that is no MGMT frame, or any head while the Reply Slot is full (R48, R182). -/
theorem exec_mgmt_waits (hhead : AtHead s f epoch rest) (h : classOf f = .mgmt → s.replySlot ≠ none) {c : Instr}
    (hc : operationOf c ≠ none) : exec c s = .next s := by
  obtain ⟨accepts, act, hexec⟩ := exec_eq_mgmtTaken hc s
  rw [hexec]
  exact takeHead_of_none hhead (if_neg fun ⟨hclass, hempty, _⟩ => h hclass (Option.isNone_iff_eq_none.1 hempty))

end

/-- No room for one entry: a pending internal batch, a full queue or a claim of a due own POLL (R48, R140). -/
theorem not_roomFor_one {s : State} (h : s.internalBatches ≠ [] ∨ 32 ≤ s.motionQueue.length ∨ dueClaims s = true) :
    ¬RoomFor s 1 := by
  rintro ⟨hbatches, hclaims, hfree⟩
  rcases h with h | h | h
  · exact h hbatches
  · omega
  · simp [h] at hclaims

/-- No room for the batch of a group (R48, R140). -/
theorem not_roomFor_members {s : State} {g : GroupNo}
    (h : s.internalBatches ≠ [] ∨ 32 < s.motionQueue.length + (members s g).length ∨
      (members s g ≠ [] ∧ dueClaims s = true)) : ¬RoomFor s (members s g).length := by
  rintro ⟨hbatches, hclaims, hfree⟩
  rcases h with h | h | ⟨hmembers, h⟩
  · exact h hbatches
  · omega
  · simp [h, hmembers] at hclaims

/-- Settles O47: each command takes a head of its own kind alone, and only when it has the room that R48 asks for. -/
theorem headsWaitForRoom : Obligations.HeadsWaitForRoom := by
  intro s f epoch rest hhead
  refine ⟨fun hclass hroom => ?_, fun h => ?_, fun g hclass h => ?_, fun hfull c hc => ?_, fun hclass => ?_,
    fun hclass => ?_, fun hclass => ?_, fun hclass => ?_, fun hclass => ?_, fun hclass c hc => ?_⟩
  · exact takeHead_of_some hhead (if_pos ⟨hclass, (headRoom_behind s rest 1).2 hroom⟩)
  · exact ⟨exec_move_waits hhead fun _ => not_roomFor_one h, exec_passThroughFrame_waits hhead fun _ => not_roomFor_one h⟩
  · have hnone : ∀ k, k = g → ¬RoomFor s (members s k).length := fun _ hk => hk ▸ not_roomFor_members h
    refine ⟨exec_gmove_waits hhead fun k hk => hnone k ?_, exec_go_waits hhead fun k hk => hnone k ?_⟩ <;>
      simpa [hk] using hclass
  · exact exec_mgmt_waits hhead (fun _ => hfull) hc
  · exact exec_move_waits hhead fun h => absurd h hclass
  · exact exec_poll_waits hhead hclass
  · exact exec_passThroughFrame_waits hhead fun h => absurd h hclass
  · exact exec_gmove_waits hhead fun g h => absurd h (hclass g)
  · exact exec_go_waits hhead fun g h => absurd h (hclass g)
  · exact exec_mgmt_waits hhead (fun h => absurd h hclass) hc

end Sys2Proof.Machine
end


/-! # Sitting 2: GO starts a track -/
section

namespace Sys2Proof.Machine

/-! ## The checks that pass (R51, R87, R118, R120) -/

section

variable {s : State} {g : GroupNo} {epoch : BitVec 16}

theorem lineRefusal_of_open (h : LineOpen s epoch) : lineRefusal s epoch = none := by
  obtain ⟨henable, hmode, hepoch⟩ := h
  simp [lineRefusal, henable, hmode, hepoch]

theorem groupStateRefusal_of_ready (h : (groupAt s g).live.state = .ready) : groupStateRefusal s g = none := by
  simp [groupStateRefusal, h]

/-- A movable member with a line address and no overload passes check 9 (R87). -/
theorem memberUnfit_of_movable {h : Slot} {a : LineAddr} (haddr : addrOfSlot s h = some a)
    (hmove : isMovable (liveAt s h).state = true) (hload : (liveAt s h).loadCondition ≠ .over) :
    memberUnfit s h = false := by
  cases hst : (liveAt s h).state <;> simp_all [memberUnfit, isMovable]

theorem memberRefusal_of_fit {addr : Slot → LineAddr} {lo hi : Int} (haddr : AddressedBy s g addr)
    (hfit : MembersFit s g) (hspan : SpanOf s g lo hi) (hle : lo ≤ hi) : memberRefusal s g = none := by
  have hmembers : (members s g).any (memberUnfit s) = false := List.any_eq_false.2 fun h hm => by
    rw [memberUnfit_of_movable (haddr h hm) (hfit h hm).1 (hfit h hm).2]
    exact Bool.false_ne_true
  rw [memberRefusal, hmembers, geometryLo_eq hspan, geometryHi_eq hspan, if_neg Bool.false_ne_true, if_neg (by omega)]

theorem chainUsable_of_last {start last : TrackIx} (hstart : (groupAt s g).cfg.trackStart = some start)
    (hle : start ≤ last) (hlast : (s.trackPool.get last).last = true) : chainUsable s g = true := by
  simp only [chainUsable, hstart, List.any_eq_true]
  exact ⟨last, List.mem_finRange _, by simpa [hlast] using hle⟩

theorem goRefusal_eq_none {start last : TrackIx} (hline : LineOpen s epoch)
    (hready : (groupAt s g).live.state = .ready) (hstart : (groupAt s g).cfg.trackStart = some start)
    (hle : start ≤ last) (hlast : (s.trackPool.get last).last = true) : goRefusal s epoch g = none := by
  simp [goRefusal, lineRefusal_of_open hline, hready, chainUsable_of_last hstart hle hlast]

/-- The granted base is the base asked for, held between Lo and Hi (R88). -/
theorem groupBase_eq {lo hi : Int} (hspan : SpanOf s g lo hi) (b : Nat) : groupBase s g b = min (max (b : Int) lo) hi := by
  rw [groupBase, geometryLo_eq hspan, geometryHi_eq hspan]

/-- The granted speed of a group that is not halved is Vgrp (R89). -/
theorem groupSpeed_eq {load : Slot → Nat} {vq v : Nat} (hslow : SlowestOf s g load vq v)
    (hfull : isHalved (groupAt s g).live = false) : groupSpeed s g vq = v := by
  obtain ⟨hload, hmem, hle⟩ := hslow
  have hmap : (members s g).map (deratedSpeedOf s) =
      (members s g).map fun h => deratedSpeed (effectiveLimits s h) (load h) :=
    List.map_congr_left fun h hm => deratedSpeedOf_eq (hload h hm)
  have hmin : (vq :: (members s g).map (deratedSpeedOf s)).min? = some v := by
    refine List.min?_eq_some_iff.2 ?_
    rw [hmap]
    simpa using And.intro hmem hle
  rw [List.min?_cons', Option.some.injEq] at hmin
  rw [groupSpeed, hfull, hmin]
  rfl

end

/-! ## The batch of the part's own (R32, R33, R91 to R93) -/

/-- The plan of a batch of the part's own that grants `gr` to group `g`. -/
def ownPlan (g : GroupNo) (gr : GroupGrant) : BatchPlan :=
  { group := g, base := gr.base, speed := gr.speed, tag := gr.tag, origin := .part }

section

variable {s : State} {g : GroupNo} {addr : Slot → LineAddr} {gr : GroupGrant}

theorem moveFrame_eq_moveTo (dest src : LineAddr) (seq : Byte) (target speed : Nat) (tag : Byte) :
    moveFrame dest src seq target speed tag = moveTo dest src seq target speed tag := by
  simp [moveFrame, moveTo, natBytes, kindMove]

theorem batchEntries_ownPlan (haddr : AddressedBy s g addr) :
    batchEntries s (ownPlan g gr) (members s g) s.seqCounter = ownBatch s g addr gr := by
  rw [batchEntries_part s (ownPlan g gr) addr rfl _ haddr]
  simp only [moveFrame_eq_moveTo]
  rfl

theorem queueBatch_ownPlan (haddr : AddressedBy s g addr) :
    queueBatch s (ownPlan g gr) =
      { s with
        motionQueue := s.motionQueue ++ ownBatch s g addr gr
        seqCounter := s.seqCounter + BitVec.ofNat 8 (members s g).length
        batchSerial := s.batchSerial + 1#8 } := by
  have hentries : batchEntries s (ownPlan g gr) (members s (ownPlan g gr).group) s.seqCounter = ownBatch s g addr gr :=
    batchEntries_ownPlan haddr
  have hseqs : batchSeqs (ownPlan g gr) (ownBatch s g addr gr) = (members s g).length := List.length_mapIdx
  simp only [queueBatch, hentries, hseqs]
  rfl

theorem hoistAt_grantMembers (s : State) (g : GroupNo) (gr : GroupGrant) (h : Slot) :
    hoistAt (grantMembers s (ownPlan g gr)) h =
      if h ∈ members s g then
        { hoistAt s h with live := { liveAt s h with
            state := .moving, arrived := false
            grant := some { target := (gr.base + (cfgAt s h).offset).toNat, speed := gr.speed, tag := gr.tag } } }
      else hoistAt s h := by
  rw [grantMembers, hoistAt_changeHoists]
  exact if_congr (mem_members s g h).symm rfl rfl

/-- A batch of the part's own is queued, and every member takes its grant (R91 to R93). -/
theorem batchGranted_admitBatch (haddr : AddressedBy s g addr) :
    BatchGranted s (admitBatch s (ownPlan g gr)) g (ownBatch s g addr gr) gr := by
  rw [admitBatch, queueBatch_ownPlan haddr]
  exact ⟨rfl, rfl, fun h => hoistAt_grantMembers _ g gr h⟩

theorem seqCounter_admitBatch (haddr : AddressedBy s g addr) :
    (admitBatch s (ownPlan g gr)).seqCounter = s.seqCounter + BitVec.ofNat 8 (members s g).length := by
  rw [admitBatch, queueBatch_ownPlan haddr]
  rfl

end

/-! ## The first step (R119 to R121) -/

/-- The state that a step which grants `gr` leaves, but for its CLAMP (R121). -/
def grantedStep (s : State) (g : GroupNo) (gr : GroupGrant) (tr : Track) : State :=
  changeGroup (admitBatch (stepTag s) (ownPlan g gr)) g fun l => { l with track := some { tr with dwell := none } }

theorem admitStep_eq (s : State) (g : GroupNo) (tr : Track) (gr : GroupGrant)
    (hbase : groupBase s g (s.trackPool.get tr.cursor).base = gr.base)
    (hspeed : groupSpeed s g (s.trackPool.get tr.cursor).speed = gr.speed) (htag : gr.tag = s.tagCounter) :
    admitStep s g tr =
      raiseClamp (grantedStep s g gr tr) (gr.base != ((s.trackPool.get tr.cursor).base : Int))
        (gr.speed != (s.trackPool.get tr.cursor).speed) 0x26#8 none (some g) tr.originSeq := by
  simp only [admitStep, hbase, hspeed, ← htag]
  rfl

/-- A grant takes a READY group into MOVING, with Clean Streak 0 (R77, R93). -/
theorem enterState_grantedState_of_ready {l : GroupLive} (h : l.state = .ready) :
    enterState (grantedState l) l = { l with state := .moving, cleanStreak := 0 } := by
  simp [enterState, grantedState, h]

@[simp] theorem grantedStep_line (s : State) (g : GroupNo) (gr : GroupGrant) (tr : Track) :
    (grantedStep s g gr tr).line = s.line := by
  simp [grantedStep, admitBatch, grantMembers, queueBatch]

@[simp] theorem grantedStep_lineClock (s : State) (g : GroupNo) (gr : GroupGrant) (tr : Track) :
    (grantedStep s g gr tr).lineClock = s.lineClock := by
  simp [grantedStep, admitBatch, grantMembers, queueBatch]

@[simp] theorem grantedStep_notices (s : State) (g : GroupNo) (gr : GroupGrant) (tr : Track) :
    (grantedStep s g gr tr).notices = s.notices := by
  simp [grantedStep, admitBatch, grantMembers, queueBatch]

/-- A step writes the Motion Queue, the hoists, the group and the three counters alone. -/
theorem grantedStep_frame (s : State) (g : GroupNo) (gr : GroupGrant) (tr : Track) :
    { grantedStep s g gr tr with motionQueue := s.motionQueue, batchSerial := s.batchSerial, hoists := s.hoists,
                                 groups := s.groups, tagCounter := s.tagCounter, seqCounter := s.seqCounter } = s := by
  simp [grantedStep, admitBatch, grantMembers, queueBatch]

/-- The step of a READY group makes it MOVING (R77, R93, R121). -/
theorem onlyGroup_grantedStep {s : State} {g : GroupNo} (hready : (groupAt s g).live.state = .ready) (gr : GroupGrant)
    (tr : Track) :
    OnlyGroup s (grantedStep s g gr tr) g { groupAt s g with live := { (groupAt s g).live with
      grant := some gr, state := .moving, cleanStreak := 0, track := some { tr with dwell := none } } } := by
  have hgroup := groupAt_admitBatch (stepTag s) (ownPlan g gr)
  refine ⟨?_, fun k hk => ?_⟩
  · have hself := (hgroup g).trans (if_pos rfl)
    rw [grantedStep, groupAt_changeGroup_self, hself,
      enterState_grantedState_of_ready (l := (groupAt (stepTag s) g).live) hready]
    rfl
  · rw [grantedStep, groupAt_changeGroup, if_neg hk, hgroup, if_neg (show k ≠ (ownPlan g gr).group from hk)]
    rfl

/-- A CLAMP is the notice that R59 asks for, from the notices as they stood (R59, R90, R121). -/
theorem notices_raiseClamp {s t : State} (hl : t.line = s.line) (hn : t.notices = s.notices)
    (hc : t.lineClock = s.lineClock) (target speed : Bool) (k : Byte) (h : Option Slot) (g : Option GroupNo) (q : Byte) :
    (raiseClamp t target speed k h g q).notices = (afterClamp s target speed k h g q).notices := by
  cases target <;> cases speed
  case false.false => exact hn
  all_goals exact notices_raiseNotice_congr hl hn hc _ _

/-- A CLAMP writes the notices alone. -/
theorem raiseClamp_eq_with (s : State) (target speed : Bool) (k : Byte) (h : Option Slot) (g : Option GroupNo)
    (q : Byte) :
    raiseClamp s target speed k h g q = { s with notices := (raiseClamp s target speed k h g q).notices } := by
  unfold raiseClamp
  split
  · exact raiseNotice_eq_with _ _ _
  · rfl

/-- A GO frame to a group is that group's (R44). -/
theorem classOf_go {f : Frame} {g : GroupNo} (hk : f.kind = 0x26#8) (hp : f.payload = [])
    (hd : f.dest = 0xF000#16 + BitVec.ofNat 16 g.val) : classOf f = .go g := by
  have hstop : stopKindOf f = none := by simp [stopKindOf, hk, kindHold, kindHalt]
  have hclass : addrClass f.dest ≠ .foreign := by
    rw [(addrClass_eq_group_iff_groupAddr f.dest g).2 hd]
    exact nofun
  rw [classOf_of_governed hstop hclass (by rw [hk]; rfl), hk, hp,
    if_pos (show lenAllowed 0x26#8 ([] : List Byte).length = true from rfl)]
  exact (routeOf_group f.dest (.inr ⟨rfl, rfl⟩)).1 g hd

/-- An accepted GO is taken, and its first step is admitted (R118, R119). -/
theorem exec_go_started {s : State} {f : Frame} {epoch : BitVec 16} {rest : List IntakeEntry} {g : GroupNo}
    {start : TrackIx} (hhead : AtHead s f epoch rest) (hclass : classOf f = .go g)
    (hroom : RoomFor s (members s g).length) (hgo : goRefusal s epoch g = none)
    (hstart : (groupAt s g).cfg.trackStart = some start) (hstep : stepRefusal s g epoch = none) :
    exec .go s = .next (finish (admitStep { s with intake := rest } g
      { cursor := start, dwell := none, originSeq := f.seq, originEpoch := epoch })) := by
  refine takeHead_of_some hhead ?_
  have hgo' : goRefusal { s with intake := rest } epoch g = none := hgo
  have hstart' : (groupAt { s with intake := rest } g).cfg.trackStart = some start := hstart
  have hstep' : stepRefusal { s with intake := rest } g epoch = none := hstep
  have hroom' : headRoom { s with intake := rest } (members { s with intake := rest } g).length = true :=
    (headRoom_behind s rest _).2 hroom
  simp only [goTaken, hclass, hroom', gateGo, hgo', hstart', startTrack, hstep', if_true]

/-- What a step that grants `gr` to a READY group changes, once the Intake head and its CLAMP are counted in
(R32, R33, R91 to R93, R121). -/
theorem changes_of_grantedStep {s : State} {g : GroupNo} {addr : Slot → LineAddr} (haddr : AddressedBy s g addr)
    (hready : (groupAt s g).live.state = .ready) (rest : List IntakeEntry) (gr : GroupGrant) (tr : Track)
    (target speed : Bool) {u : State}
    (hu : u = raiseClamp (grantedStep { s with intake := rest } g gr tr) target speed 0x26#8 none (some g) tr.originSeq) :
    u.intake = rest ∧ BatchGranted s u g (ownBatch s g addr gr) gr ∧
      OnlyGroup s u g { groupAt s g with live := { (groupAt s g).live with
        grant := some gr, state := .moving, cleanStreak := 0, track := some { tr with dwell := none } } } ∧
      u.tagCounter = (if s.tagCounter = 255#8 then 128#8 else s.tagCounter + 1#8) ∧
      u.seqCounter = s.seqCounter + BitVec.ofNat 8 (members s g).length ∧
      u.notices = (afterClamp s target speed 0x26#8 none (some g) tr.originSeq).notices ∧
      { u with intake := s.intake, motionQueue := s.motionQueue, batchSerial := s.batchSerial, hoists := s.hoists,
               groups := s.groups, tagCounter := s.tagCounter, seqCounter := s.seqCounter, notices := s.notices } = s := by
  have hgranted : BatchGranted s (grantedStep { s with intake := rest } g gr tr) g (ownBatch s g addr gr) gr :=
    batchGranted_admitBatch (s := stepTag { s with intake := rest }) haddr
  have hseq : (grantedStep { s with intake := rest } g gr tr).seqCounter =
      s.seqCounter + BitVec.ofNat 8 (members s g).length :=
    seqCounter_admitBatch (s := stepTag { s with intake := rest }) haddr
  have hgroup := onlyGroup_grantedStep (s := { s with intake := rest }) hready gr tr
  have hnotices := notices_raiseClamp (s := s) (t := grantedStep { s with intake := rest } g gr tr)
    (grantedStep_line _ g gr tr) (grantedStep_notices _ g gr tr) (grantedStep_lineClock _ g gr tr) target speed 0x26#8
    none (some g) tr.originSeq
  rw [raiseClamp_eq_with, hnotices] at hu
  subst hu
  exact ⟨rfl, hgranted, hgroup, rfl, hseq, rfl,
    congrArg (fun t : State => { t with intake := s.intake, notices := s.notices })
      (grantedStep_frame { s with intake := rest } g gr tr)⟩

/-- Settles O43: the checks of R118 and R120 pass, and the step's batch, its group and its CLAMP are each as stated. -/
theorem goStartsTrack : Obligations.GoStartsTrack := by
  intro s f epoch rest g start last addr load lo hi vgrp hhead hkind hpayload hdest hroom hline hready hstart hle hlast
    haddr hfit hspan hlohi hslow d gr
  have hgo : goRefusal s epoch g = none := goRefusal_eq_none hline hready hstart hle hlast
  have hstep : stepRefusal s g epoch = none := by
    simp [stepRefusal, lineRefusal_of_open hline, groupStateRefusal_of_ready hready,
      memberRefusal_of_fit haddr hfit hspan hlohi]
  have hbase : groupBase s g d.base = gr.base := groupBase_eq hspan d.base
  have hspeed : groupSpeed s g d.speed = gr.speed := groupSpeed_eq hslow (by simp [isHalved, hready])
  have hadmit := admitStep_eq { s with intake := rest } g
    { cursor := start, dwell := none, originSeq := f.seq, originEpoch := epoch } gr hbase hspeed rfl
  exact ⟨_, exec_go_started hhead (classOf_go hkind hpayload hdest) hroom hgo hstart hstep,
    changes_of_grantedStep haddr hready rest gr { cursor := start, dwell := none, originSeq := f.seq, originEpoch := epoch }
      (gr.base != (d.base : Int)) (gr.speed != d.speed) hadmit⟩

end Sys2Proof.Machine
end


/-! # Sitting 3: MOVE through the Command Gate -/
section

namespace Sys2Proof.Machine

/-! ## A MOVE at the Intake head is taken (R44, R48) -/

section

variable {s : State} {f : Frame} {epoch : BitVec 16} {rest : List IntakeEntry}

/-- A MOVE frame of Len 5 to a device address is the Command Gate's (R44). -/
theorem classOf_move (hk : f.kind = 0x21#8) (hp : f.payload.length = 5)
    (hd : 1 ≤ f.dest.toNat ∧ f.dest.toNat ≤ 0xEFFF) : classOf f = .move := by
  have hstop : stopKindOf f = none := by simp [stopKindOf, hk, kindHold, kindHalt]
  have hclass : addrClass f.dest ≠ .foreign := by
    rw [(addrClass_eq_device_iff f.dest).2 hd]
    exact nofun
  rw [classOf_of_governed hstop hclass (by rw [hk]; rfl), hk, hp,
    if_pos (show lenAllowed 0x21#8 5 = true from rfl), routeOf_move, if_pos hd]

/-- Only a device address maps to a slot (R31, R43). -/
theorem device_of_slotOfAddr {a : LineAddr} {h : Slot} (hs : slotOfAddr s a = some h) :
    1 ≤ a.toNat ∧ a.toNat ≤ 0xEFFF := by
  by_contra hno
  have hdevice : isDevice a = false := by simpa [isDevice] using hno
  simp [slotOfAddr, hdevice] at hs

theorem exec_move_taken (hhead : AtHead s f epoch rest) (hclass : classOf f = .move) (hroom : RoomFor s 1) :
    exec .move s = .next (finish (gateMove { s with intake := rest } { frame := f, epoch := epoch })) :=
  takeHead_of_some hhead (if_pos ⟨hclass, (headRoom_behind s rest 1).2 hroom⟩)

end

/-! ## The Gate's three answers (R50, R54) -/

section

variable {s : State} {f : Frame} {epoch : BitVec 16}

theorem gateMove_of_unmapped (hs : slotOfAddr s f.dest = none) :
    gateMove s { frame := f, epoch := epoch } = refuseFrame s f .unmapped := by
  simp [gateMove, hs]

theorem gateMove_of_refused {h : Slot} {r : Reason} (hs : slotOfAddr s f.dest = some h)
    (hr : moveRefusal s f epoch h = some r) :
    gateMove s { frame := f, epoch := epoch } = refuseFrame s f r := by
  simp [gateMove, hs, hr]

theorem gateMove_of_granted {h : Slot} (hs : slotOfAddr s f.dest = some h)
    (hr : moveRefusal s f epoch h = none) :
    gateMove s { frame := f, epoch := epoch } = grantMove s f h := by
  simp [gateMove, hs, hr]

/-- The REFUSE of a frame to a device address names the slot that it maps to and that hoist's group (R54, R7). -/
theorem refuseFrame_of_device (hd : f.dest.toNat ≤ 0xEFFF) (r : Reason) :
    refuseFrame s f r =
      refusedWith s (slotOfAddr s f.dest) ((slotOfAddr s f.dest).bind (ownGroup s)) (reasonCode r) f.kind f.seq := by
  rw [refuseFrame, destParties_eq, if_neg (by omega)]

end

/-! ## The nine checks (R50 to R53, R72) -/

/-- A check behind others answers where they pass. -/
theorem ite_some_or {p : Prop} [Decidable p] (r : Reason) (x y : Option Reason) :
    (if p then some r else x).or y = if p then some r else x.or y := by
  split <;> rfl

/-- The nine checks as one chain: the first that fails names the code of the refusal (R50, R72). -/
theorem reasonCode_moveRefusal (s : State) (f : Frame) (epoch : BitVec 16) (h : Slot) :
    (moveRefusal s f epoch h).map reasonCode =
      if s.motionEnable = false then some 13#8
      else if s.portMode ≠ .normal then some 14#8
      else if epoch ≠ s.silence.epoch then some 17#8
      else if 127 < (payloadByte f 4).toNat then some 12#8
      else if fieldAt f 2 < 8 then some 11#8
      else if (cfgAt s h).present = false then some 4#8
      else if (cfgAt s h).group.any (armed s) = true then some 7#8
      else if (liveAt s h).state = .offline then some 5#8
      else if (liveAt s h).state = .tripped then some 6#8
      else if (liveAt s h).loadCondition = .over then some 16#8
      else none := by
  simp only [moveRefusal, lineRefusal, frameRefusal, hoistRefusal, ite_some_or, Option.none_or, Bool.not_eq_true',
    apply_ite (Option.map reasonCode), Option.map_some, Option.map_none]
  rfl

/-- Settles O38: the frame is a MOVE with room, so the Gate takes it, and it answers with the first check that fails. -/
theorem moveIsRefused : Obligations.MoveIsRefused := by
  intro s f epoch rest hhead hkind hpayload hlow hhigh hroom
  have htaken := exec_move_taken hhead (classOf_move hkind hpayload ⟨hlow, hhigh⟩) hroom
  refine ⟨fun hs => ?_, fun h hs => ?_⟩
  · have hslot : slotOfAddr { s with intake := rest } f.dest = none := hs
    rw [htaken, gateMove_of_unmapped hslot, refuseFrame_of_device hhigh, hslot, hkind]
    rfl
  · intro code c hc
    have hslot : slotOfAddr { s with intake := rest } f.dest = some h := hs
    obtain ⟨r, hr, rfl⟩ := Option.map_eq_some_iff.1 ((reasonCode_moveRefusal s f epoch h).trans hc)
    rw [htaken, gateMove_of_refused hslot hr, refuseFrame_of_device hhigh, hslot, hkind]
    rfl

/-! ## The grant (R55 to R60) -/

theorem frameRefusal_eq_none {f : Frame} (htag : (payloadByte f 4).toNat ≤ 127) (hcreep : 8 ≤ fieldAt f 2) :
    frameRefusal f = none :=
  (if_neg htag.not_gt).trans (if_neg hcreep.not_gt)

/-- A hoist that is Present, movable and not overloaded, and whose group is not armed, passes its checks (R53). -/
theorem hoistRefusal_of_movable {s : State} {h : Slot} (hpresent : (cfgAt s h).present = true)
    (hparked : ∀ g, (cfgAt s h).group = some g → (groupAt s g).live.state = .parked)
    (hmove : isMovable (liveAt s h).state = true) (hload : (liveAt s h).loadCondition ≠ .over) :
    hoistRefusal s h = none := by
  have hfree : (cfgAt s h).group.any (armed s) = false := (Option.any_eq_false _ _).2 fun g hg =>
    (armed_eq_false_iff s g).2 (hparked g hg)
  have honline : (liveAt s h).state ≠ .offline := fun e => by simp [e] at hmove
  have huntripped : (liveAt s h).state ≠ .tripped := fun e => by simp [e] at hmove
  simp [hoistRefusal, hpresent, hfree, honline, huntripped, hload]

/-- The state that the grant `gr` of a MOVE leaves, but for its CLAMP (R60). -/
def grantedMove (s : State) (f : Frame) (h : Slot) (gr : Grant) : State :=
  changeLive
    { s with motionQueue := s.motionQueue ++
        [{ frame := moveTo f.dest f.src f.seq gr.target gr.speed gr.tag, role := .granted h }] }
    h (takeGrant gr)

theorem grantMove_eq {s : State} {f : Frame} {h : Slot} {gr : Grant}
    (htarget : grantedTarget (cfgAt s h) (fieldAt f 0) = gr.target) (hspeed : grantedSpeed s h (fieldAt f 2) = gr.speed)
    (htag : payloadByte f 4 = gr.tag) :
    grantMove s f h =
      raiseClamp (grantedMove s f h gr) (gr.target != fieldAt f 0) (gr.speed != fieldAt f 2) 0x21#8 (some h)
        (ownGroup s h) f.seq := by
  obtain ⟨target, speed, tag⟩ := gr
  subst htarget hspeed htag
  rw [grantedMove, ← moveFrame_eq_moveTo]
  rfl

/-- A grant changes the record of its hoist alone (R9). -/
theorem onlyHoist_grantedMove (s : State) (f : Frame) (h : Slot) (gr : Grant) :
    OnlyHoist s (grantedMove s f h gr) h
      { hoistAt s h with live := { liveAt s h with state := .moving, arrived := false, grant := some gr } } :=
  ⟨(hoistAt_changeLive _ h h _).trans (if_pos rfl), fun k hk => (hoistAt_changeLive _ h k _).trans (if_neg hk)⟩

/-- What a taken MOVE that is granted `gr` changes, its CLAMP counted in: the queues, the hoist and the notices
(R9, R59, R60). -/
theorem changes_of_grantMove {s : State} {f : Frame} {h : Slot} {gr : Grant} (rest : List IntakeEntry)
    (htarget : grantedTarget (cfgAt s h) (fieldAt f 0) = gr.target) (hspeed : grantedSpeed s h (fieldAt f 2) = gr.speed)
    (htag : payloadByte f 4 = gr.tag) {u : State} (hu : u = grantMove { s with intake := rest } f h) :
    u.intake = rest ∧
      u.motionQueue = s.motionQueue ++
        [{ frame := moveTo f.dest f.src f.seq gr.target gr.speed gr.tag, role := .granted h }] ∧
      OnlyHoist s u h
        { hoistAt s h with live := { liveAt s h with state := .moving, arrived := false, grant := some gr } } ∧
      u.notices = (afterClamp s (gr.target != fieldAt f 0) (gr.speed != fieldAt f 2) 0x21#8 (some h) (ownGroup s h)
        f.seq).notices ∧
      { u with intake := s.intake, motionQueue := s.motionQueue, hoists := s.hoists, notices := s.notices } = s := by
  have hnotices := notices_raiseClamp (s := s) (t := grantedMove { s with intake := rest } f h gr) rfl rfl rfl
    (gr.target != fieldAt f 0) (gr.speed != fieldAt f 2) 0x21#8 (some h) (ownGroup s h) f.seq
  rw [grantMove_eq (s := { s with intake := rest }) htarget hspeed htag, raiseClamp_eq_with] at hu
  subst hu
  exact ⟨rfl, rfl, onlyHoist_grantedMove { s with intake := rest } f h gr, hnotices, rfl⟩

/-- Settles O37: the nine checks pass, and the grant of the target of R55 and the speed of R58 changes what is stated. -/
theorem moveIsGranted : Obligations.MoveIsGranted := by
  intro s f epoch rest h load hhead hkind hpayload hs hroom hline htag hcreep hpresent hparked hmove hcond hload
    w tg vd vg
  have hpasses : moveRefusal s f epoch h = none := by
    rw [moveRefusal, lineRefusal_of_open hline, frameRefusal_eq_none htag hcreep,
      hoistRefusal_of_movable hpresent hparked hmove hcond]
    rfl
  have hspeed : grantedSpeed s h (fieldAt f 2) = vg := by
    rw [grantedSpeed, deratedSpeedOf_eq hload]
    rfl
  have htaken := exec_move_taken hhead (classOf_move hkind hpayload (device_of_slotOfAddr hs)) hroom
  rw [gateMove_of_granted (s := { s with intake := rest }) hs hpasses] at htaken
  exact ⟨_, htaken, changes_of_grantMove (gr := ⟨tg, vg, payloadByte f 4⟩) rest rfl hspeed rfl rfl⟩

end Sys2Proof.Machine
end


/-! # Sitting 4: what a stop order does to the groups and to their pending batches -/
section

namespace Sys2Proof.Machine

/-! ## The pending batches after an admission (R82, R134) -/

theorem armed_congr {s t : State} (h : t.groups = s.groups) (g : GroupNo) : armed t g = armed s g := by
  simp [armed, groupAt_congr h]

/-- The effects of an order cancel the batches of the armed groups it covers, and no other (R82, R125). -/
theorem mem_internalBatches_admissionEffects (s : State) (o : StopIssue) (b : InternalBatch) :
    b ∈ (admissionEffects s o).internalBatches ↔
      b ∈ s.internalBatches ∧ ¬(coversGroup o.scope (batchGroup b) = true ∧ armed s (batchGroup b) = true) := by
  have harmed : armed (stopHoists s o) (batchGroup b) = armed s (batchGroup b) := rfl
  simp only [admissionEffects, recordStop_internalBatches, purge_internalBatches, stopGroups, List.mem_filter, harmed,
    stopHoists_internalBatches, Bool.not_eq_true', Bool.and_eq_false_iff, not_and_or, Bool.not_eq_true]

theorem nodup_internalBatches_admissionEffects {s : State} (h : s.internalBatches.Nodup) (o : StopIssue) :
    (admissionEffects s o).internalBatches.Nodup := by
  simpa [admissionEffects, stopGroups] using h.filter _

/-- Without a collapse the pending batches are as the order's own effects leave them. -/
theorem internalBatches_admitStop_of_room {s : State} {o : StopIssue} (hl : laneAfter s o ≠ none) :
    (admitStop s o).internalBatches = (admissionEffects s o).internalBatches := by
  obtain ⟨lane, -, he⟩ | ⟨hn, -⟩ := admitStop_cases s o
  · rw [he, stopNotice_internalBatches]
    simp only [admissionEffects, recordStop_internalBatches, purge_internalBatches]
    rfl
  · exact absurd hn hl

theorem internalBatches_collapse (s : State) (o : StopIssue) :
    (collapse s o).internalBatches = (admissionEffects (beforeOverflow s o) (overflowStop o)).internalBatches :=
  raiseNotice_internalBatches _ _ _

theorem internalBatches_beforeOverflow (s : State) (o : StopIssue) :
    (beforeOverflow s o).internalBatches = (admissionEffects s o).internalBatches := by
  simp [beforeOverflow]

/-- An order arms and parks no group (R81). -/
theorem armed_admissionEffects (s : State) (o : StopIssue) (g : GroupNo) :
    armed (admissionEffects s o) g = armed s g := by
  have hstop : ∀ k c (l : GroupLive), (stopGroupLive k c l).state = .parked ↔ l.state = .parked := fun k c l => by
    unfold stopGroupLive
    split
    · rfl
    · cases k <;> cases hl : l.state <;> simp_all [stoppedGroup]
  rw [Bool.eq_iff_iff, armed_iff, armed_iff, groupAt_admissionEffects]
  split
  · rw [ne_eq, hstop]
  · rfl

theorem armed_beforeOverflow (s : State) (o : StopIssue) (g : GroupNo) : armed (beforeOverflow s o) g = armed s g :=
  (armed_congr (by simp [beforeOverflow]) g).trans (armed_admissionEffects s o g)

/-- A collapse cancels the batches of every armed group (R133). -/
theorem mem_internalBatches_collapse (s : State) (o : StopIssue) (b : InternalBatch) :
    b ∈ (collapse s o).internalBatches ↔ b ∈ s.internalBatches ∧ armed s (batchGroup b) = false := by
  rw [internalBatches_collapse, mem_internalBatches_admissionEffects, internalBatches_beforeOverflow,
    mem_internalBatches_admissionEffects, armed_beforeOverflow]
  simp only [overflowStop, partStop, coversGroup, true_and, Bool.not_eq_true]
  constructor
  · rintro ⟨⟨hb, -⟩, ha⟩; exact ⟨hb, ha⟩
  · rintro ⟨hb, ha⟩; exact ⟨⟨hb, by simp [ha]⟩, ha⟩

theorem nodup_internalBatches_admitStop {s : State} (h : s.internalBatches.Nodup) (o : StopIssue) :
    (admitStop s o).internalBatches.Nodup := by
  by_cases hl : laneAfter s o = none
  · rw [admitStop_eq_collapse hl, internalBatches_collapse]
    refine nodup_internalBatches_admissionEffects ?_ _
    rw [internalBatches_beforeOverflow]
    exact nodup_internalBatches_admissionEffects h o
  · rw [internalBatches_admitStop_of_room hl]
    exact nodup_internalBatches_admissionEffects h o

/-! ## The table of R81 -/

/-- The effect of a stop on a group is the table of R81. -/
theorem stoppedGroup_eq (k : StopKind) (st : GroupState) : stoppedGroup k st = groupUnderStop k st := by
  cases k <;> cases st <;> rfl

/-- Settles O19: without a collapse the admission is its own effects, on the groups and on the pending batches. -/
theorem admissionActsOnGroups : Obligations.AdmissionActsOnGroups := by
  intro s o hl
  refine ⟨fun g => ?_, fun b => ?_⟩
  · have hcause : (if o.cause.isSome = true then o.cause else (groupAt s g).live.tripCause) =
        if o.cause = none then (groupAt s g).live.tripCause else o.cause := by
      cases o.cause <;> simp
    rw [groupAt_admitStop_of_room s o hl, groupAt_admissionEffects, stopGroupLive, ← stoppedGroup_eq, ← hcause]
    by_cases hcov : coversGroup o.scope g = true <;> by_cases hpark : (groupAt s g).live.state = .parked <;>
      simp [hcov, hpark]
  · rw [internalBatches_admitStop_of_room hl]
    exact mem_internalBatches_admissionEffects s o b

end Sys2Proof.Machine
end


/-! # Sitting 4: the collapse of a full Stop Lane -/
section

namespace Sys2Proof.Machine

/-! ## The Cause Record after an admission's effects (R134, R171) -/

theorem causeNumber_injective {c d : CauseKind} (h : causeNumber c = causeNumber d) : c = d := by
  cases c <;> cases d <;> cases h <;> rfl

theorem mem_addCause (c x : CauseKind) (l : List CauseKind) : x ∈ addCause c l ↔ x = c ∨ x ∈ l := by
  induction l with
  | nil => simp [addCause]
  | cons y ys ih =>
    unfold addCause
    split
    · next e => rw [causeNumber_injective e]; simp
    · split
      · simp
      · simp only [List.mem_cons, ih]
        exact or_left_comm

/-- An order without a cause leaves the Cause Record alone (R171). -/
theorem causeRecord_admissionEffects_of_none {o : StopIssue} (hc : o.cause = none) (s : State) :
    (admissionEffects s o).causeRecord = s.causeRecord := by
  simp [admissionEffects, recordStop, hc]

/-- The first recorded stop writes the empty record (R171). -/
theorem causeRecord_admissionEffects_of_empty {s : State} {o : StopIssue} {c : CauseKind} (hc : o.cause = some c)
    (hr : s.causeRecord = none) :
    (admissionEffects s o).causeRecord = some
      { first := c, time := s.lineClock, hoist := o.hoist, group := scopeGroup o.scope,
        filterHits := if c = .filter then o.hits else none, capture := o.capture, later := [] } := by
  simp [admissionEffects, recordStop, recordCause, hc, hr]

/-- A later recorded stop joins Later Causes (R171). -/
theorem causeRecord_admissionEffects_of_latched {s : State} {o : StopIssue} {c : CauseKind} {r : CauseRecord}
    (hc : o.cause = some c) (hr : s.causeRecord = some r) :
    (admissionEffects s o).causeRecord = some { r with later := addCause c r.later } := by
  simp [admissionEffects, recordStop, recordCause, hc, hr]

/-! ## The notice of an order (R134 step 5) -/

/-- The group that a notice and the Cause Record name for a scope (R134). -/
theorem scopeGroup_eq (sc : Scope) : scopeGroup sc = (match sc with | .group g => some g | _ => none) := by
  cases sc <;> rfl

/-- What an order's notice writes depends on the notices, their levels and the Line Clock (R134 step 5, R175). -/
theorem notices_stopNotice_congr {s t : State} (hl : t.line = s.line) (hn : t.notices = s.notices)
    (hc : t.lineClock = s.lineClock) (o : StopIssue) : (stopNotice t o).notices = (stopNotice s o).notices := by
  unfold stopNotice
  split
  · exact hn
  · exact notices_raiseNotice_congr hl hn hc _ _

/-! ## The collapse (R131 step 5, R133) -/

/-- An order that nothing absorbs and that replaces nothing collapses a full lane (R131 step 5). -/
theorem laneAfter_eq_none {s : State} {o : StopIssue} (hfull : s.lane.length = 4)
    (hno : ¬(o.kind = .halt ∧ o.scope = .all)) (habsorbs : ∀ x ∈ s.lane, absorbs s o x = false)
    (hreplaces : ∀ x ∈ s.lane, replaces s o x = false) : laneAfter s o = none := by
  have h1 : ¬ s.lane.any (absorbs s o) = true := by simpa using habsorbs
  have h2 : ¬ s.lane.any (replaces s o) = true := by simpa using hreplaces
  rw [laneAfter, if_neg hno, if_neg h1, if_neg h2, if_neg (by omega)]

theorem causeRecord_collapse (s : State) (o : StopIssue) :
    (collapse s o).causeRecord = (admissionEffects (beforeOverflow s o) (overflowStop o)).causeRecord :=
  raiseNotice_causeRecord _ _ _

theorem causeRecord_beforeOverflow (s : State) (o : StopIssue) :
    (beforeOverflow s o).causeRecord = (admissionEffects s o).causeRecord := stopNotice_causeRecord _ _

/-- With an empty Cause Record and no cause of its own, a collapse writes STOP_OVERFLOW first (R133, R171). -/
theorem causeRecord_collapse_of_empty {s : State} {o : StopIssue} (hr : s.causeRecord = none) (hc : o.cause = none) :
    (collapse s o).causeRecord = some
      { first := .stopOverflow, time := s.lineClock, hoist := none, group := none, filterHits := none,
        capture := none, later := [] } := by
  have hbefore : (beforeOverflow s o).causeRecord = none := by
    rw [causeRecord_beforeOverflow, causeRecord_admissionEffects_of_none hc, hr]
  have hclock : (beforeOverflow s o).lineClock = s.lineClock := by simp [beforeOverflow]
  rw [causeRecord_collapse, causeRecord_admissionEffects_of_empty rfl hbefore, hclock]
  rfl

/-- Whatever the order has recorded, a collapse adds STOP_OVERFLOW to its Later Causes (R133, R171). -/
theorem causeRecord_collapse_of_recorded {s : State} {o : StopIssue} {r : CauseRecord}
    (hr : (admissionEffects s o).causeRecord = some r) :
    (collapse s o).causeRecord = some { r with later := addCause .stopOverflow r.later } := by
  rw [causeRecord_collapse,
    causeRecord_admissionEffects_of_latched rfl ((causeRecord_beforeOverflow s o).trans hr)]

/-- A collapse keeps the first cause and adds the order's own and STOP_OVERFLOW to the later ones (R133, R171). -/
theorem causeRecord_collapse_of_latched {s : State} (o : StopIssue) {r : CauseRecord} (hr : s.causeRecord = some r) :
    ∃ later, (collapse s o).causeRecord = some { r with later := later } ∧
      ∀ c, c ∈ later ↔ c = .stopOverflow ∨ o.cause = some c ∨ c ∈ r.later := by
  cases hc : o.cause with
  | none =>
    have hrec := causeRecord_collapse_of_recorded ((causeRecord_admissionEffects_of_none hc s).trans hr)
    exact ⟨_, hrec, fun c => by simp [mem_addCause]⟩
  | some d =>
    have hrec := causeRecord_collapse_of_recorded (causeRecord_admissionEffects_of_latched hc hr)
    exact ⟨_, hrec, fun c => by simp [mem_addCause, eq_comm (a := d)]⟩

/-- The HALT ALL of a collapse leaves no MOVE in the Motion Queue and none in NEXT (R133, R135). -/
theorem not_move_of_collapse {s : State} {o : StopIssue} {e : Entry}
    (he : e ∈ (collapse s o).motionQueue ∨ (collapse s o).nextFrame = some e) : e.frame.kind ≠ 0x21#8 := by
  have hqueue : (collapse s o).motionQueue =
      (purge (stopGroups (stopHoists (beforeOverflow s o) (overflowStop o)) (overflowStop o)) .all).motionQueue :=
    (raiseNotice_motionQueue _ _ _).trans (recordStop_motionQueue _ _)
  have hnext : (collapse s o).nextFrame =
      (purge (stopGroups (stopHoists (beforeOverflow s o) (overflowStop o)) (overflowStop o)) .all).nextFrame :=
    (raiseNotice_nextFrame _ _ _).trans (recordStop_nextFrame _ _)
  rw [hqueue, hnext] at he
  generalize stopGroups _ _ = u at he
  rcases he with he | he
  · have hkeep := (List.mem_filter.1 he).2
    simpa [purges, kindMove] using hkeep
  · simp only [purge] at he
    split at he
    · next d _ =>
      split at he
      · cases he
      · next hkeep => cases he; simpa [purges, kindMove] using hkeep
    · cases he

/-- Of notices a collapse raises the order's own and STOP_OVERFLOW, but no TRIP (R133). -/
theorem notices_collapse (s : State) (o : StopIssue) :
    (collapse s o).notices = (raiseNotice (stopNotice s o) .stopOverflow
      { hoist := none, group := none, code := 0x0D#8, detail := stopKindByte o.kind,
        relatedSeq := o.relatedSeq }).notices := by
  have hown := notices_stopNotice_congr (s := s) (t := admissionEffects s o) (by simp) (by simp) (by simp) o
  refine notices_raiseNotice_congr (t := admissionEffects (beforeOverflow s o) (overflowStop o)) ?_ ?_ ?_ _ _
  · simp [beforeOverflow]
  · rw [admissionEffects_notices]; exact hown
  · simp [beforeOverflow]

/-- Settles O20: the admission collapses the lane, and each field is as the collapse leaves it. -/
theorem fullLaneCollapses : Obligations.FullLaneCollapses := by
  intro s o hfull hno habsorbs hreplaces t group own
  have ht : t = collapse s o := by
    refine admitStop_eq_collapse (laneAfter_eq_none hfull hno (fun x hx => ?_) fun x hx => ?_)
    · rw [absorbs, Bool.and_eq_false_imp]; exact habsorbs x hx
    · rw [replaces, Bool.and_eq_false_imp]; exact hreplaces x hx
  have hgroup : group = scopeGroup o.scope := (scopeGroup_eq _).symm
  have hown : own = stopNotice s o := by
    simp only [own, stopNotice, hgroup]
    cases o.origin with
    | console src seq => rfl
    | part => cases o.kind <;> cases o.cause <;> rfl
  rw [ht, hown, hgroup]
  refine ⟨lane_collapse s o, fun h hp => ?_, fun h hp => ?_, fun g ha => ?_, fun g ha => ?_,
    fun e => not_move_of_collapse, causeRecord_collapse_of_empty, fun hr c hc => ?_,
    fun r => causeRecord_collapse_of_latched o, notices_collapse s o⟩
  · simp [← live_hoistAt, hoistAt_collapse, hp]
  · simp [hoistAt_collapse, hp]
  · simp [groupAt_collapse, (armed_iff s g).1 ha]
  · simp [groupAt_collapse, (armed_eq_false_iff s g).1 ha]
  · rw [causeRecord_collapse_of_recorded (causeRecord_admissionEffects_of_empty hc hr)]
    rfl

end Sys2Proof.Machine
end


/-! # Sitting 4: the pending internal batches and the groups

`SamePlan s t g` says that an event leaves the batches, the wave and the track of group `g` alone, and `Idle s g` that it has
none. A change keeps the pending batches sound when at each group it does one of the two or leaves the group sound. -/
section

namespace Sys2Proof.Machine

/-! ## Soundness group by group -/

/-- What the pending batches have to agree with in a group's live part (R77, R95, R117). -/
def motionPlan (l : GroupLive) : GroupState × Option Wave × Option Track := (l.state, l.wave, l.track)

/-- Group `g` has the same pending batches, wave, track and state in `t` as in `s`. -/
structure SamePlan (s t : State) (g : GroupNo) : Prop where
  plan : motionPlan (groupAt t g).live = motionPlan (groupAt s g).live
  batches : ∀ b, batchGroup b = g → (b ∈ t.internalBatches ↔ b ∈ s.internalBatches)

/-- Group `g` has no pending batch, no wave and no track. -/
structure Idle (s : State) (g : GroupNo) : Prop where
  wave : (groupAt s g).live.wave = none
  track : (groupAt s g).live.track = none
  batches : ∀ b, batchGroup b = g → b ∉ s.internalBatches

theorem SamePlan.trans {s t u : State} {g : GroupNo} (h1 : SamePlan s t g) (h2 : SamePlan t u g) : SamePlan s u g :=
  ⟨h2.plan.trans h1.plan, fun b hb => (h2.batches b hb).trans (h1.batches b hb)⟩

theorem SamePlan.of_eq {s t : State} {g : GroupNo} (hg : groupAt t g = groupAt s g)
    (hb : ∀ b, batchGroup b = g → (b ∈ t.internalBatches ↔ b ∈ s.internalBatches)) : SamePlan s t g :=
  ⟨by rw [hg], hb⟩

theorem SamePlan.sound {s t : State} {g : GroupNo} (h : SamePlan s t g) (hs : GroupBatchesSound s g) :
    GroupBatchesSound t g := by
  have hplan := h.plan
  simp only [motionPlan, Prod.mk.injEq] at hplan
  obtain ⟨hstate, hwave, htrack⟩ := hplan
  have hw := h.batches (.wave g) rfl
  have ht := h.batches (.step g) rfl
  simpa only [GroupBatchesSound, isDwelling, inProgress, hstate, hwave, htrack, hw, ht] using hs

theorem Idle.sound {s : State} {g : GroupNo} (h : Idle s g) : GroupBatchesSound s g := by
  have hw := h.batches (.wave g) rfl
  have ht := h.batches (.step g) rfl
  simp [GroupBatchesSound, h.wave, h.track, hw, ht]

/-- A group that is neither MOVING nor SLOWED is idle (R85, R95, R117). -/
theorem Idle.of_sound {s : State} {g : GroupNo} (h : GroupBatchesSound s g)
    (hstate : inProgress (groupAt s g).live = false) : Idle s g := by
  obtain ⟨hw, ht, hslow, hrun⟩ := h
  have hwave : (groupAt s g).live.wave = none := by
    by_contra e
    have := (hslow (Option.isSome_iff_ne_none.2 e)).1
    simp [inProgress, this] at hstate
  have htrack : (groupAt s g).live.track = none := by
    by_contra e
    simp [hrun (Option.isSome_iff_ne_none.2 e)] at hstate
  refine ⟨hwave, htrack, fun b hb => ?_⟩
  cases b with
  | wave k => obtain rfl : k = g := hb; simp [hw, hwave]
  | step k => obtain rfl : k = g := hb; simp [ht, htrack]

/-- A group with a due step has a running track and no wave (R95, R117). -/
theorem exists_track_of_step {s : State} {g : GroupNo} (h : GroupBatchesSound s g)
    (hm : InternalBatch.step g ∈ s.internalBatches) :
    ∃ tr, (groupAt s g).live.track = some tr ∧ tr.dwell = some 0 ∧ (groupAt s g).live.wave = none ∧
      inProgress (groupAt s g).live = true := by
  obtain ⟨-, ht, hslow, hrun⟩ := h
  obtain ⟨tr, htr, hd⟩ := Option.bind_eq_some_iff.1 (ht.1 hm)
  refine ⟨tr, htr, hd, ?_, hrun (by simp [htr])⟩
  by_contra e
  have := (hslow (Option.isSome_iff_ne_none.2 e)).2
  simp [isDwelling, htr, hd] at this

/-- A dwelling group has no wave (R95). -/
theorem wave_eq_none_of_dwelling {s : State} {g : GroupNo} (h : GroupBatchesSound s g)
    (hd : isDwelling (groupAt s g).live = true) : (groupAt s g).live.wave = none := by
  by_contra e
  have := (h.2.2.1 (Option.isSome_iff_ne_none.2 e)).2
  simp [hd] at this

/-- A change is sound when at each group it leaves the plan as it was or sound. -/
theorem BatchesSound.of_groups {s t : State} (hs : BatchesSound s) (hn : t.internalBatches.Nodup)
    (h : ∀ g, SamePlan s t g ∨ GroupBatchesSound t g) : BatchesSound t :=
  ⟨hn, fun g => (h g).elim (fun hp => hp.sound (hs.2 g)) id⟩

/-- A change of one group and its batches is sound when that group is. -/
theorem BatchesSound.of_group {s t : State} {g : GroupNo} (hs : BatchesSound s) (hn : t.internalBatches.Nodup)
    (hother : ∀ k, k ≠ g → groupAt t k = groupAt s k)
    (hmem : ∀ b, batchGroup b ≠ g → (b ∈ t.internalBatches ↔ b ∈ s.internalBatches))
    (hself : GroupBatchesSound t g) : BatchesSound t :=
  hs.of_groups hn fun k => by
    by_cases hk : k = g
    · exact .inr (hk ▸ hself)
    · exact .inl (.of_eq (hother k hk) fun b hb => hmem b (hb ▸ hk))

/-! ## Changes that no plan notices -/

/-- `t` has the pending batches of `s`, and every group's plan. -/
structure SamePlans (s t : State) : Prop where
  internalBatches : t.internalBatches = s.internalBatches
  plan : ∀ g, motionPlan (groupAt t g).live = motionPlan (groupAt s g).live

theorem SamePlans.refl (s : State) : SamePlans s s := ⟨rfl, fun _ => rfl⟩

theorem SamePlans.trans {s t u : State} (h1 : SamePlans s t) (h2 : SamePlans t u) : SamePlans s u :=
  ⟨h2.internalBatches.trans h1.internalBatches, fun g => (h2.plan g).trans (h1.plan g)⟩

theorem SamePlans.of_eq {s t : State} (hb : t.internalBatches = s.internalBatches) (hg : t.groups = s.groups) :
    SamePlans s t := ⟨hb, fun g => by rw [groupAt_congr hg]⟩

theorem SamePlans.samePlan {s t : State} (h : SamePlans s t) (g : GroupNo) : SamePlan s t g :=
  ⟨h.plan g, fun b _ => by rw [h.internalBatches]⟩

theorem SamePlans.sound {s t : State} (h : SamePlans s t) (hs : BatchesSound s) : BatchesSound t :=
  hs.of_groups (by rw [h.internalBatches]; exact hs.1) fun g => .inl (h.samePlan g)

theorem SamePlans.foldl {α : Type} {f : State → α → State} (h : ∀ s x, SamePlans s (f s x)) (l : List α) (s : State) :
    SamePlans s (l.foldl f s) := by
  induction l generalizing s with
  | nil => exact .refl s
  | cons x xs ih => exact (h s x).trans (ih _)

theorem samePlans_raiseNotice (s : State) (src : NoticeSource) (p : NoticePayload) :
    SamePlans s (raiseNotice s src p) := .of_eq (by simp) (by simp)

theorem samePlans_refuseFrame (s : State) (f : Frame) (r : Reason) : SamePlans s (refuseFrame s f r) :=
  samePlans_raiseNotice _ _ _

theorem samePlans_raiseClamp (s : State) (a b : Bool) (d : Byte) (h : Option Slot) (g : Option GroupNo) (q : Byte) :
    SamePlans s (raiseClamp s a b d h g q) := .of_eq (by simp) (by simp)

theorem samePlans_finish (s : State) : SamePlans s (finish s) :=
  have hframe := (transmits_finish s).frame
  .of_eq (congrArg State.internalBatches hframe :) (congrArg State.groups hframe :)

theorem samePlans_changeLive (s : State) (h : Slot) (f : HoistLive → HoistLive) : SamePlans s (changeLive s h f) :=
  .of_eq rfl rfl

theorem samePlans_changeGroup (s : State) (g : GroupNo) {f : GroupLive → GroupLive}
    (hf : motionPlan (f (groupAt s g).live) = motionPlan (groupAt s g).live) : SamePlans s (changeGroup s g f) := by
  refine ⟨rfl, fun k => ?_⟩
  rw [groupAt_changeGroup]
  split
  · next e => rw [e]; exact hf
  · rfl

/-! ## Stop orders (R82, R125) -/

/-- An admission leaves an armed group that it reaches idle, and every other group's plan alone. -/
theorem plan_admitStop (s : State) (o : StopIssue) (g : GroupNo) :
    if armed s g = true ∧ (laneAfter s o = none ∨ coversGroup o.scope g = true) then Idle (admitStop s o) g
    else SamePlan s (admitStop s o) g := by
  have hpark := armed_iff s g
  by_cases hl : laneAfter s o = none
  · have hgroup := groupAt_collapse s o g
    have hbatch := mem_internalBatches_collapse s o
    rw [admitStop_eq_collapse hl]
    split
    · next h =>
      rw [if_neg (hpark.1 h.1)] at hgroup
      exact ⟨by rw [hgroup], by rw [hgroup], fun b hb => by simp [hbatch, hb, h.1]⟩
    · next h =>
      have hno : armed s g = false := by simpa [hl] using h
      rw [if_pos ((armed_eq_false_iff s g).1 hno)] at hgroup
      exact .of_eq hgroup fun b hb => by simp [hbatch, hb, hno]
  · have hgroup := (groupAt_admitStop_of_room s o hl g).trans (groupAt_admissionEffects s o g)
    have hbatch := mem_internalBatches_admissionEffects s o
    rw [← internalBatches_admitStop_of_room hl] at hbatch
    split
    · next h =>
      have hcov := h.2.resolve_left hl
      rw [if_pos hcov, stopGroupLive, if_neg (hpark.1 h.1)] at hgroup
      exact ⟨by rw [hgroup], by rw [hgroup], fun b hb => by simp [hbatch, hb, h.1, hcov]⟩
    · next h =>
      refine .of_eq ?_ fun b hb => ?_
      · rw [hgroup]
        split
        · next hcov =>
          have hno : (groupAt s g).live.state = .parked := by
            by_contra e
            exact h ⟨hpark.2 e, .inr hcov⟩
          rw [stopGroupLive, if_pos hno]
        · rfl
      · rw [hbatch, hb, and_iff_left]
        exact fun e => h ⟨e.2, .inr e.1⟩

theorem samePlan_admitStop_or_sound (s : State) (o : StopIssue) (g : GroupNo) :
    SamePlan s (admitStop s o) g ∨ GroupBatchesSound (admitStop s o) g := by
  have h := plan_admitStop s o g
  split at h
  · exact .inr h.sound
  · exact .inl h

theorem batchesSound_admitStop {s : State} (hs : BatchesSound s) (o : StopIssue) : BatchesSound (admitStop s o) :=
  hs.of_groups (nodup_internalBatches_admitStop hs.1 o) (samePlan_admitStop_or_sound s o)

/-- The admission of an order on an armed group leaves the group idle (R82). -/
theorem idle_admitStop_of_covered {s : State} {o : StopIssue} {g : GroupNo} (hcov : coversGroup o.scope g = true)
    (ha : armed s g = true) : Idle (admitStop s o) g := by
  have h := plan_admitStop s o g
  rwa [if_pos ⟨ha, .inr hcov⟩] at h

end Sys2Proof.Machine
end


/-! # Sitting 4: every event keeps the pending internal batches sound -/
section

namespace Sys2Proof.Machine

variable {s : State} {g : GroupNo}

/-! ## The list of pending batches -/

theorem groupAt_changeGroup_of_ne (s : State) {g k : GroupNo} (hk : k ≠ g) (f : GroupLive → GroupLive) :
    groupAt (changeGroup s g f) k = groupAt s k := (groupAt_changeGroup s g k f).trans (if_neg hk)

theorem mem_cancelled (l : List InternalBatch) (g : GroupNo) (b : InternalBatch) :
    b ∈ l.filter (fun x => batchGroup x != g) ↔ b ∈ l ∧ batchGroup b ≠ g := by
  simp [List.mem_filter]

theorem mem_internalBatches_cancelBatch (s : State) (g : GroupNo) (b : InternalBatch) :
    b ∈ (cancelBatch s g).internalBatches ↔ b ∈ s.internalBatches ∧ batchGroup b ≠ g := mem_cancelled _ g b

theorem nodup_cancelBatch (h : s.internalBatches.Nodup) (g : GroupNo) : (cancelBatch s g).internalBatches.Nodup :=
  h.filter _

/-- A change of one group that cancels its batches is sound when the group is, without them. -/
theorem BatchesSound.cancelled {t : State} (hs : BatchesSound s)
    (hb : t.internalBatches = (cancelBatch s g).internalBatches) (hother : ∀ k, k ≠ g → groupAt t k = groupAt s k)
    (hwave : (groupAt t g).live.wave = none)
    (htrack : ∀ tr, (groupAt t g).live.track = some tr →
      tr.dwell ≠ some 0 ∧ inProgress (groupAt t g).live = true) : BatchesSound t := by
  refine hs.of_group (by rw [hb]; exact nodup_cancelBatch hs.1 g) hother
    (fun b hne => by simp [hb, mem_internalBatches_cancelBatch, hne]) ?_
  have hnone : ∀ b, batchGroup b = g → b ∉ t.internalBatches := fun b e => by
    simp [hb, mem_internalBatches_cancelBatch, e]
  have hw := hnone (.wave g) rfl
  have ht := hnone (.step g) rfl
  refine ⟨by simp [hw, hwave], ?_, by simp [hwave], fun h => ?_⟩
  · simp only [ht, false_iff, Option.bind_eq_some_iff, not_exists, not_and]
    exact fun tr e => (htrack tr e).1
  · obtain ⟨tr, e⟩ := Option.isSome_iff_exists.1 h
    exact (htrack tr e).2

/-- A change of one group that pends a batch of it is sound when the group is, with the batch. -/
theorem BatchesSound.appended {t : State} {b : InternalBatch} (hs : BatchesSound s) (hg : batchGroup b = g)
    (hno : b ∉ s.internalBatches) (hb : t.internalBatches = s.internalBatches ++ [b])
    (hother : ∀ k, k ≠ g → groupAt t k = groupAt s k) (hself : GroupBatchesSound t g) : BatchesSound t := by
  refine hs.of_group ?_ hother (fun c hc => ?_) hself
  · rw [hb, List.nodup_append_comm]
    exact List.nodup_cons.2 ⟨hno, hs.1⟩
  · have hne : c ≠ b := by rintro rfl; exact hc hg
    simp [hb, hne]

/-! ## Batches and track steps -/

/-- The admission of a batch changes no plan but its group's state (R93). -/
theorem internalBatches_admitBatch (s : State) (p : BatchPlan) :
    (admitBatch s p).internalBatches = s.internalBatches := rfl

theorem batchesSound_grantGmove (hs : BatchesSound s) (f : Frame) (hst : groupStateRefusal s g = none) :
    BatchesSound (grantGmove s f g) := by
  obtain ⟨hp, ht⟩ := state_of_groupStateRefusal hst
  unfold grantGmove
  dsimp only
  refine (samePlans_raiseClamp _ _ _ _ _ _ _).sound ?_
  generalize hplan : BatchPlan.mk _ _ _ _ _ = p
  have hg : p.group = g := by rw [← hplan]
  have hgroup := groupAt_admitBatch s p
  rw [hg] at hgroup
  refine hs.of_group (g := g) hs.1 (fun k hk => (hgroup k).trans (if_neg hk)) (fun _ _ => Iff.rfl) ?_
  obtain ⟨hw, hstep, hslow, hrun⟩ := hs.2 g
  have hmotion := batchesInMotion_grant (p := p) hp ht ⟨fun h => (hslow h).1, hrun⟩ (groupAt s g).live.track
  rw [GroupBatchesSound, (hgroup g).trans (if_pos rfl)]
  exact ⟨hw, hstep, fun h => ⟨hmotion.1 h, (hslow h).2⟩, hmotion.2⟩

/-- A step that is admitted is in flight: its group has no pending batch (R121). -/
theorem batchesSound_admitStep {u : State} (hs : BatchesSound s) (hb : u.internalBatches = (cancelBatch s g).internalBatches)
    (hgroups : u.groups = s.groups) (hwave : (groupAt s g).live.wave = none) (hst : groupStateRefusal u g = none)
    (tr : Track) : BatchesSound (admitStep u g tr) := by
  obtain ⟨hp, ht⟩ := state_of_groupStateRefusal hst
  unfold admitStep
  dsimp only
  refine (samePlans_raiseClamp _ _ _ _ _ _ _).sound ?_
  generalize hplan : BatchPlan.mk _ _ _ _ _ = p
  have hg : p.group = g := by rw [← hplan]
  have hgroup := groupAt_admitBatch (stepTag u) p
  rw [hg] at hgroup
  have hstep : ∀ k, groupAt (stepTag u) k = groupAt s k := groupAt_congr hgroups
  rw [groupAt_congr hgroups] at hp ht
  have hbatches := internalBatches_admitBatch (stepTag u) p
  refine hs.cancelled (hbatches.trans hb) (fun k hk => ?_) ?_ fun tr' htr => ?_
  · rw [groupAt_changeGroup, if_neg hk, hgroup, if_neg hk, hstep]
  · rw [groupAt_changeGroup_self, hgroup, if_pos rfl, hstep]
    exact hwave
  · rw [groupAt_changeGroup_self, hgroup, if_pos rfl, hstep] at htr ⊢
    cases htr
    refine ⟨by simp, ?_⟩
    rcases grantedState_inProgress hp ht with e | e <;> simp [inProgress, groupTakesGrant, enterState, e]

/-- A due step is taken: it is in flight, or the HOLD that it issues ends the track (R120, R124). -/
theorem batchesSound_takeDueStep (hs : BatchesSound s) (hm : InternalBatch.step g ∈ s.internalBatches) :
    BatchesSound (takeDueStep s g) := by
  obtain ⟨tr, htr, -, hwave, hrun⟩ := exists_track_of_step (hs.2 g) hm
  have harmed : armed (cancelBatch s g) g = true := by
    rw [armed_iff, groupAt_cancelBatch]
    intro e
    simp [inProgress, e] at hrun
  simp only [takeDueStep, htr]
  split
  · next hr => exact batchesSound_admitStep hs rfl rfl hwave (stepRefusal_eq_none hr).1 tr
  · next r _ =>
    refine (samePlans_raiseNotice _ _ _).sound ?_
    refine hs.of_groups (nodup_internalBatches_admitStop (nodup_cancelBatch hs.1 g) _) fun k => ?_
    by_cases hk : k = g
    · subst hk
      exact .inr (idle_admitStop_of_covered (by simp [partStop, coversGroup]) harmed).sound
    · have hsame : SamePlan s (cancelBatch s g) k := .of_eq rfl fun b hb => by
        simp [mem_internalBatches_cancelBatch, hb, hk]
      exact (samePlan_admitStop_or_sound _ _ k).imp_left hsame.trans

theorem batchesSound_takeIfOldest (hs : BatchesSound s) : BatchesSound (takeIfOldest s g) := by
  unfold takeIfOldest
  split
  · next h => exact batchesSound_takeDueStep hs (List.mem_of_mem_head? h.1)
  · exact hs

/-- The state in which the step after the cursor is due, behind the batches that wait (R123). -/
def withStepDue (s : State) (g : GroupNo) : State :=
  { changeGroup s g (fun l =>
      { l with track := l.track.map fun tr => { tr with cursor := nextCursor tr.cursor, dwell := some 0 } }) with
    internalBatches := s.internalBatches ++ [.step g] }

theorem makeStepDue_eq (s : State) (g : GroupNo) : makeStepDue s g = takeIfOldest (withStepDue s g) g := rfl

theorem groupAt_withStepDue (s : State) (g k : GroupNo) :
    groupAt (withStepDue s g) k =
      if k = g then { groupAt s g with live := { (groupAt s g).live with
        track := (groupAt s g).live.track.map fun tr => { tr with cursor := nextCursor tr.cursor, dwell := some 0 } } }
      else groupAt s k := groupAt_changeGroup s g k fun l =>
  { l with track := l.track.map fun tr => { tr with cursor := nextCursor tr.cursor, dwell := some 0 } }

/-- The next step of a track that dwells or has completed a step is due (R123). -/
theorem batchesSound_makeStepDue (hs : BatchesSound s) {tr : Track} (htr : (groupAt s g).live.track = some tr)
    (hd : tr.dwell ≠ some 0) (hwave : (groupAt s g).live.wave = none) : BatchesSound (makeStepDue s g) := by
  obtain ⟨hw, hstep, -, hrun⟩ := hs.2 g
  have hno : InternalBatch.step g ∉ s.internalBatches := by simpa [hstep, htr] using hd
  have hnowave : InternalBatch.wave g ∉ s.internalBatches := by simp [hw, hwave]
  rw [makeStepDue_eq]
  refine batchesSound_takeIfOldest (hs.appended (g := g) rfl hno rfl
    (fun k hk => (groupAt_withStepDue s g k).trans (if_neg hk)) ?_)
  rw [GroupBatchesSound, (groupAt_withStepDue s g g).trans (if_pos rfl)]
  have hmoving : inProgress (groupAt s g).live = true := hrun (by simp [htr])
  exact ⟨by simp [withStepDue, hwave, hnowave], by simp [withStepDue, htr], by simp [hwave], fun _ => hmoving⟩

/-- The state that a wave which grants `gr` leaves (R96). -/
def grantedWave (s : State) (g : GroupNo) (gr : GroupGrant) : State :=
  changeGroup (grantMembers (queueBatch (cancelBatch s g) (ownPlan g gr)) (ownPlan g gr)) g fun l =>
    { groupTakesGrant (ownPlan g gr) l with wave := none }

theorem admitWave_eq {w : Wave} (hw : (groupAt s g).live.wave = some w) :
    admitWave s g =
      grantedWave s g { base := groupGrantBase (groupAt s g).live, speed := w.speed, tag := w.tag } := by
  unfold admitWave
  rw [hw]
  rfl

theorem groupAt_grantedWave (s : State) (g k : GroupNo) (gr : GroupGrant) :
    groupAt (grantedWave s g gr) k =
      if k = g then { groupAt s g with live := { (groupAt s g).live with grant := some gr, wave := none } }
      else groupAt s k := by
  have hsame : ∀ j, groupAt (grantMembers (queueBatch (cancelBatch s g) (ownPlan g gr)) (ownPlan g gr)) j =
      groupAt s j := fun _ => rfl
  rw [grantedWave, groupAt_changeGroup, hsame, hsame]
  rfl

theorem internalBatches_grantedWave (s : State) (g : GroupNo) (gr : GroupGrant) :
    (grantedWave s g gr).internalBatches = (cancelBatch s g).internalBatches := rfl

/-- A wave is admitted: its group stays SLOWED, with no pending batch (R96). -/
theorem batchesSound_admitWave (hs : BatchesSound s) (hm : InternalBatch.wave g ∈ s.internalBatches) :
    BatchesSound (admitWave s g) := by
  obtain ⟨hw, -, hslow, -⟩ := hs.2 g
  have hpending := hw.1 hm
  obtain ⟨hslowed, hdwell⟩ := hslow hpending
  obtain ⟨w, hwave⟩ := Option.isSome_iff_exists.1 hpending
  rw [admitWave_eq hwave]
  generalize GroupGrant.mk _ _ _ = gr
  have hgroup := groupAt_grantedWave s g
  refine hs.cancelled (internalBatches_grantedWave s g gr) (fun k hk => (hgroup k gr).trans (if_neg hk)) ?_
    fun tr htr => ?_
  · rw [hgroup, if_pos rfl]
  · rw [hgroup, if_pos rfl] at htr ⊢
    refine ⟨fun e => ?_, by simp [inProgress, hslowed]⟩
    have htrack : (groupAt s g).live.track = some tr := htr
    simp [isDwelling, htrack, e] at hdwell

/-! ## Completion (R84, R122) -/

theorem batchesSound_completeGroup (hs : BatchesSound s) (ht : (groupAt s g).live.track = none) (seq : Byte) :
    BatchesSound (completeGroup s g seq) := by
  unfold completeGroup
  refine (samePlans_raiseNotice _ _ _).sound ?_
  refine hs.cancelled (g := g) rfl (fun k hk => ?_) ?_ fun tr htr => ?_
  · rw [groupAt_cancelBatch, groupAt_changeGroup_of_ne s hk]
  · rw [groupAt_cancelBatch, groupAt_changeGroup_self]
  · rw [groupAt_cancelBatch, groupAt_changeGroup_self] at htr
    simp [ht] at htr

theorem batchesSound_completeStep (hs : BatchesSound s) {tr : Track} (htr : (groupAt s g).live.track = some tr)
    (hd : tr.dwell = none) (seq : Byte) : BatchesSound (completeStep s g tr seq) := by
  have hrun := (hs.2 g).2.2.2 (by simp [htr])
  have hlive : (groupAt (cancelBatch (changeGroup s g fun l => { l with wave := none }) g) g).live =
      { (groupAt s g).live with wave := none } := by simp
  have hwave : BatchesSound (cancelBatch (changeGroup s g fun l => { l with wave := none }) g) := by
    refine hs.cancelled (g := g) rfl (fun k hk => ?_) (by rw [hlive]) fun tr' h => ?_
    · rw [groupAt_cancelBatch, groupAt_changeGroup_of_ne s hk]
    · rw [hlive] at h ⊢
      obtain rfl : tr = tr' := Option.some.inj (htr.symm.trans h)
      exact ⟨by simp [hd], hrun⟩
  have htrack : (groupAt (cancelBatch (changeGroup s g fun l => { l with wave := none }) g) g).live.track = some tr := by
    rw [hlive]; exact htr
  unfold completeStep
  generalize cancelBatch (changeGroup s g fun l => { l with wave := none }) g = u at hlive hwave htrack
  have hno : (groupAt u g).live.wave = none := by rw [hlive]
  obtain ⟨hw, hstep, -, hrun⟩ := hwave.2 g
  dsimp only
  split
  · refine (samePlans_raiseNotice _ _ _).sound
      (hwave.of_group (g := g) hwave.1 (fun k hk => ?_) (fun _ _ => Iff.rfl) (Idle.sound ?_))
    · exact groupAt_changeGroup_of_ne u hk _
    · refine ⟨by rw [groupAt_changeGroup_self]; exact hno, by rw [groupAt_changeGroup_self], fun b hb => ?_⟩
      cases b with
      | wave k => obtain rfl : k = g := hb; simp [hw, hno]
      | step k => obtain rfl : k = g := hb; simp [hstep, htrack, hd]
  · split
    · exact batchesSound_makeStepDue hwave htrack (by simp [hd]) hno
    · next hdwell =>
      refine hwave.of_group hwave.1 (fun k hk => groupAt_changeGroup_of_ne u hk _) (fun _ _ => Iff.rfl) ?_
      rw [GroupBatchesSound, groupAt_changeGroup_self]
      exact ⟨hw, by simp [hstep, htrack, hd, hdwell], by simp [hno], fun _ => hrun (by simp [htrack])⟩

theorem batchesSound_examineArrival (hs : BatchesSound s) (seq : Byte) : BatchesSound (examineArrival s g seq) := by
  unfold examineArrival
  split
  · next ht =>
    split
    · exact batchesSound_completeGroup hs ht seq
    · exact hs
  · next tr htr =>
    split
    · next h =>
      simp only [Bool.and_eq_true, Option.isNone_iff_eq_none] at h
      exact batchesSound_completeStep hs htr h.1 seq
    · exact hs

/-! ## The Group Check (R109 to R112) -/

theorem samePlans_storeEvaluation (s : State) (g : GroupNo) (v : Evaluation) : SamePlans s (storeEvaluation s g v) :=
  (samePlans_changeGroup s g (f := fun l =>
    { l with lastVerdict := v.verdict, lastSkew := some v.skew, lastDmax := v.dmax.or l.lastDmax }) rfl).trans
    (.of_eq rfl rfl)

theorem groupAt_formWave (s : State) (g k : GroupNo) :
    groupAt (formWave s g) k =
      if k = g then { groupAt s g with live := { (groupAt s g).live with
        wave := some { tag := s.tagCounter, speed := halved (groupGrantSpeed (groupAt s g).live) } } }
      else groupAt s k :=
  groupAt_changeGroup (stepTag s) g k fun l =>
    { l with wave := some { tag := s.tagCounter, speed := halved (groupGrantSpeed (groupAt s g).live) } }

/-- WARN slows a MOVING group, and pends its wave unless it dwells (R95, R111). -/
theorem batchesSound_warnEffect (hs : BatchesSound s) : BatchesSound (warnEffect s g) := by
  obtain ⟨hw, hstep, hslow, hrun⟩ := hs.2 g
  unfold warnEffect
  split
  · next hm =>
    have hwave : (groupAt s g).live.wave = none := by
      by_contra e
      have := (hslow (Option.isSome_iff_ne_none.2 e)).1
      simp [hm] at this
    dsimp only
    split
    · refine hs.of_group hs.1 (fun k hk => groupAt_changeGroup_of_ne s hk _) (fun _ _ => Iff.rfl) ?_
      rw [GroupBatchesSound, groupAt_changeGroup_self]
      exact ⟨hw, hstep, by simp [hwave], fun _ => rfl⟩
    · next hd =>
      have hno : InternalBatch.wave g ∉ s.internalBatches := by simp [hw, hwave]
      refine hs.appended (g := g) rfl hno rfl (fun k hk => ?_) ?_
      · rw [groupAt_formWave, if_neg hk, groupAt_changeGroup_of_ne s hk]
      · rw [GroupBatchesSound, groupAt_formWave, if_pos rfl, groupAt_changeGroup_self]
        exact ⟨by simp [formWave], by simp [formWave, hstep], by simpa [isDwelling] using hd, fun _ => rfl⟩
  · exact (samePlans_changeGroup s g rfl).sound hs
  all_goals exact hs

/-- The state in which the fourth CLEAN leaves a SLOWED group: back in MOVING, its wave discarded (R112). -/
def withFullSpeed (s : State) (g : GroupNo) : State :=
  { changeGroup s g (fun l => { l with state := .moving, cleanStreak := 0, wave := none }) with
    internalBatches := s.internalBatches.filter fun b => b != .wave g }

theorem groupAt_withFullSpeed (s : State) (g k : GroupNo) :
    groupAt (withFullSpeed s g) k =
      if k = g then { groupAt s g with live := { (groupAt s g).live with
        state := .moving, cleanStreak := 0, wave := none } }
      else groupAt s k :=
  groupAt_changeGroup s g k fun l => { l with state := .moving, cleanStreak := 0, wave := none }

theorem cleanEffect_eq (s : State) (g : GroupNo) :
    cleanEffect s g =
      if (groupAt s g).live.state = .slowed then
        if (groupAt s g).live.cleanStreak + 1 < 4 then
          changeGroup s g fun l => { l with cleanStreak := l.cleanStreak + 1 }
        else withFullSpeed s g
      else s := rfl

/-- The fourth CLEAN discards the wave of a SLOWED group, and leaves a due step (R112). -/
theorem batchesSound_cleanEffect (hs : BatchesSound s) : BatchesSound (cleanEffect s g) := by
  obtain ⟨-, hstep, -, -⟩ := hs.2 g
  rw [cleanEffect_eq]
  split
  · split
    · exact (samePlans_changeGroup s g rfl).sound hs
    · refine hs.of_group (g := g) (hs.1.filter _) (fun k hk => (groupAt_withFullSpeed s g k).trans (if_neg hk))
        (fun b hb => ?_) ?_
      · have : b ≠ .wave g := by rintro rfl; exact hb rfl
        simp [withFullSpeed, this]
      · rw [GroupBatchesSound, groupAt_withFullSpeed, if_pos rfl]
        exact ⟨by simp [withFullSpeed], by simp [withFullSpeed, hstep], by simp, fun _ => rfl⟩
  · exact hs

theorem batchesSound_evaluateGroup (hs : BatchesSound s) (seq : Byte) : BatchesSound (evaluateGroup s g seq) := by
  have hstored := (samePlans_storeEvaluation s g (evaluationOf s g)).sound hs
  unfold evaluateGroup verdictEffect
  split
  · exact batchesSound_admitStop hstored _
  · split
    · exact hstored
    · exact batchesSound_admitStop hstored _
  · exact batchesSound_warnEffect ((samePlans_raiseNotice _ _ _).sound hstored)
  · exact batchesSound_cleanEffect hstored
  · exact hstored

theorem batchesSound_examineRound (hs : BatchesSound s) (h : Slot) (seq : Byte) :
    BatchesSound (examineRound s h seq) := by
  unfold examineRound
  split
  · exact hs
  · split
    · exact batchesSound_evaluateGroup hs seq
    · exact hs

end Sys2Proof.Machine
end


/-! # Sitting 4: every step keeps the pending internal batches sound -/
section

namespace Sys2Proof.Machine

variable {s : State}

theorem batchesSound_foldl {α : Type} {f : State → α → State} (h : ∀ u x, BatchesSound u → BatchesSound (f u x))
    (l : List α) (hs : BatchesSound s) : BatchesSound (l.foldl f s) := by
  induction l generalizing s with
  | nil => exact hs
  | cons x xs ih => exact ih (h s x hs)

/-! ## The application of a SAMPLE -/

theorem batchesSound_issueStop (hs : BatchesSound s) (o : StopIssue) : BatchesSound (issueStop s o) :=
  batchesSound_admitStop hs _

theorem batchesSound_issueHoistStop (hs : BatchesSound s) (k : StopKind) (h : Slot) (c : CauseKind) (seq : Byte) :
    BatchesSound (issueHoistStop s k h c seq) := batchesSound_issueStop hs _

theorem batchesSound_changeLive (hs : BatchesSound s) (h : Slot) (f : HoistLive → HoistLive) :
    BatchesSound (changeLive s h f) := (samePlans_changeLive s h f).sound hs

theorem batchesSound_setHoistState (hs : BatchesSound s) (h : Slot) (st : HoistState) :
    BatchesSound (setHoistState s h st) := batchesSound_changeLive hs h _

theorem batchesSound_raiseNotice (hs : BatchesSound s) (src : NoticeSource) (p : NoticePayload) :
    BatchesSound (raiseNotice s src p) := (samePlans_raiseNotice s src p).sound hs

theorem batchesSound_arrivalRule (hs : BatchesSound s) (h : Slot) (r : Reading) :
    BatchesSound (arrivalRule s h r) := by
  have hready := batchesSound_changeLive hs h fun l => { l with arrived := true, state := .ready }
  unfold arrivalRule
  split
  · exact hs
  · split
    · exact hs
    · split
      · unfold arrive
        dsimp only
        split
        · exact batchesSound_examineArrival hready _
        · exact hready
      · unfold missArrival
        split
        · exact batchesSound_issueHoistStop hs _ _ _ _
        · exact batchesSound_raiseNotice (batchesSound_setHoistState hs h _) _ _

theorem batchesSound_uncommandedRule (hs : BatchesSound s) (h : Slot) (seq : Byte) :
    BatchesSound (uncommandedRule s h seq) := by
  unfold uncommandedRule
  split
  · exact batchesSound_issueHoistStop hs _ _ _ _
  · exact hs

theorem batchesSound_driveStateRule (hs : BatchesSound s) (h : Slot) (r : Reading) (d : DriveState) :
    BatchesSound (driveStateRule s h r d) := by
  unfold driveStateRule
  split
  any_goals exact hs
  any_goals exact batchesSound_issueHoistStop hs _ _ _ _
  any_goals exact batchesSound_uncommandedRule hs h _
  · exact batchesSound_arrivalRule hs h r
  · exact batchesSound_uncommandedRule (batchesSound_setHoistState hs h _) h _

theorem batchesSound_loadRule (hs : BatchesSound s) (h : Slot) (r : Reading) : BatchesSound (loadRule s h r) := by
  unfold loadRule
  dsimp only
  split
  · exact batchesSound_issueHoistStop (batchesSound_changeLive hs h _) _ _ _ _
  · exact batchesSound_changeLive hs h _

theorem batchesSound_applySample (hs : BatchesSound s) (h : Slot) (r : Reading) : BatchesSound (applySample s h r) := by
  have hstored : BatchesSound (storeReading s h r) := (SamePlans.of_eq rfl rfl).sound hs
  refine batchesSound_examineRound ?_ h r.seq
  unfold stateAndLoad
  split
  · exact batchesSound_loadRule (batchesSound_driveStateRule hstored h r _) h r
  · exact batchesSound_driveStateRule hstored h r _

/-! ## Filters and arrivals -/

theorem batchesSound_filterBank (hs : BatchesSound s) (f : Frame) (d : Direction) : BatchesSound (filterBank s f d) := by
  unfold filterBank filterNotice
  have hstops : BatchesSound ((hitSet s f d).foldl (filterStop f d (hitSet s f d)) s) :=
    batchesSound_foldl (fun u i hu => by
      unfold filterStop
      dsimp only
      split
      · exact hu
      · exact batchesSound_admitStop hu _) _ hs
  split
  · exact hstops
  · exact batchesSound_raiseNotice hstops _ _

theorem samePlans_offerIntake (s : State) (f : Frame) : SamePlans s (offerIntake s f) := by
  unfold offerIntake
  split
  · exact .of_eq rfl rfl
  · exact samePlans_raiseNotice _ _ _

theorem batchesSound_takeDownstream (hs : BatchesSound s) (f : Frame) : BatchesSound (takeDownstream s f) := by
  have hreload : BatchesSound (reloadSilence s f) := (SamePlans.of_eq rfl rfl).sound hs
  have hbank := batchesSound_filterBank hreload f .down
  unfold takeDownstream
  dsimp only
  split
  · exact hbank
  · unfold classify
    split
    · exact batchesSound_issueStop hbank _
    · exact (samePlans_refuseFrame _ _ _).sound hbank
    · exact hbank
    all_goals exact (samePlans_offerIntake _ _).sound hbank

theorem batchesSound_sampleMonitor (hs : BatchesSound s) (f : Frame) : BatchesSound (sampleMonitor s f) := by
  unfold sampleMonitor
  split
  · exact hs
  · split
    · exact (samePlans_refuseFrame _ _ _).sound hs
    · split
      · split
        · exact batchesSound_applySample hs _ _
        · exact hs
      · exact hs

theorem batchesSound_takeUpstream (hs : BatchesSound s) (f : Frame) : BatchesSound (takeUpstream s f) := by
  have hmonitor := batchesSound_sampleMonitor (batchesSound_filterBank hs f .up) f
  unfold takeUpstream
  dsimp only
  split
  · exact hmonitor
  · unfold offerRelay
    split
    · exact (SamePlans.of_eq rfl rfl).sound hmonitor
    · exact batchesSound_raiseNotice hmonitor _ _

/-! ## The Intake head -/

theorem samePlans_gateMove (s : State) (e : IntakeEntry) : SamePlans s (gateMove s e) := by
  have hgrant : ∀ h, SamePlans s (grantMove s e.frame h) := fun h => .of_eq (by simp [grantMove]) (by simp [grantMove])
  unfold gateMove
  split
  · exact samePlans_refuseFrame _ _ _
  · split
    · exact samePlans_refuseFrame _ _ _
    · exact hgrant _

theorem batchesSound_gateGmove (hs : BatchesSound s) (e : IntakeEntry) (g : GroupNo) :
    BatchesSound (gateGmove s e g) := by
  unfold gateGmove
  split
  · exact (samePlans_refuseFrame _ _ _).sound hs
  · next hr => exact batchesSound_grantGmove hs _ (gmoveRefusal_eq_none hr).1

theorem state_of_goRefusal {epoch : BitVec 16} {g : GroupNo} (h : goRefusal s epoch g = none) :
    (groupAt s g).live.state = .ready := by
  simp only [goRefusal, Option.or_eq_none_iff] at h
  by_contra e
  simp [e] at h

/-- A GO goes to a READY group, which is idle (R118). -/
theorem batchesSound_gateGo (hs : BatchesSound s) (e : IntakeEntry) (g : GroupNo) : BatchesSound (gateGo s e g) := by
  unfold gateGo
  split
  · exact (samePlans_refuseFrame _ _ _).sound hs
  · next hgo _ =>
    have hready := state_of_goRefusal hgo
    have hidle := Idle.of_sound (hs.2 g) (by simp [inProgress, hready])
    unfold startTrack
    dsimp only
    split
    · next hr =>
      refine batchesSound_admitStep hs ?_ rfl hidle.wave (stepRefusal_eq_none hr).1 _
      refine (List.filter_eq_self.2 fun b hb => ?_).symm
      simpa using fun h => hidle.batches b h hb
    · exact batchesSound_raiseNotice hs _ _
  · exact (samePlans_refuseFrame _ _ _).sound hs

theorem samePlans_markPolled (s : State) (f : Frame) : SamePlans s (markPolled s f) := by
  unfold markPolled
  split
  · split
    · exact samePlans_changeLive s _ _
    · exact .refl s
  · exact .refl s

theorem samePlans_placements (s : State) (f : Frame) : SamePlans s (promotePoll s f) ∧ SamePlans s (queuePoll s f) :=
  have hpromote : SamePlans s { s with pollPromote := s.pollPromote ++ [pollEntry s f] } := .of_eq rfl rfl
  have hqueue : SamePlans s { s with motionQueue := s.motionQueue ++ [pollEntry s f] } := .of_eq rfl rfl
  ⟨hpromote.trans (samePlans_markPolled _ f), hqueue.trans (samePlans_markPolled _ f)⟩

theorem samePlans_placeOwnPoll {t : State} {a : LineAddr} (h : placeOwnPoll s a = some t) : SamePlans s t := by
  have hseq : SamePlans s (stepSeq s 1) := .of_eq rfl rfl
  unfold placeOwnPoll at h
  dsimp only at h
  split at h
  · cases h; exact hseq.trans (samePlans_placements _ _).1
  · split at h
    · cases h; exact hseq.trans (samePlans_placements _ _).2
    · cases h

/-! ## Expiries -/

theorem batchesSound_staleExpire (hs : BatchesSound s) (h : Slot) : BatchesSound (staleExpire s h) := by
  have hoffline := batchesSound_setHoistState hs h .offline
  unfold staleExpire staleStop
  split
  · exact hs
  · refine batchesSound_raiseNotice ?_ _ _
    split
    · exact hs
    · exact hs
    · exact batchesSound_issueHoistStop hs _ _ _ _
    all_goals
      dsimp only
      split
      · exact batchesSound_issueHoistStop hoffline _ _ _ _
      · exact hoffline

theorem samePlans_endPollTimer (s : State) (h : Slot) : SamePlans s (endPollTimer s h) := .of_eq rfl rfl

theorem batchesSound_silenceExpire (hs : BatchesSound s) : BatchesSound (silenceExpire s) := by
  have htimer : ∀ v, BatchesSound { s with silence := v } := fun _ => (SamePlans.of_eq rfl rfl).sound hs
  exact batchesSound_raiseNotice (batchesSound_admitStop (htimer _) _) _ _

/-! ## WRITE (R186) -/

theorem samePlans_commitHoist (s : State) (h : Slot) (c : HoistConfig) : SamePlans s (commitHoist s h c) := by
  refine .of_eq ?_ (groups_commitHoist s h c)
  unfold commitHoist
  dsimp only
  split <;> rfl

theorem samePlans_commitGroup (s : State) (g : GroupNo) (c : GroupConfig) : SamePlans s (commitGroup s g c) := by
  have hput : SamePlans s (putGroup s g { groupAt s g with cfg := c }) := ⟨rfl, fun k => by
    rw [groupAt_putGroup]
    split
    · next e => rw [e]
    · rfl⟩
  unfold commitGroup
  dsimp only
  split
  · exact hput
  · exact hput.trans (.of_eq rfl rfl)

theorem batchesSound_commitLine (hs : BatchesSound s) (c : LineConfig) (levels : Bool) :
    BatchesSound (commitLine s c levels) := by
  have htimers : BatchesSound (afterTimers s c) := by
    have hline : BatchesSound { s with line := c } := (SamePlans.of_eq rfl rfl).sound hs
    unfold afterTimers endLateTimers
    split
    · exact hline
    · exact (SamePlans.foldl samePlans_endPollTimer _ _).sound hline
  have hages : BatchesSound (afterAges s c) := batchesSound_foldl (fun _ h hu => batchesSound_staleExpire hu h) _ htimers
  have hlimits : BatchesSound (afterLimits s c) := by
    unfold afterLimits expireLateSilence
    split
    · exact batchesSound_silenceExpire hages
    · exact hages
  rw [commitLine_eq]
  split
  · exact (SamePlans.of_eq rfl rfl).sound hlimits
  · exact hlimits

theorem batchesSound_writeRecord (hs : BatchesSound s) {f : Frame} {present : List (List Byte)}
    {validate : List (List Byte) → Option (Nat × Reason)} {protection : List (List Byte) → Option Reason}
    {commit : List (List Byte) → State} (h : ∀ raw, BatchesSound (commit raw)) :
    BatchesSound (writeRecord s f present validate protection commit).state := by
  obtain e | ⟨raw, -, e⟩ := writeRecord_state s f present validate protection commit
  · rw [e]; exact hs
  · rw [e]; exact h raw

theorem batchesSound_writeOp (hs : BatchesSound s) (f : Frame) : BatchesSound (writeOp s f).state := by
  unfold writeOp
  split
  · exact hs
  · exact hs
  · exact batchesSound_writeRecord hs fun _ => (samePlans_commitHoist _ _ _).sound hs
  · exact batchesSound_writeRecord hs fun _ => (samePlans_commitGroup _ _ _).sound hs
  · exact batchesSound_writeRecord hs fun _ => (SamePlans.of_eq rfl rfl).sound hs
  · exact batchesSound_writeRecord hs fun _ => (SamePlans.of_eq rfl rfl).sound hs
  · exact batchesSound_writeRecord hs fun _ => (SamePlans.of_eq rfl rfl).sound hs
  · exact batchesSound_writeRecord hs fun _ => batchesSound_commitLine hs _ _

/-! ## The other operations -/

/-- A change that pends and cancels no batch is sound where it keeps each group's plan, or leaves an idle group idle. -/
theorem BatchesSound.of_standing {t : State} (hs : BatchesSound s) (hb : t.internalBatches = s.internalBatches)
    (h : ∀ g, motionPlan (groupAt t g).live = motionPlan (groupAt s g).live ∨
      inProgress (groupAt s g).live = false ∧
        (Idle s g → (groupAt t g).live.wave = none ∧ (groupAt t g).live.track = none)) : BatchesSound t :=
  hs.of_groups (by rw [hb]; exact hs.1) fun g => by
    rcases h g with hplan | ⟨hstand, hidle⟩
    · exact .inl ⟨hplan, fun b _ => by rw [hb]⟩
    · have hs' := Idle.of_sound (hs.2 g) hstand
      obtain ⟨hwave, htrack⟩ := hidle hs'
      exact .inr (Idle.sound ⟨hwave, htrack, fun b e => by rw [hb]; exact hs'.batches b e⟩)

/-- A change of one group that is neither MOVING nor SLOWED. -/
theorem BatchesSound.changeStanding {g : GroupNo} {f : GroupLive → GroupLive} (hs : BatchesSound s)
    (hstand : inProgress (groupAt s g).live = false)
    (hf : Idle s g → (f (groupAt s g).live).wave = none ∧ (f (groupAt s g).live).track = none) :
    BatchesSound (changeGroup s g f) :=
  hs.of_standing rfl fun k => by
    by_cases hk : k = g
    · subst hk
      rw [groupAt_changeGroup_self]
      exact .inr ⟨hstand, hf⟩
    · exact .inl (by rw [groupAt_changeGroup_of_ne s hk])

theorem batchesSound_armOp (hs : BatchesSound s) (f : Frame) : BatchesSound (armOp s f).state := by
  unfold armOp
  split
  · exact hs
  · next g _ =>
    split
    · exact hs
    · next hr =>
      have hpark : (groupAt s g).live.state = .parked := by
        by_contra e
        rw [armRefusal, if_pos ((armed_iff s g).2 e)] at hr
        cases hr
      have harm : BatchesSound (changeGroup s g fun _ =>
          { GroupLive.reset with state := .ready, lastSkew := some (skewOf s g) }) :=
        hs.changeStanding (by simp [inProgress, hpark]) fun _ => ⟨rfl, rfl⟩
      exact (SamePlans.of_eq rfl rfl).sound harm

theorem batchesSound_parkOp (hs : BatchesSound s) (f : Frame) : BatchesSound (parkOp s f).state := by
  unfold parkOp
  split
  · exact hs
  · next g _ =>
    split
    · exact hs
    · next hr =>
      have hstand : inProgress (groupAt s g).live = false := by
        have hst : (groupAt s g).live.state = .ready ∨ (groupAt s g).live.state = .holding := by
          by_contra e
          simp [parkRefusal, e] at hr
        rcases hst with e | e <;> simp [inProgress, e]
      exact hs.changeStanding hstand fun _ => ⟨rfl, rfl⟩

/-- A recovered group was TRIPPED, and so idle (R83, R191). -/
theorem batchesSound_recoverSet (hs : BatchesSound s) (p : Slot → Bool) {q : GroupNo → Bool}
    (hq : ∀ g, q g = true → groupTripped s g = true) : BatchesSound (clearOnRecover (recoverSet s p q)) := by
  have hset : BatchesSound (recoverSet s p q) := by
    refine hs.of_standing rfl fun g => ?_
    have hgroup : groupAt (recoverSet s p q) g =
        if q g then { groupAt s g with live := recoverGroupLive (groupAt s g).live } else groupAt s g :=
      groupAt_changeGroups _ _ g
    rw [hgroup]
    split
    · next h =>
      have htripped : (groupAt s g).live.state = .tripped := by simpa [groupTripped] using hq g h
      exact .inr ⟨by simp [inProgress, htripped], fun hidle => ⟨hidle.wave, hidle.track⟩⟩
    · exact .inl rfl
  unfold clearOnRecover
  split
  · exact (SamePlans.of_eq rfl rfl).sound hset
  · exact hset

theorem batchesSound_recoverOp (hs : BatchesSound s) (f : Frame) : BatchesSound (recoverOp s f).state := by
  have hoist : ∀ h, BatchesSound (recoverHoistOp s h).state := fun h => by
    unfold recoverHoistOp
    split
    · exact hs
    · split
      · exact hs
      · exact batchesSound_recoverSet hs _ (by simp)
  have group : ∀ g, BatchesSound (recoverGroupOp s g).state := fun g => by
    unfold recoverGroupOp
    split
    · exact hs
    · next ht =>
      split
      · exact hs
      · refine batchesSound_recoverSet hs _ fun k hk => ?_
        rw [beq_iff_eq] at hk
        simpa [hk] using ht
  have all : BatchesSound (recoverAllOp s).state := by
    unfold recoverAllOp
    split
    · exact hs
    · exact batchesSound_recoverSet hs _ fun _ h => h
  unfold recoverOp
  split
  · exact all
  · split
    · exact hoist _
    · exact hs
  · split
    · exact group _
    · exact hs
  all_goals exact hs

theorem mem_internalBatches_abortTracks (s : State) (b : InternalBatch) :
    b ∈ (abortTracks s).internalBatches ↔ b ∈ s.internalBatches ∧ ∃ g, b = .wave g := by
  cases b <;> simp [abortTracks]

theorem groupAt_abortTracks (s : State) (g : GroupNo) :
    groupAt (abortTracks s) g = { groupAt s g with live := { (groupAt s g).live with track := none } } :=
  groupAt_changeGroups s (fun _ r => { r with live := { r.live with track := none } }) g

/-- The end of motion aborts every track with its due step, and leaves the waves (R69, R125). -/
theorem batchesSound_abortTracks (hs : BatchesSound s) : BatchesSound (abortTracks s) := by
  refine ⟨hs.1.filter _, fun g => ?_⟩
  obtain ⟨hw, -, hslow, -⟩ := hs.2 g
  rw [GroupBatchesSound, groupAt_abortTracks, mem_internalBatches_abortTracks, mem_internalBatches_abortTracks]
  exact ⟨by simp [hw], by simp, fun h => ⟨(hslow h).1, rfl⟩, by simp⟩

theorem batchesSound_setMotionOp (hs : BatchesSound s) (f : Frame) : BatchesSound (setMotionOp s f).state := by
  have hswitch : ∀ v, BatchesSound { s with motionEnable := v } := fun _ => (SamePlans.of_eq rfl rfl).sound hs
  unfold setMotionOp
  split
  · show BatchesSound (if s.motionEnable then motionOff s f.seq else s)
    split
    · unfold motionOff
      refine batchesSound_abortTracks ?_
      split
      · exact batchesSound_admitStop (hswitch false) _
      · exact hswitch false
    · exact hs
  · split
    · split
      · exact hs
      · exact hswitch true
    · exact hs

theorem samePlans_discardFrame (s : State) (e : Entry) : SamePlans s (discardFrame s e) :=
  have hframe := (transmits_discardFrame s e).frame
  .of_eq (congrArg State.internalBatches hframe :) (congrArg State.groups hframe :)

theorem samePlans_setPortModeOp (s : State) (f : Frame) : SamePlans s (setPortModeOp s f).state := by
  have hmode : ∀ (m : PortMode) (n : Option Entry), SamePlans s { s with portMode := m, nextFrame := n } :=
    fun _ _ => .of_eq rfl rfl
  unfold setPortModeOp
  split
  · exact .refl s
  · split
    · exact .refl s
    · split
      · exact .refl s
      · next m _ _ _ =>
        show SamePlans s (changeMode s m)
        unfold changeMode
        dsimp only
        split
        · split
          · exact (hmode m none).trans (samePlans_discardFrame _ _)
          · exact hmode m s.nextFrame
        · exact hmode m s.nextFrame

theorem samePlans_setIdentityOp (s : State) (f : Frame) : SamePlans s (setIdentityOp s f).state := by
  unfold setIdentityOp
  split
  · exact .refl s
  · split
    · exact .refl s
    · exact .of_eq rfl rfl

/-! ## Resets -/

theorem batchesSound_resetLine (s : State) (seq : Byte) : BatchesSound (resetLine s seq) := by
  have hempty : BatchesSound (emptyForReset s) :=
    ⟨List.nodup_nil, fun g => Idle.sound
      ⟨by simp [GroupLive.reset], by simp [GroupLive.reset], fun _ _ => List.not_mem_nil⟩⟩
  exact batchesSound_admitStop hempty _

/-! ## Commands -/

/-- The next state of an outcome, when it has one, has sound pending batches. -/
def BatchesSoundNext (x : Host.Outcome State Fault Refusal) : Prop := ∀ t, x = .next t → BatchesSound t

theorem batchesSoundNext_same (hs : BatchesSound s) : BatchesSoundNext (.next s) := fun _ e => by cases e; exact hs

theorem batchesSoundNext_finish (hs : BatchesSound s) : BatchesSoundNext (.next (finish s)) :=
  batchesSoundNext_same ((samePlans_finish s).sound hs)

theorem batchesSoundNext_fault (f : Fault) : BatchesSoundNext (.fault f) := fun _ e => by cases e

theorem BatchesSoundNext.nextOr {x : Host.Outcome State Fault Refusal} (hs : BatchesSound s) (h : BatchesSoundNext x) :
    BatchesSound (nextOr s x) := by
  cases x with
  | next t => exact h t rfl
  | fault _ => exact hs
  | refused _ => exact hs

theorem batchesSoundNext_takeHead (hs : BatchesSound s) {act : IntakeEntry → State → Option State}
    (h : ∀ e u v, BatchesSound u → act e u = some v → BatchesSound v) : BatchesSoundNext (takeHead s act) := by
  obtain ⟨e, rest, u, -, ha, he⟩ | ⟨-, he⟩ := takeHead_cases s act
  · have htake : BatchesSound { s with intake := rest } := (SamePlans.of_eq rfl rfl).sound hs
    rw [he]
    exact batchesSoundNext_finish (h e _ u htake ha)
  · rw [he]
    exact batchesSoundNext_same hs

theorem batchesSoundNext_mgmt (hs : BatchesSound s) {accepts : Byte → Bool} {act : State → Frame → MgmtResult}
    (h : ∀ u f, BatchesSound u → BatchesSound (act u f).state) :
    BatchesSoundNext (takeHead s (mgmtTaken accepts act)) := by
  refine batchesSoundNext_takeHead hs fun e u v hu hv => ?_
  have hreply : ∀ (f : Frame) (r : MgmtResult), SamePlans r.state (placeReply f r) := fun _ _ => .of_eq rfl rfl
  unfold mgmtTaken answer at hv
  split at hv
  · cases hv
    split
    · exact (hreply _ (refuses u _)).sound hu
    · exact (hreply _ _).sound (h u e.frame hu)
  · cases hv

theorem batchesSoundNext_arrivals (hs : BatchesSound s) (content : List Byte) :
    BatchesSoundNext (execUPortArrival content s) ∧ BatchesSoundNext (execDPortArrival content s) := by
  refine ⟨?_, ?_⟩
  · unfold execUPortArrival
    split
    · exact batchesSoundNext_finish (batchesSound_raiseNotice hs _ _)
    · exact batchesSoundNext_finish (batchesSound_takeDownstream hs _)
  · unfold execDPortArrival
    split
    · exact batchesSoundNext_finish (batchesSound_raiseNotice hs _ _)
    · exact batchesSoundNext_finish (batchesSound_takeUpstream hs _)

theorem batchesSoundNext_move (hs : BatchesSound s) : BatchesSoundNext (execMove s) :=
  batchesSoundNext_takeHead hs fun e u v hu h => by
    unfold moveTaken at h
    split at h <;> cases h
    exact (samePlans_gateMove _ _).sound hu

theorem batchesSoundNext_gmove (hs : BatchesSound s) : BatchesSoundNext (execGmove s) :=
  batchesSoundNext_takeHead hs fun e u v hu h => by
    unfold gmoveTaken at h
    split at h
    · split at h <;> cases h
      exact batchesSound_gateGmove hu _ _
    all_goals cases h

theorem batchesSoundNext_go (hs : BatchesSound s) : BatchesSoundNext (execGo s) :=
  batchesSoundNext_takeHead hs fun e u v hu h => by
    unfold goTaken at h
    split at h
    · split at h <;> cases h
      exact batchesSound_gateGo hu _ _
    all_goals cases h

theorem batchesSoundNext_poll (hs : BatchesSound s) : BatchesSoundNext (execPoll s) :=
  batchesSoundNext_takeHead hs fun e u v hu h => by
    unfold pollTaken at h
    repeat' split at h
    all_goals try cases h
    · exact (samePlans_placements _ _).1.sound hu
    · exact (samePlans_placements _ _).2.sound hu

theorem batchesSoundNext_passThroughFrame (hs : BatchesSound s) : BatchesSoundNext (execPassThroughFrame s) :=
  batchesSoundNext_takeHead hs fun e u v hu h => by
    unfold passThroughTaken at h
    split at h <;> cases h
    exact (SamePlans.of_eq rfl rfl).sound hu

theorem batchesSoundNext_ownPoll (hs : BatchesSound s) : BatchesSoundNext (execOwnPoll s) := by
  unfold execOwnPoll
  split
  · next t ht =>
    obtain ⟨h, -, hh⟩ := List.exists_of_findSome?_eq_some ht
    split at hh
    · obtain ⟨a, -, ha⟩ := Option.bind_eq_some_iff.1 hh
      exact batchesSoundNext_finish ((samePlans_placeOwnPoll ha).sound hs)
    · cases hh
  · exact batchesSoundNext_same hs

/-- The oldest pending batch is taken, as a wave or as a step (R96, R120). -/
theorem batchesSoundNext_internalBatches (hs : BatchesSound s) :
    BatchesSoundNext (execRewriteWaveAdmission s) ∧ BatchesSoundNext (execTrackStep s) := by
  refine ⟨?_, ?_⟩
  · unfold execRewriteWaveAdmission
    split
    · next hb =>
      split
      · exact batchesSoundNext_finish (batchesSound_admitWave hs (by simp [hb]))
      · exact batchesSoundNext_same hs
    all_goals exact batchesSoundNext_same hs
  · unfold execTrackStep
    split
    · next hb =>
      split
      · exact batchesSoundNext_finish (batchesSound_takeDueStep hs (by simp [hb]))
      · exact batchesSoundNext_same hs
    all_goals exact batchesSoundNext_same hs

theorem batchesSoundNext_transmitCompletions (hs : BatchesSound s) :
    BatchesSoundNext (execDPortTransmitCompletion s) ∧ BatchesSoundNext (execUPortTransmitCompletion s) := by
  refine ⟨?_, ?_⟩
  · unfold execDPortTransmitCompletion
    split
    · exact batchesSoundNext_finish ((SamePlans.of_eq rfl rfl).sound hs)
    · exact batchesSoundNext_same hs
  · unfold execUPortTransmitCompletion
    split
    · exact batchesSoundNext_finish ((SamePlans.of_eq rfl rfl).sound hs)
    · exact batchesSoundNext_same hs

theorem batchesSoundNext_lineResetTakesEffect (hs : BatchesSound s) : BatchesSoundNext (execLineResetTakesEffect s) := by
  unfold execLineResetTakesEffect
  split
  · split
    · exact batchesSoundNext_finish (batchesSound_resetLine _ _)
    · exact batchesSoundNext_same hs
  all_goals exact batchesSoundNext_same hs

theorem batchesSoundNext_powerOnReset (s : State) : BatchesSoundNext (execPowerOnReset s) := by
  obtain ⟨-, -, -, -, -, hreset, -⟩ := resetMeetsEveryInvariant
  exact batchesSoundNext_same ((SamePlans.of_eq rfl rfl).sound hreset)

theorem batchesSoundNext_staleExpiry (hs : BatchesSound s) (n : Nat) : BatchesSoundNext (execStaleExpiry n s) := by
  unfold execStaleExpiry
  split
  · exact batchesSoundNext_fault _
  · split
    · exact batchesSoundNext_finish (batchesSound_staleExpire (batchesSound_changeLive hs _ _) _)
    · exact batchesSoundNext_same hs

theorem batchesSoundNext_pollTimeout (hs : BatchesSound s) (n : Nat) : BatchesSoundNext (execPollTimeout n s) := by
  unfold execPollTimeout
  split
  · exact batchesSoundNext_fault _
  · split
    · exact batchesSoundNext_finish ((samePlans_endPollTimer _ _).sound hs)
    · exact batchesSoundNext_same hs

theorem batchesSoundNext_silenceTimerExpiry (hs : BatchesSound s) : BatchesSoundNext (execSilenceTimerExpiry s) := by
  have hreach : BatchesSound (reachSilenceLimit s) := (SamePlans.of_eq rfl rfl).sound hs
  unfold execSilenceTimerExpiry
  split
  · exact batchesSoundNext_finish (batchesSound_silenceExpire hreach)
  · exact batchesSoundNext_same hs

/-- A dwell that ends had one millisecond left, and its group has no wave (R95, R123). -/
theorem batchesSoundNext_dwellExpiry (hs : BatchesSound s) (n : Nat) : BatchesSoundNext (execDwellExpiry n s) := by
  unfold execDwellExpiry
  split
  · exact batchesSoundNext_fault _
  · next g _ =>
    split
    · next hdue =>
      obtain ⟨tr, htr, hd⟩ := Option.bind_eq_some_iff.1 (by simpa [dwellDue] using hdue)
      have hwave := wave_eq_none_of_dwelling (hs.2 g) (by simp [isDwelling, htr, hd])
      exact batchesSoundNext_finish (batchesSound_makeStepDue hs htr (by simp [hd]) hwave)
    · exact batchesSoundNext_same hs

/-- Every command keeps the pending internal batches sound. -/
theorem batchesSoundNext_exec (hs : BatchesSound s) (c : Instr) : BatchesSoundNext (exec c s) := by
  have same : ∀ {u v : State}, v = u → BatchesSound u → BatchesSound v := fun e => e ▸ id
  cases c with
  | powerOnReset => exact batchesSoundNext_powerOnReset s
  | uPortArrival content => exact (batchesSoundNext_arrivals hs content).1
  | dPortArrival content => exact (batchesSoundNext_arrivals hs content).2
  | move => exact batchesSoundNext_move hs
  | gmove => exact batchesSoundNext_gmove hs
  | go => exact batchesSoundNext_go hs
  | poll => exact batchesSoundNext_poll hs
  | passThroughFrame => exact batchesSoundNext_passThroughFrame hs
  | read => exact batchesSoundNext_mgmt hs fun u f => same (keeps_readOps u f).1
  | write => exact batchesSoundNext_mgmt hs fun u f hu => batchesSound_writeOp hu f
  | readLive => exact batchesSoundNext_mgmt hs fun u f => same (keeps_readOps u f).2.1
  | arm => exact batchesSoundNext_mgmt hs fun u f hu => batchesSound_armOp hu f
  | park => exact batchesSoundNext_mgmt hs fun u f hu => batchesSound_parkOp hu f
  | recover => exact batchesSoundNext_mgmt hs fun u f hu => batchesSound_recoverOp hu f
  | clearCause => exact batchesSoundNext_mgmt hs fun _ _ => (SamePlans.of_eq rfl rfl).sound
  | readCause => exact batchesSoundNext_mgmt hs fun u f => same (keeps_readOps u f).2.2
  | setIdentity => exact batchesSoundNext_mgmt hs fun u f => (samePlans_setIdentityOp u f).sound
  | setMotion => exact batchesSoundNext_mgmt hs fun u f hu => batchesSound_setMotionOp hu f
  | setPortMode => exact batchesSoundNext_mgmt hs fun u f => (samePlans_setPortModeOp u f).sound
  | lineReset => exact batchesSoundNext_mgmt hs fun _ _ => id
  | lineResetTakesEffect => exact batchesSoundNext_lineResetTakesEffect hs
  | dPortTransmitCompletion => exact (batchesSoundNext_transmitCompletions hs).1
  | uPortTransmitCompletion => exact (batchesSoundNext_transmitCompletions hs).2
  | staleExpiry n => exact batchesSoundNext_staleExpiry hs n
  | pollTimeout n => exact batchesSoundNext_pollTimeout hs n
  | silenceTimerExpiry => exact batchesSoundNext_silenceTimerExpiry hs
  | dwellExpiry n => exact batchesSoundNext_dwellExpiry hs n
  | trackStep => exact (batchesSoundNext_internalBatches hs).2
  | rewriteWaveAdmission => exact (batchesSoundNext_internalBatches hs).1
  | ownPoll => exact batchesSoundNext_ownPoll hs
  | mgmtBadOperation => exact batchesSoundNext_mgmt hs fun _ _ => id

/-! ## The idle step and the invariant -/

theorem tickDwell_eq_zero_iff (n : Nat) : tickDwell n = 0 ↔ n = 0 := by
  unfold tickDwell
  split <;> omega

/-- A count that runs reaches no limit in a millisecond's counts, so no step becomes due (R123, R146). -/
theorem batchesSound_stepCounts (hs : BatchesSound s) : BatchesSound (stepCounts s) := by
  refine ⟨hs.1, fun g => ?_⟩
  have hgroup : (groupAt (stepCounts s) g).live = { (groupAt s g).live with
      track := (groupAt s g).live.track.map fun t => { t with dwell := t.dwell.map tickDwell } } := by
    simp [stepCounts, groupAt]
  obtain ⟨hw, hstep, hslow, hrun⟩ := hs.2 g
  rw [GroupBatchesSound, hgroup]
  refine ⟨hw, hstep.trans ?_, fun h => ⟨(hslow h).1, ?_⟩, fun h => hrun (by simpa using h)⟩
  · cases (groupAt s g).live.track with
    | none => rfl
    | some tr => cases h : tr.dwell <;> simp [h, tickDwell_eq_zero_iff]
  · simpa [isDwelling, Option.any_map] using (hslow h).2

theorem batchesSound_runExpiry (hs : BatchesSound s) (x : Expiry) : BatchesSound (runExpiry s x) := by
  cases x with
  | stale h => exact (batchesSoundNext_staleExpiry hs _).nextOr hs
  | pollTimeout h => exact (batchesSoundNext_pollTimeout hs _).nextOr hs
  | dwell g => exact (batchesSoundNext_dwellExpiry hs _).nextOr hs
  | silence => exact (batchesSoundNext_silenceTimerExpiry hs).nextOr hs

theorem batchesSound_tick (hs : BatchesSound s) : BatchesSound (tick s) :=
  batchesSound_foldl (fun _ x hu => batchesSound_runExpiry hu x) _ (batchesSound_stepCounts hs)

/-- Settles O11: each part of an event leaves every group's plan alone or leaves the group sound, and a step is a command or
a millisecond with its expiries. -/
theorem internalBatchesAgreeWithGroups : Obligations.InternalBatchesAgreeWithGroups := by
  intro s t hs hstep
  unfold step at hstep
  split at hstep
  · next c rest _ =>
    have hpop : BatchesSound { s with pending := rest } := (SamePlans.of_eq rfl rfl).sound hs
    exact batchesSoundNext_exec hpop c t hstep
  · cases hstep
    exact batchesSound_tick hs

end Sys2Proof.Machine
end


/-! # Sitting 4: GMOVE and the admission of a rewrite wave -/
section

namespace Sys2Proof.Machine

variable {s : State} {f : Frame} {epoch : BitVec 16} {rest : List IntakeEntry} {g : GroupNo}

/-! ## A GMOVE at the Intake head is taken (R44, R48, R86) -/

/-- A GMOVE frame of Len 5 to a group is that group's (R44). -/
theorem classOf_gmove (hk : f.kind = 0x22#8) (hp : f.payload.length = 5)
    (hd : f.dest = 0xF000#16 + BitVec.ofNat 16 g.val) : classOf f = .gmove g := by
  have hstop : stopKindOf f = none := by simp [stopKindOf, hk, kindHold, kindHalt]
  have hclass : addrClass f.dest ≠ .foreign := by
    rw [(addrClass_eq_group_iff_groupAddr f.dest g).2 hd]
    exact nofun
  rw [classOf_of_governed hstop hclass (by rw [hk]; rfl), hk, hp,
    if_pos (show lenAllowed 0x22#8 5 = true from rfl)]
  exact (routeOf_group f.dest (.inl ⟨rfl, rfl⟩)).1 g hd

theorem exec_gmove_taken (hhead : AtHead s f epoch rest) (hclass : classOf f = .gmove g)
    (hroom : RoomFor s (members s g).length) :
    exec .gmove s = .next (finish (gateGmove { s with intake := rest } { frame := f, epoch := epoch } g)) := by
  refine takeHead_of_some hhead ?_
  have hroom' : headRoom { s with intake := rest } (members { s with intake := rest } g).length = true :=
    (headRoom_behind s rest _).2 hroom
  simp only [gmoveTaken, hclass, hroom', if_true]

/-- The REFUSE of a frame to a group address names that group and no hoist (R54, R87). -/
theorem refuseFrame_of_group (hd : f.dest = 0xF000#16 + BitVec.ofNat 16 g.val) (r : Reason) :
    refuseFrame s f r = refusedWith s none (some g) (reasonCode r) f.kind f.seq := by
  have hparties : destParties s f.dest = (none, some g) := by
    rw [destParties, (addrClass_eq_group_iff_groupAddr f.dest g).2 hd]
  rw [refuseFrame, hparties]

/-! ## The ten checks (R87) -/

theorem any_memberUnfit_iff (s : State) (g : GroupNo) :
    (members s g).any (memberUnfit s) = true ↔
      ∃ h ∈ members s g, addrOfSlot s h = none ∨ (liveAt s h).state = .offline ∨ (liveAt s h).state = .tripped ∨
        (liveAt s h).loadCondition = .over := by
  simp [memberUnfit, or_assoc]

/-- A check before others answers alone, whatever its answer is made of. -/
theorem or_of_ite_some {α : Type} {p : Prop} [Decidable p] (a : α) (x y : Option α) :
    (if p then some a else x).or y = if p then some a else x.or y := by
  split <;> rfl

/-- The ten checks as one chain: the first that fails names the code of the refusal (R72, R87). -/
theorem reasonCode_gmoveRefusal (s : State) (f : Frame) (epoch : BitVec 16) (g : GroupNo) :
    (gmoveRefusal s f epoch g).map reasonCode =
      (if s.motionEnable = false then some 13#8
      else if s.portMode ≠ .normal then some 14#8
      else if epoch ≠ s.silence.epoch then some 17#8
      else if 127 < (payloadByte f 4).toNat then some 12#8
      else if fieldAt f 2 < 8 then some 11#8
      else if (groupAt s g).live.state = .parked ∨ (groupAt s g).live.state = .tripped then some 8#8
      else if (groupAt s g).live.state = .holding ∧ (groupAt s g).live.lastVerdict = .hold then some 8#8
      else if (groupAt s g).live.track ≠ none then some 15#8
      else if ∃ h ∈ members s g, addrOfSlot s h = none ∨ (liveAt s h).state = .offline ∨ (liveAt s h).state = .tripped ∨
        (liveAt s h).loadCondition = .over then some 9#8
      else none).or (if geometryHi s g < geometryLo s g then some 10#8 else none) := by
  simp only [gmoveRefusal, lineRefusal, frameRefusal, groupStateRefusal, trackRefusal, memberRefusal, or_of_ite_some,
    Option.none_or, Bool.not_eq_true', any_memberUnfit_iff, Option.isSome_iff_ne_none,
    apply_ite (Option.map reasonCode), Option.map_some, Option.map_none]
  rfl

theorem gateGmove_of_refused {c : Byte} (hd : f.dest = 0xF000#16 + BitVec.ofNat 16 g.val)
    (hr : (gmoveRefusal s f epoch g).map reasonCode = some c) :
    gateGmove s { frame := f, epoch := epoch } g = refusedWith s none (some g) c f.kind f.seq := by
  obtain ⟨r, hrefusal, rfl⟩ := Option.map_eq_some_iff.1 hr
  rw [← refuseFrame_of_group hd]
  simp [gateGmove, hrefusal]

theorem gateGmove_of_granted (hr : gmoveRefusal s f epoch g = none) :
    gateGmove s { frame := f, epoch := epoch } g = grantGmove s f g := by
  simp [gateGmove, hr]

/-- Settles O41: the frame is a GMOVE with room, so it is taken, and the first check that fails answers it. -/
theorem gmoveIsRefused : Obligations.GmoveIsRefused := by
  intro s f epoch rest g hhead hkind hpayload hdest hroom l code
  have htaken := exec_gmove_taken hhead (classOf_gmove hkind hpayload hdest) hroom
  have hchain : (gmoveRefusal { s with intake := rest } f epoch g).map reasonCode =
      code.or (if geometryHi s g < geometryLo s g then some 10#8 else none) := reasonCode_gmoveRefusal _ f epoch g
  have hrefused : ∀ c, (gmoveRefusal { s with intake := rest } f epoch g).map reasonCode = some c →
      exec .gmove s = .next (finish (refusedWith { s with intake := rest } none (some g) c 0x22#8 f.seq)) := by
    intro c hc
    rw [htaken, gateGmove_of_refused hdest hc, hkind]
  refine ⟨fun c hc => hrefused c ?_, fun hc lo hi hspan hlt => hrefused _ ?_⟩
  · rw [hchain, hc, Option.some_or]
  · rw [hchain, hc, geometryLo_eq hspan, geometryHi_eq hspan, if_pos hlt, Option.none_or]

/-! ## The grant of a GMOVE (R88 to R93) -/

/-- The plan of the batch of GMOVE `f` that grants `gr` to group `g` (R91). -/
def gmovePlan (f : Frame) (g : GroupNo) (gr : GroupGrant) : BatchPlan :=
  { ownPlan g gr with origin := .console f.src f.seq }

/-- The frames of a GMOVE's batch: one per member in slot order, with the GMOVE's Src and Seq (R91, R92). -/
def gmoveBatch (s : State) (f : Frame) (g : GroupNo) (addr : Slot → LineAddr) (gr : GroupGrant) : List Entry :=
  (members s g).map fun h =>
    { frame := moveTo (addr h) f.src f.seq (gr.base + (cfgAt s h).offset).toNat gr.speed gr.tag
      role := .batch h s.batchSerial false }

theorem queueBatch_gmovePlan {addr : Slot → LineAddr} (haddr : AddressedBy s g addr) (gr : GroupGrant) :
    queueBatch s (gmovePlan f g gr) =
      { s with
        motionQueue := s.motionQueue ++ gmoveBatch s f g addr gr
        batchSerial := s.batchSerial + 1#8 } := by
  have hentries : batchEntries s (gmovePlan f g gr) (members s (gmovePlan f g gr).group) s.seqCounter =
      gmoveBatch s f g addr gr := by
    refine (batchEntries_console s (gmovePlan f g gr) f.src f.seq addr rfl (members s g) haddr _).trans ?_
    simp only [moveFrame_eq_moveTo]
    rfl
  have hseqs : batchSeqs (gmovePlan f g gr) (gmoveBatch s f g addr gr) = 0 := rfl
  simp [queueBatch, hentries, hseqs, stepSeq, stepSerial]

/-- A grant leaves READY and HOLDING, for SLOWED where the speed was halved; a change of state ends the streak
(R77, R89, R93). -/
theorem enterState_grantedState {l : GroupLive} (hp : l.state ≠ .parked) (ht : l.state ≠ .tripped) :
    enterState (grantedState l) l = { l with
      state := if l.state = .slowed ∨ (l.state = .holding ∧ l.lastVerdict = .warn) then .slowed else .moving
      cleanStreak := if l.state = .moving ∨ l.state = .slowed then l.cleanStreak else 0 } := by
  cases hst : l.state with
  | parked => exact absurd hst hp
  | tripped => exact absurd hst ht
  | holding => by_cases hv : l.lastVerdict = .warn <;> simp [enterState, grantedState, hst, hv]
  | ready | moving | slowed => simp [enterState, grantedState, hst]

theorem isHalved_iff (l : GroupLive) :
    isHalved l = true ↔ l.state = .slowed ∨ (l.state = .holding ∧ l.lastVerdict = .warn) := by
  simp [isHalved]

/-- The least of a start value and a list, in the sense of the statements, is the model's. -/
theorem foldl_min_eq {α : Type} {x v : Nat} {xs : List α} {f : α → Nat}
    (h : IsLeastOf (v : Int) ((x : Int) :: xs.map fun y => (f y : Int))) : (xs.map f).foldl min x = v := by
  have hmin : (x :: xs.map f).min? = some v := List.min?_eq_some_iff.2 (by simpa using And.intro h.1 h.2)
  rwa [List.min?_cons', Option.some.injEq] at hmin

/-- The granted speed is Vgrp, halved where R89 says so. -/
theorem groupSpeed_eq_ite {load : Slot → Nat} {vq v : Nat} (hslow : SlowestOf s g load vq v) :
    groupSpeed s g vq = if isHalved (groupAt s g).live then max (v / 2) 8 else v := by
  obtain ⟨hload, hleast⟩ := hslow
  have hmap : (members s g).map (deratedSpeedOf s) =
      (members s g).map fun h => deratedSpeed (effectiveLimits s h) (load h) :=
    List.map_congr_left fun h hm => deratedSpeedOf_eq (hload h hm)
  have hmin : ((members s g).map (deratedSpeedOf s)).foldl min vq = v := by
    rw [hmap]
    exact foldl_min_eq hleast
  rw [groupSpeed, hmin]
  rfl

theorem groupStateRefusal_eq_none (hp : (groupAt s g).live.state ≠ .parked) (ht : (groupAt s g).live.state ≠ .tripped)
    (hh : ¬((groupAt s g).live.state = .holding ∧ (groupAt s g).live.lastVerdict = .hold)) :
    groupStateRefusal s g = none := by
  simp [groupStateRefusal, hp, ht, hh]

/-- The state that a GMOVE which is granted `gr` leaves, but for its CLAMP (R91 to R93). -/
def grantedGmove (s : State) (f : Frame) (g : GroupNo) (gr : GroupGrant) : State := admitBatch s (gmovePlan f g gr)

theorem grantGmove_eq {gr : GroupGrant} (hbase : groupBase s g (fieldAt f 0) = gr.base)
    (hspeed : groupSpeed s g (fieldAt f 2) = gr.speed) (htag : payloadByte f 4 = gr.tag) :
    grantGmove s f g =
      raiseClamp (grantedGmove s f g gr) (gr.base != (fieldAt f 0 : Int)) (gr.speed != fieldAt f 2) 0x22#8 none (some g)
        f.seq := by
  obtain ⟨base, speed, tag⟩ := gr
  subst hbase hspeed htag
  rfl

/-- A GMOVE that is granted writes the Motion Queue, the batch serial, the hoists and its group alone (R91 to R93). -/
theorem changes_of_grantedGmove {addr : Slot → LineAddr} (haddr : AddressedBy s g addr) (f : Frame) (gr : GroupGrant) :
    BatchGranted s (grantedGmove s f g gr) g (gmoveBatch s f g addr gr) gr ∧
      OnlyGroup s (grantedGmove s f g gr) g { groupAt s g with
        live := groupTakesGrant (gmovePlan f g gr) (enterState (grantedState (groupAt s g).live) (groupAt s g).live) } ∧
      { grantedGmove s f g gr with
        motionQueue := s.motionQueue, batchSerial := s.batchSerial, hoists := s.hoists, groups := s.groups } = s := by
  have hgroup := groupAt_admitBatch s (gmovePlan f g gr)
  have hother : ∀ k, k ≠ g → groupAt (grantedGmove s f g gr) k = groupAt s k := fun k hk =>
    (hgroup k).trans (if_neg hk)
  refine ⟨?_, ⟨(hgroup g).trans (if_pos rfl), hother⟩, ?_⟩
  · rw [grantedGmove, admitBatch, queueBatch_gmovePlan haddr]
    exact ⟨rfl, rfl, fun h => hoistAt_grantMembers _ g gr h⟩
  · rw [grantedGmove, admitBatch, queueBatch_gmovePlan haddr]
    rfl

/-- Settles O40: the ten checks pass, and the GMOVE's batch, its group and its CLAMP are each as stated. -/
theorem gmoveIsGranted : Obligations.GmoveIsGranted := by
  intro s f epoch rest g addr load lo hi vgrp hhead hkind hpayload hdest hroom hline htag hcreep l hstate htrack haddr
    hfit hspan hlohi hslow base halvedGrant speed gr entries
  obtain ⟨hp, ht, hh⟩ := hstate
  have hpasses : gmoveRefusal { s with intake := rest } f epoch g = none := by
    have hall : gmoveRefusal s f epoch g = none := by
      rw [gmoveRefusal, lineRefusal_of_open hline, frameRefusal_eq_none htag hcreep, groupStateRefusal_eq_none hp ht hh,
        memberRefusal_of_fit haddr hfit hspan hlohi]
      simp [trackRefusal, show (groupAt s g).live.track = none from htrack]
    exact hall
  have hbase : groupBase s g (fieldAt f 0) = gr.base := groupBase_eq hspan (fieldAt f 0)
  have hspeed : groupSpeed s g (fieldAt f 2) = gr.speed :=
    (groupSpeed_eq_ite hslow).trans (if_congr (isHalved_iff _) rfl rfl)
  have htaken := exec_gmove_taken hhead (classOf_gmove hkind hpayload hdest) hroom
  rw [gateGmove_of_granted hpasses, grantGmove_eq (s := { s with intake := rest }) hbase hspeed rfl,
    raiseClamp_eq_with] at htaken
  obtain ⟨hbatch, hgroup, hframe⟩ := changes_of_grantedGmove (s := { s with intake := rest }) haddr f gr
  rw [enterState_grantedState (l := (groupAt { s with intake := rest } g).live) hp ht] at hgroup
  have hnotices := notices_raiseClamp (s := s) (t := grantedGmove { s with intake := rest } f g gr)
    (congrArg State.line hframe :) (congrArg State.notices hframe :) (congrArg State.lineClock hframe :)
    (gr.base != (fieldAt f 0 : Int)) (gr.speed != fieldAt f 2) 0x22#8 none (some g) f.seq
  exact ⟨_, htaken, (congrArg State.intake hframe :), hbatch, hgroup, hnotices,
    congrArg (fun t : State => { t with intake := s.intake, notices := s.notices }) hframe⟩

/-! ## The admission of a rewrite wave (R96) -/

/-- What a wave that grants `gr` changes: the batch, its grant, and the pending batches of its group (R91 to R93, R96). -/
theorem changes_of_grantedWave {addr : Slot → LineAddr} (haddr : AddressedBy s g addr) (gr : GroupGrant) :
    BatchGranted s (grantedWave s g gr) g (ownBatch s g addr gr) gr ∧
      (grantedWave s g gr).internalBatches = s.internalBatches.filter (fun b => batchGroup b != g) ∧
      OnlyGroup s (grantedWave s g gr) g { groupAt s g with live := { (groupAt s g).live with
        grant := some gr, wave := none } } ∧
      (grantedWave s g gr).seqCounter = s.seqCounter + BitVec.ofNat 8 (members s g).length ∧
      { grantedWave s g gr with
        motionQueue := s.motionQueue, batchSerial := s.batchSerial, hoists := s.hoists, groups := s.groups,
        internalBatches := s.internalBatches, seqCounter := s.seqCounter } = s := by
  have hgroup := groupAt_grantedWave s g
  have hqueue : queueBatch (cancelBatch s g) (ownPlan g gr) = _ := queueBatch_ownPlan (s := cancelBatch s g) haddr
  refine ⟨?_, rfl, ⟨(hgroup g gr).trans (if_pos rfl), fun k hk => (hgroup k gr).trans (if_neg hk)⟩, ?_, ?_⟩
  all_goals rw [grantedWave, hqueue]
  · exact ⟨rfl, rfl, fun h => hoistAt_grantMembers _ g gr h⟩
  · rfl
  · rfl

/-- Settles O45: the wave is the oldest pending batch, and its group's grant gives the base of the batch. -/
theorem rewriteWaveIsAdmitted : Obligations.RewriteWaveIsAdmitted := by
  intro s g more w old addr hb hwave hgrant haddr gr
  have hexec : exec .rewriteWaveAdmission s = if fitsBatch s g then .next (finish (admitWave s g)) else .next s := by
    simp only [exec, execRewriteWaveAdmission, hb]
  have hadmit : admitWave s g = grantedWave s g gr := by
    rw [admitWave_eq hwave, groupGrantBase, hgrant]
  refine ⟨fun hfull => ?_, fun hfits => ⟨admitWave s g, ?_, ?_⟩⟩
  · rw [hexec, if_neg]
    rw [fitsBatch_iff]
    omega
  · rw [hexec, if_pos ((fitsBatch_iff s g).2 hfits)]
  · rw [hadmit]
    exact changes_of_grantedWave haddr gr

end Sys2Proof.Machine
end


/-! # Sitting 4: the Group Check -/
section

namespace Sys2Proof.Machine

variable {s : State} {g : GroupNo}

/-! ## Two changes of one group -/

/-- A change of a group depends on what it makes of the group's live part alone. -/
theorem changeGroup_congr {f k : GroupLive → GroupLive} (h : f (groupAt s g).live = k (groupAt s g).live) :
    changeGroup s g f = changeGroup s g k := by
  rw [changeGroup, changeGroup, h]

/-- Two changes of the same group are one. -/
theorem changeGroup_changeGroup (s : State) (g : GroupNo) (f k : GroupLive → GroupLive) :
    changeGroup (changeGroup s g f) g k = changeGroup s g fun l => k (f l) := by
  have htable : ∀ x y, (s.groups.set g x).set g y = s.groups.set g y := fun x y =>
    Table.ext_get fun i => by
      simp only [Table.get_set]
      split <;> rfl
  rw [changeGroup, groupAt_changeGroup_self]
  exact congrArg (fun t => { s with groups := t }) (htable _ _)

/-! ## When a round is evaluated (R100) -/

theorem isChecked_iff (st : GroupState) :
    isChecked st = true ↔ st = .ready ∨ st = .moving ∨ st = .slowed ∨ st = .holding := by
  cases st <;> simp [isChecked]

theorem roundComplete_iff (s : State) (g : GroupNo) :
    roundComplete s g = true ↔
      ∀ m ∈ members s g, (liveAt s m).fresh = true ∧ (liveAt s m).sampleAge < s.line.ageLimit := by
  simp [roundComplete]

theorem examineRound_of_some {h : Slot} (hg : armedGroupOf s h = some g) (seq : Byte) :
    examineRound s h seq =
      if isChecked (groupAt s g).live.state && (liveAt s h).fresh && roundComplete s g then evaluateGroup s g seq
      else s := by
  simp [examineRound, hg]

/-! ## What an evaluation stores (R101) -/

theorem hoistAt_storeEvaluation (s : State) (g : GroupNo) (v : Evaluation) (h : Slot) :
    hoistAt (storeEvaluation s g v) h = { hoistAt s h with live := { liveAt s h with
      fresh := if h ∈ members s g then false else (liveAt s h).fresh } } := by
  rw [storeEvaluation, hoistAt_changeHoists, if_congr (mem_members s g h).symm rfl rfl]
  split <;> rfl

theorem onlyGroup_storeEvaluation (s : State) (g : GroupNo) (v : Evaluation) :
    OnlyGroup s (storeEvaluation s g v) g { groupAt s g with live := { (groupAt s g).live with
      lastVerdict := v.verdict, lastSkew := some v.skew, lastDmax := v.dmax.or (groupAt s g).live.lastDmax } } := by
  have hgroup := fun k => groupAt_changeGroup s g k fun l =>
    { l with lastVerdict := v.verdict, lastSkew := some v.skew, lastDmax := v.dmax.or l.lastDmax }
  exact ⟨(hgroup g).trans (if_pos rfl), fun k hk => (hgroup k).trans (if_neg hk)⟩

/-! ## The WARN notice (R108, R111) -/

/-- A WARN verdict means that neither part is worse than WARN and that one of them is WARN (R107). -/
theorem worse_eq_warn_iff (a b : Verdict) :
    worse a b = .warn ↔ (a = .warn ∨ b = .warn) ∧ a ≠ .hold ∧ a ≠ .trip ∧ b ≠ .hold ∧ b ≠ .trip := by
  cases a <;> cases b <;> simp [worse, verdictRank]

theorem skewPart_eq_warn_iff {k : GroupConfig} {skew : Nat} (h : skewPart k skew ≠ .hold) :
    skewPart k skew = .warn ↔ k.skewWarn < skew := by
  unfold skewPart at h ⊢
  split at h
  · exact absurd rfl h
  · next hn => rw [if_neg hn]; split <;> simp [*]

theorem sharePart_eq_warn_iff {k : GroupConfig} {dmax : Option Nat} (h : sharePart k dmax ≠ .trip) :
    sharePart k dmax = .warn ↔ (dmax.any fun d => decide (k.shareWarn < d)) = true := by
  cases dmax with
  | none => simp [sharePart]
  | some d =>
    simp only [sharePart] at h ⊢
    split at h
    · exact absurd rfl h
    · next hn => rw [if_neg hn]; split <;> simp [*]

/-- The WARN notice names the share part before the skew part, and both in its Detail (R108). -/
theorem raiseWarn_eq {s u : State} {v : Evaluation} (seq : Byte) (hv : v = evaluationOf s g) (hwarn : v.verdict = .warn) :
    let k := (groupAt s g).cfg
    let isShare := v.dmax.any fun d => decide (k.shareWarn < d)
    raiseWarn u g v seq = raiseNotice u .warn
      { hoist := if isShare = true then v.shareSlot else v.skewSlot, group := some g
        code := if isShare = true then 4#8 else 3#8
        detail := if isShare = false then 1#8 else if k.skewWarn < v.skew then 3#8 else 2#8
        relatedSeq := seq } := by
  intro k isShare
  subst hv
  obtain ⟨hone, hnohold, -, -, hnotrip⟩ := (worse_eq_warn_iff _ _).1 hwarn
  have hskew : ((evaluationOf s g).skewPart == .warn) = decide (k.skewWarn < (evaluationOf s g).skew) := by
    rw [beq_eq_decide]
    exact decide_eq_decide.2 (skewPart_eq_warn_iff hnohold)
  have hshare : ((evaluationOf s g).sharePart == .warn) = isShare := by
    rw [Bool.eq_iff_iff, beq_iff_eq]
    exact sharePart_eq_warn_iff hnotrip
  have hdetail : isShare = false → k.skewWarn < (evaluationOf s g).skew := fun hno => by
    rw [← hshare, beq_eq_false_iff_ne] at hno
    simpa using hskew.symm.trans (beq_iff_eq.2 (hone.resolve_right hno))
  rw [raiseWarn, hskew, hshare]
  cases hcase : isShare
  · simp [hdetail hcase]; rfl
  · by_cases h : k.skewWarn < (evaluationOf s g).skew <;> simp [h] <;> rfl

/-! ## The effects of WARN and CLEAN (R95, R111, R112) -/

/-- A formed wave takes the next part tag and joins the pending batches (R95). -/
theorem formWave_eq (s : State) (g : GroupNo) :
    formWave s g =
      { changeGroup s g (fun l => { l with
          wave := some { tag := s.tagCounter, speed := halved (groupGrantSpeed (groupAt s g).live) } }) with
        tagCounter := nextTag s.tagCounter
        internalBatches := s.internalBatches ++ [.wave g] } := rfl

/-- WARN slows a MOVING group and forms its wave unless it dwells (R111). -/
theorem warnEffect_of_moving (h : (groupAt s g).live.state = .moving) :
    warnEffect s g =
      if isDwelling (groupAt s g).live then changeGroup s g fun l => { l with state := .slowed, cleanStreak := 0 }
      else formWave (changeGroup s g fun l => { l with state := .slowed, cleanStreak := 0 }) g := by
  rw [warnEffect, h]

theorem warnEffect_of_slowed (h : (groupAt s g).live.state = .slowed) :
    warnEffect s g = changeGroup s g fun l => { l with cleanStreak := 0 } := by
  rw [warnEffect, h]

theorem warnEffect_of_standing (hm : (groupAt s g).live.state ≠ .moving) (hs : (groupAt s g).live.state ≠ .slowed) :
    warnEffect s g = s := by
  unfold warnEffect
  split
  · next h => exact absurd h hm
  · next h => exact absurd h hs
  all_goals rfl

/-- The wave of a MOVING group that WARN slows, as one change (R95, R111). -/
theorem formWave_of_slowed {gr : GroupGrant} (hgrant : (groupAt s g).live.grant = some gr) :
    formWave (changeGroup s g fun l => { l with state := .slowed, cleanStreak := 0 }) g =
      { changeGroup s g (fun l => { l with
          state := .slowed, cleanStreak := 0, wave := some { tag := s.tagCounter, speed := max (gr.speed / 2) 8 } }) with
        tagCounter := if s.tagCounter = 255#8 then 128#8 else s.tagCounter + 1#8
        internalBatches := s.internalBatches ++ [.wave g] } := by
  have hspeed : groupGrantSpeed
      (groupAt (changeGroup s g fun l => { l with state := .slowed, cleanStreak := 0 }) g).live = gr.speed := by
    rw [groupAt_changeGroup_self, groupGrantSpeed, hgrant]
    rfl
  rw [formWave_eq, hspeed, changeGroup_changeGroup]
  rfl

/-! ## What every verdict leaves (R101) -/

/-- The figures that an evaluation stores in its group (R101 step 5). -/
def figures (l : GroupLive) : Verdict × Option Nat × Option Nat := (l.lastVerdict, l.lastSkew, l.lastDmax)

theorem figures_admitStop (s : State) (o : StopIssue) (g : GroupNo) :
    figures (groupAt (admitStop s o) g).live = figures (groupAt s g).live := by
  have hstop : ∀ k c (l : GroupLive), figures (stopGroupLive k c l) = figures l := fun k c l => by
    unfold stopGroupLive
    split <;> rfl
  rw [groupAt_admitStop]
  repeat' split
  · exact hstop _ _ _
  all_goals rfl

theorem fresh_admitStop (s : State) (o : StopIssue) (h : Slot) :
    (liveAt (admitStop s o) h).fresh = (liveAt s h).fresh := by
  simp only [← live_hoistAt]
  rw [hoistAt_admitStop]
  repeat' split
  all_goals rfl

theorem figures_changeGroup (s : State) (g k : GroupNo) {f : GroupLive → GroupLive} (hf : ∀ l, figures (f l) = figures l) :
    figures (groupAt (changeGroup s g f) k).live = figures (groupAt s k).live := by
  rw [groupAt_changeGroup]
  split
  · next e => rw [e]; exact hf _
  · rfl

theorem stored_warnEffect (s : State) (g : GroupNo) :
    figures (groupAt (warnEffect s g) g).live = figures (groupAt s g).live ∧ (warnEffect s g).hoists = s.hoists := by
  have hslow := figures_changeGroup s g g (f := fun l => { l with state := .slowed, cleanStreak := 0 }) fun _ => rfl
  unfold warnEffect
  split
  · dsimp only
    split
    · exact ⟨hslow, rfl⟩
    · refine ⟨?_, rfl⟩
      rw [groupAt_formWave, if_pos rfl]
      exact hslow
  · exact ⟨figures_changeGroup s g g fun _ => rfl, rfl⟩
  all_goals exact ⟨rfl, rfl⟩

/-- No verdict's effect changes the figures of a group or whether a hoist is Fresh (R109 to R112). -/
theorem stored_verdictEffect (s : State) (g : GroupNo) (v : Evaluation) (seq : Byte) :
    figures (groupAt (verdictEffect s g v seq) g).live = figures (groupAt s g).live ∧
      ∀ h, (liveAt (verdictEffect s g v seq) h).fresh = (liveAt s h).fresh := by
  have hwarn : figures (groupAt (warnEffect (raiseWarn s g v seq) g) g).live = figures (groupAt s g).live ∧
      (warnEffect (raiseWarn s g v seq) g).hoists = s.hoists := by
    obtain ⟨hfigures, hhoists⟩ := stored_warnEffect (raiseWarn s g v seq) g
    exact ⟨hfigures.trans (by rw [raiseWarn, groupAt_raiseNotice]), hhoists.trans (raiseNotice_hoists _ _ _)⟩
  have hclean : figures (groupAt (cleanEffect s g) g).live = figures (groupAt s g).live ∧
      (cleanEffect s g).hoists = s.hoists := by
    rw [cleanEffect_eq]
    split
    · split
      · exact ⟨figures_changeGroup s g g fun _ => rfl, rfl⟩
      · exact ⟨by rw [groupAt_withFullSpeed, if_pos rfl]; rfl, rfl⟩
    · exact ⟨rfl, rfl⟩
  unfold verdictEffect
  split
  · exact ⟨figures_admitStop _ _ _, fresh_admitStop _ _⟩
  · split
    · exact ⟨rfl, fun _ => rfl⟩
    · exact ⟨figures_admitStop _ _ _, fresh_admitStop _ _⟩
  · exact ⟨hwarn.1, fun h => by rw [liveAt_congr hwarn.2]⟩
  · exact ⟨hclean.1, fun h => by rw [liveAt_congr hclean.2]⟩
  · exact ⟨rfl, fun _ => rfl⟩

/-! ## The effect of each verdict (R109 to R112) -/

section

variable {v : Evaluation} {seq : Byte}

theorem verdictEffect_of_trip (h : v.verdict = .trip) :
    verdictEffect s g v seq = admitStop s (partOrder .halt (.group g) (some .share) seq v.shareSlot) := by
  rw [verdictEffect, h]
  rfl

theorem verdictEffect_of_hold (h : v.verdict = .hold) :
    verdictEffect s g v seq =
      if (groupAt s g).live.state = .holding then s
      else admitStop s (partOrder .hold (.group g) (some .skew) seq v.skewSlot) := by
  rw [verdictEffect, h]
  rfl

theorem verdictEffect_of_warn (h : v.verdict = .warn) :
    verdictEffect s g v seq = warnEffect (raiseWarn s g v seq) g := by
  rw [verdictEffect, h]

theorem verdictEffect_of_clean (h : v.verdict = .clean) : verdictEffect s g v seq = cleanEffect s g := by
  rw [verdictEffect, h]

end

/-- A lane with room collapses on no order (R131). -/
theorem laneAfter_ne_none_of_room {o : StopIssue} (h : s.lane.length < 4) : laneAfter s o ≠ none := by
  unfold laneAfter
  repeat' split
  all_goals simp

theorem armed_of_isChecked (h : isChecked (groupAt s g).live.state = true) : (groupAt s g).live.state ≠ .parked :=
  fun e => by simp [e, isChecked] at h

/-- The HALT of a TRIP verdict trips the group and every member (R10, R81, R110). -/
theorem tripped_of_trip {v : Evaluation} (seq : Byte) (hv : v.verdict = .trip)
    (hchecked : isChecked (groupAt s g).live.state = true) :
    (groupAt (verdictEffect s g v seq) g).live.state = .tripped ∧
      ∀ h ∈ members s g, (liveAt (verdictEffect s g v seq) h).state = .tripped := by
  rw [verdictEffect_of_trip hv]
  refine ⟨?_, fun h hm => ?_⟩
  · have hpark := armed_of_isChecked hchecked
    refine (state_admitStop_of_group (by simp [coversGroup]) hpark).elim (fun e => ?_) id
    rw [e]
    exact (stoppedGroup_of_armed .halt _ hpark).2 rfl
  · rw [mem_members] at hm
    exact (state_admitStop_of_covered (by simp [coversHoist, hm, present_of_isMember hm])).elim (fun e => by rw [e]; rfl) id

/-- The HOLD of a HOLD verdict holds a checked group while the lane has room (R81, R109). -/
theorem holding_of_hold {v : Evaluation} (seq : Byte) (hv : v.verdict = .hold)
    (hchecked : isChecked (groupAt s g).live.state = true) (hroom : s.lane.length < 4) :
    (groupAt (verdictEffect s g v seq) g).live.state = .holding := by
  rw [verdictEffect_of_hold hv]
  split
  · next h => exact h
  · rw [groupAt_admitStop_of_room _ _ (laneAfter_ne_none_of_room hroom), groupAt_admissionEffects]
    rcases (isChecked_iff _).1 hchecked with e | e | e | e <;> simp [coversGroup, stopGroupLive, stoppedGroup, e]

/-- Settles O36: the round is examined as R100 says, the evaluation stores its results, and each verdict has its own
effect. -/
theorem evaluationStoresAndActs : Obligations.EvaluationStoresAndActs := by
  refine ⟨fun s h seq => ?_, fun s g seq => ?_⟩
  · intro evaluates
    have hevaluates : ∀ g, evaluates g ↔
        (isChecked (groupAt s g).live.state && (liveAt s h).fresh && roundComplete s g) = true := fun g => by
      simp only [evaluates, Bool.and_eq_true, isChecked_iff, roundComplete_iff, and_assoc]
    refine ⟨fun g hg he => ?_, fun hno => ?_⟩
    · rw [examineRound_of_some hg, if_pos ((hevaluates g).1 he)]
    · cases hg : armedGroupOf s h with
      | none => simp [examineRound, hg]
      | some g => rw [examineRound_of_some hg, if_neg fun e => hno g hg ((hevaluates g).2 e)]
  · intro v t l k isShare warned
    have hhoist := hoistAt_storeEvaluation s g v
    have hgroup := onlyGroup_storeEvaluation s g v
    have ht : t = verdictEffect (storeEvaluation s g v) g v seq := rfl
    have hframe : { storeEvaluation s g v with hoists := s.hoists, groups := s.groups } = s := rfl
    have htag : (storeEvaluation s g v).tagCounter = s.tagCounter := rfl
    have hbatches : (storeEvaluation s g v).internalBatches = s.internalBatches := rfl
    have hlane : (storeEvaluation s g v).lane = s.lane := rfl
    generalize storeEvaluation s g v = u at hhoist hgroup ht hframe htag hbatches hlane
    have hstate : (groupAt u g).live.state = l.state := by rw [hgroup.1]
    have hstreak : (groupAt u g).live.cleanStreak = l.cleanStreak := by rw [hgroup.1]
    have hwarned : v.verdict = .warn → raiseWarn u g v seq = warned u := raiseWarn_eq seq rfl
    have hsame : groupAt (warned u) g = groupAt u g := groupAt_raiseNotice _ _ _ g
    obtain ⟨hfigures, hfresh⟩ := stored_verdictEffect u g v seq
    have hmembers : members u g = members s g := members_congr (fun k => by rw [← cfg_hoistAt, hhoist]; rfl) g
    rw [← ht, hgroup.1] at hfigures
    simp only [figures, Prod.mk.injEq] at hfigures
    obtain ⟨hverdict, hskew, hdmax⟩ := hfigures
    refine ⟨⟨u, hhoist, hgroup, hframe, fun hv => ?_, fun hv hn => ?_, fun hv hh => ?_, fun hv hm hs => ?_,
      fun hv hs => ?_, fun hv hm hd => ?_, fun hv hm hd gr hgr => ?_, fun hv hs => ?_, fun hv hs hlt => ?_,
      fun hv hs hle => ?_⟩, hverdict, hskew, hdmax, fun h hm => ?_, fun hchecked => ⟨fun hv => ?_, fun hv hroom => ?_⟩⟩
    · rw [ht, verdictEffect_of_trip hv]
    · rw [ht, verdictEffect_of_hold hv, hstate, if_neg hn]
    · rw [ht, verdictEffect_of_hold hv, hstate, if_pos hh]
    · rw [ht, verdictEffect_of_warn hv, hwarned hv, warnEffect_of_standing] <;> rw [hsame, hstate] <;> assumption
    · rw [ht, verdictEffect_of_warn hv, hwarned hv, warnEffect_of_slowed (by rw [hsame, hstate, hs])]
    · rw [ht, verdictEffect_of_warn hv, hwarned hv, warnEffect_of_moving (by rw [hsame, hstate, hm]), if_pos]
      rw [hsame, hgroup.1]; exact hd
    · rw [ht, verdictEffect_of_warn hv, hwarned hv, warnEffect_of_moving (by rw [hsame, hstate, hm]), if_neg,
        formWave_of_slowed (gr := gr)]
      · rw [← htag, ← hbatches]
        simp only [warned, raiseNotice_tagCounter, raiseNotice_internalBatches]
      · rw [hsame, hgroup.1]; exact hgr
      · rw [hsame, hgroup.1]; exact fun e => Bool.false_ne_true (hd.symm.trans e)
    · rw [ht, verdictEffect_of_clean hv, cleanEffect_eq, hstate, if_neg hs]
    · rw [ht, verdictEffect_of_clean hv, cleanEffect_eq, hstate, if_pos hs, hstreak, if_pos (by omega)]
      exact changeGroup_congr (by rw [hstreak])
    · rw [ht, verdictEffect_of_clean hv, cleanEffect_eq, hstate, if_pos hs, hstreak, if_neg (by omega), withFullSpeed,
        hbatches]
    · rw [ht, hfresh, ← live_hoistAt, hhoist, if_pos hm]
    · have hu : isChecked (groupAt u g).live.state = true := by rw [hstate]; exact hchecked
      rw [ht, ← hmembers]
      exact tripped_of_trip seq hv hu
    · have hu : isChecked (groupAt u g).live.state = true := by rw [hstate]; exact hchecked
      rw [ht]
      exact holding_of_hold seq hv hu (by rw [hlane]; exact hroom)

end Sys2Proof.Machine
end


/-! # Sitting 4: the last arrival -/
section

namespace Sys2Proof.Machine

variable {s : State} {g : GroupNo} {tr : Track} {seq : Byte}

theorem allArrived_iff (s : State) (g : GroupNo) :
    allArrived s g = true ↔ ∀ h ∈ members s g,
      (liveAt s h).arrived = true ∧ (liveAt s h).grant.map (·.tag) = (groupAt s g).live.grant.map (·.tag) := by
  simp [allArrived, arrivedForBatch]

/-- A change of a group and the cancelling of its batches commute. -/
theorem changeGroup_cancelBatch (s : State) (g : GroupNo) (f : GroupLive → GroupLive) :
    changeGroup (cancelBatch s g) g f = cancelBatch (changeGroup s g f) g := rfl

/-- What a state holds of the groups after one of them changed. -/
theorem onlyGroup_of_changeGroup {t : State} (f : GroupLive → GroupLive) (h : t.groups = (changeGroup s g f).groups) :
    OnlyGroup s t g { groupAt s g with live := f (groupAt s g).live } := by
  have hgroup := groupAt_congr h
  exact ⟨(hgroup g).trans (groupAt_changeGroup_self s g f), fun k hk =>
    (hgroup k).trans (groupAt_changeGroup_of_ne s hk f)⟩

/-! ## What an arrival completes (R84, R122) -/

theorem examineArrival_of_no_track (ht : (groupAt s g).live.track = none) (seq : Byte) :
    examineArrival s g seq =
      if inProgress (groupAt s g).live = true ∧ allArrived s g = true then completeGroup s g seq else s := by
  simp only [examineArrival, ht, Bool.and_eq_true]

theorem examineArrival_of_track (ht : (groupAt s g).live.track = some tr) (seq : Byte) :
    examineArrival s g seq =
      if tr.dwell = none ∧ allArrived s g = true then completeStep s g tr seq else s := by
  simp only [examineArrival, ht, Bool.and_eq_true, Option.isNone_iff_eq_none]

/-- The group completes: it is READY, its batches are cancelled and GROUP_READY is raised (R84). -/
theorem completeGroup_eq (s : State) (g : GroupNo) (seq : Byte) :
    completeGroup s g seq =
      { cancelBatch (changeGroup s g fun l => { l with state := .ready, cleanStreak := 0, wave := none }) g with
        notices := (raiseNotice s .groupReady
          { hoist := none, group := some g, code := 0x00#8, detail := 0x00#8, relatedSeq := seq }).notices } := by
  rw [completeGroup, raiseNotice_eq_with, notices_raiseNotice_congr (s := s)] <;> rfl

/-- The last step ends its track (R122). -/
theorem completeStep_of_last (hlast : (s.trackPool.get tr.cursor).last = true) (seq : Byte) :
    completeStep s g tr seq =
      { cancelBatch (changeGroup s g fun l =>
          { l with state := .ready, cleanStreak := 0, wave := none, track := none }) g with
        notices := (raiseNotice s .trackEnd
          { hoist := none, group := some g, code := 0x00#8, detail := BitVec.ofNat 8 tr.cursor.val,
            relatedSeq := seq }).notices } := by
  rw [completeStep]
  refine (if_pos hlast).trans ?_
  rw [changeGroup_cancelBatch, changeGroup_changeGroup, raiseNotice_eq_with, notices_raiseNotice_congr (s := s)]
    <;> rfl

/-- A step with a Dwell dwells (R122). -/
theorem completeStep_of_dwell (hlast : (s.trackPool.get tr.cursor).last = false)
    (hdwell : (s.trackPool.get tr.cursor).dwell ≠ 0) (seq : Byte) :
    completeStep s g tr seq = cancelBatch (changeGroup s g fun l =>
      { l with wave := none, track := some { tr with dwell := some (s.trackPool.get tr.cursor).dwell } }) g := by
  rw [completeStep]
  refine (if_neg (ne_true_of_eq_false hlast)).trans ((if_neg hdwell).trans ?_)
  rw [changeGroup_cancelBatch, changeGroup_changeGroup]
  rfl

/-- The state after a step with Dwell 0: the step at `cursor` is due, behind the batches that wait (R122, R123). -/
def nextStepDue (s : State) (g : GroupNo) (tr : Track) (cursor : TrackIx) : State :=
  { changeGroup s g (fun l => { l with wave := none, track := some { tr with cursor := cursor, dwell := some 0 } }) with
    internalBatches := s.internalBatches.filter (fun b => batchGroup b != g) ++ [.step g] }

theorem nextCursor_eq {c d : TrackIx} (h : d.val = c.val + 1) : nextCursor c = d := by
  have hd : c.val + 1 < 128 := h ▸ d.isLt
  rw [nextCursor, dif_pos hd]
  exact Fin.ext h.symm

/-- A step with Dwell 0 has the next one due at once (R122, R123). -/
theorem completeStep_of_zero (ht : (groupAt s g).live.track = some tr)
    (hlast : (s.trackPool.get tr.cursor).last = false) (hdwell : (s.trackPool.get tr.cursor).dwell = 0)
    {cursor : TrackIx} (hc : cursor.val = tr.cursor.val + 1) (seq : Byte) :
    completeStep s g tr seq = takeIfOldest (nextStepDue s g tr cursor) g := by
  rw [completeStep]
  refine (if_neg (ne_true_of_eq_false hlast)).trans ((if_pos hdwell).trans ?_)
  rw [makeStepDue_eq, withStepDue, changeGroup_cancelBatch, changeGroup_changeGroup, nextStepDue]
  rw [changeGroup_congr (k := fun l => { l with
    wave := none, track := some { tr with cursor := cursor, dwell := some 0 } }) (by simp [ht, nextCursor_eq hc])]
  rfl

/-! ## The step that is due (R123, R140) -/

/-- The step is the oldest batch when no batch of another group waits. -/
theorem head?_append_step_iff (l : List InternalBatch) (g : GroupNo) :
    (l.filter (fun b => batchGroup b != g) ++ [InternalBatch.step g]).head? = some (.step g) ↔
      l.filter (fun b => batchGroup b != g) = [] := by
  cases hl : l.filter (fun b => batchGroup b != g) with
  | nil => simp
  | cons b rest =>
    have hb : batchGroup b ≠ g := ((mem_cancelled l g b).1 (hl ▸ List.mem_cons_self)).2
    simp only [List.cons_append, List.head?_cons, Option.some.injEq, reduceCtorEq, iff_false]
    rintro rfl
    exact hb rfl

theorem takeIfOldest_of_oldest (hb : s.internalBatches = [.step g]) (hf : fitsBatch s g = true) :
    takeIfOldest s g = takeDueStep s g := by
  rw [takeIfOldest, if_pos ⟨by rw [hb]; rfl, hf⟩]

/-- TRACK_STEP takes the oldest batch, a due step that fits (R120, R140). -/
theorem exec_trackStep_of_oldest (hb : s.internalBatches = [.step g]) (hf : fitsBatch s g = true) :
    exec .trackStep s = .next (finish (takeDueStep s g)) := by
  have hexec : exec .trackStep s = execTrackStep s := rfl
  rw [hexec, execTrackStep, hb]
  exact if_pos hf

/-- The next step is taken in the same event exactly when no other batch waits and it fits (R123, R140). -/
theorem takeIfOldest_nextStepDue (s : State) (g : GroupNo) (tr : Track) (cursor : TrackIx) :
    let due := nextStepDue s g tr cursor
    let fits := s.internalBatches.filter (fun b => batchGroup b != g) = [] ∧
      s.motionQueue.length + (members s g).length ≤ 32
    (¬fits → takeIfOldest due g = due) ∧ (fits → exec .trackStep due = .next (finish (takeIfOldest due g))) := by
  intro due fits
  have hfits : fitsBatch due g = true ↔ s.motionQueue.length + (members s g).length ≤ 32 := fitsBatch_iff due g
  refine ⟨fun h => if_neg fun ⟨hoff, hf⟩ => h ⟨(head?_append_step_iff _ g).1 hoff, hfits.1 hf⟩,
    fun ⟨hnone, hroom⟩ => ?_⟩
  have hb : due.internalBatches = [.step g] := congrArg (· ++ [InternalBatch.step g]) hnone
  rw [takeIfOldest_of_oldest hb (hfits.2 hroom), exec_trackStep_of_oldest hb (hfits.2 hroom)]

/-- Settles O34: the arrival that every other member has preceded completes the move or the step, as R84 and R122 say. -/
theorem lastArrivalCompletes : Obligations.LastArrivalCompletes := by
  refine ⟨fun s g seq ht => ?_, fun s g seq tr ht => ?_⟩
  · intro complete
    have hexamine : examineArrival s g seq = if complete then completeGroup s g seq else s := by
      simp only [examineArrival_of_no_track ht, allArrived_iff, complete]
    refine ⟨fun h => hexamine.trans (if_neg h), fun h => ?_⟩
    rw [hexamine, if_pos h, completeGroup_eq]
    exact and_assoc.1 ⟨onlyGroup_of_changeGroup (fun l =>
      { l with state := .ready, cleanStreak := 0, wave := none }) rfl, rfl, rfl, rfl⟩
  · intro complete d left fits
    have hexamine : examineArrival s g seq = if complete then completeStep s g tr seq else s := by
      simp only [examineArrival_of_track ht, allArrived_iff, complete]
    refine ⟨fun h => hexamine.trans (if_neg h), fun h hlast => ?_, fun h hlast hdwell => ?_,
      fun h hlast hdwell cursor hc => ?_⟩
    · rw [hexamine, if_pos h, completeStep_of_last hlast]
      exact ⟨onlyGroup_of_changeGroup (fun l =>
        { l with state := .ready, cleanStreak := 0, wave := none, track := none }) rfl, rfl, rfl⟩
    · rw [hexamine, if_pos h, completeStep_of_dwell hlast hdwell]
      exact ⟨onlyGroup_of_changeGroup (fun l => { l with wave := none, track := some { tr with dwell := some d.dwell } }) rfl,
        rfl⟩
    · rw [hexamine, if_pos h, completeStep_of_zero ht hlast hdwell hc]
      exact takeIfOldest_nextStepDue s g tr cursor

end Sys2Proof.Machine
end


/-! # Sitting 5: the parts of a Group Check and its verdict -/
section

namespace Sys2Proof.Machine

/-! ## Shares (R105) -/

/-- Rounding each quotient down loses: the quotients sum to at most the quotient of the sum. -/
theorem sum_map_mul_div_le (c t : Nat) (l : List Nat) : (l.map fun x => x * c / t).sum ≤ l.sum * c / t := by
  induction l with
  | nil => simp
  | cons x xs ih =>
    simp only [List.map_cons, List.sum_cons]
    calc x * c / t + (xs.map fun x => x * c / t).sum
        ≤ x * c / t + xs.sum * c / t := Nat.add_le_add_left ih _
      _ ≤ (x * c + xs.sum * c) / t := Nat.div_add_div_le_add_div ..
      _ = (x + xs.sum) * c / t := by rw [Nat.add_mul]

/-- Shares of a positive total sum to at most 1024, and none is above it (R105). -/
theorem shares_le {loads : List Nat} (htotal : 1 ≤ loads.sum) :
    (loads.map fun l => l * 1024 / loads.sum).sum ≤ 1024 ∧ ∀ l ∈ loads, l * 1024 / loads.sum ≤ 1024 := by
  have hwhole : loads.sum * 1024 / loads.sum = 1024 := Nat.mul_div_cancel_left 1024 htotal
  exact ⟨(sum_map_mul_div_le 1024 loads.sum loads).trans_eq hwhole, fun l hl =>
    (Nat.div_le_div_right (Nat.mul_le_mul_right 1024 (List.le_sum_of_mem hl))).trans_eq hwhole⟩

/-! ## The member a part names (R108) -/

/-- `h` is the lowest slot of `hs` at which `f` is greatest (R108). -/
def IsFirstGreatest (f : Slot → Int) (hs : List Slot) (h : Slot) : Prop :=
  h ∈ hs ∧ (∀ m ∈ hs, f m ≤ f h) ∧ ∀ m ∈ hs, f m = f h → h ≤ m

/-- Of increasing slots the fold keeps the lowest one at the greatest value: a later slot displaces it only by a strictly
greater one. -/
theorem firstGreatest_cons_spec (f : Slot → Int) {h : Slot} {hs : List Slot} (hlt : (h :: hs).Pairwise (· < ·)) :
    ∃ b, firstGreatest f (h :: hs) = some b ∧ IsFirstGreatest f (h :: hs) b := by
  induction hs generalizing h with
  | nil => exact ⟨h, rfl, by simp [IsFirstGreatest]⟩
  | cons x xs ih =>
    obtain ⟨hhead, htail⟩ := List.pairwise_cons.1 hlt
    obtain ⟨hhx, hhxs⟩ := List.forall_mem_cons.1 hhead
    by_cases hfx : f h < f x
    · obtain ⟨b, hb, hmem, hmax, hfirst⟩ := ih htail
      have hfb : f h < f b := hfx.trans_le (hmax x List.mem_cons_self)
      refine ⟨b, ?_, List.mem_cons_of_mem h hmem, List.forall_mem_cons.2 ⟨hfb.le, hmax⟩,
        List.forall_mem_cons.2 ⟨fun e => absurd e hfb.ne, hfirst⟩⟩
      rw [← hb]
      simp [firstGreatest, hfx]
    · obtain ⟨b, hb, hmem, hmax, hfirst⟩ := ih (List.pairwise_cons.2 ⟨hhxs, (List.pairwise_cons.1 htail).2⟩)
      obtain ⟨hmaxh, hmaxs⟩ := List.forall_mem_cons.1 hmax
      obtain ⟨hfirsth, hfirsts⟩ := List.forall_mem_cons.1 hfirst
      have hfxh : f x ≤ f h := not_lt.1 hfx
      have hbx : f x = f b → b ≤ x := fun e => (hfirsth (hmaxh.antisymm (e.symm.le.trans hfxh))).trans hhx.le
      refine ⟨b, ?_, ?_, List.forall_mem_cons.2 ⟨hmaxh, List.forall_mem_cons.2 ⟨hfxh.trans hmaxh, hmaxs⟩⟩,
        List.forall_mem_cons.2 ⟨hfirsth, List.forall_mem_cons.2 ⟨hbx, hfirsts⟩⟩⟩
      · rw [← hb]
        simp [firstGreatest, hfx]
      · exact (List.sublist_cons_self x xs).cons_cons h |>.subset hmem

/-- The slot named is a member at the greatest value, and the lowest such slot; `value` is what the model's `f` comes to on the
members (R108). -/
theorem firstGreatest_of_isGreatest {f value : Slot → Int} {hs : List Slot} {top : Int} (hlt : hs.Pairwise (· < ·))
    (hvalue : ∀ h ∈ hs, f h = value h) (htop : IsGreatestOf top (hs.map value)) :
    ∃ h ∈ hs, firstGreatest f hs = some h ∧ value h = top ∧ ∀ m ∈ hs, value m = top → h ≤ m := by
  obtain ⟨hmem, hle⟩ := htop
  obtain ⟨m, hm, hvm⟩ := List.mem_map.1 hmem
  cases hs with
  | nil => exact absurd hm List.not_mem_nil
  | cons x xs =>
    obtain ⟨b, hb, hbmem, hmax, hfirst⟩ := firstGreatest_cons_spec f hlt
    have hmb : value m ≤ value b := (hvalue m hm).symm.trans_le ((hmax m hm).trans_eq (hvalue b hbmem))
    have hvb : value b = top := (hle _ (List.mem_map_of_mem hbmem)).antisymm (hvm.symm.trans_le hmb)
    exact ⟨b, hbmem, hb, hvb, fun k hk hvk =>
      hfirst k hk ((hvalue k hk).trans (hvk.trans (hvb.symm.trans (hvalue b hbmem).symm)))⟩

/-- Members are listed in increasing slot order (R7). -/
theorem pairwise_lt_members (s : State) (g : GroupNo) : (members s g).Pairwise (· < ·) :=
  (List.pairwise_lt_finRange 64).filter _

/-! ## Dmax (R105, R106) -/

/-- The fold that works out Dmax gives the greatest of the deviations, which are at least its start 0. -/
theorem isGreatestOf_foldl_max {xs : List Nat} (hne : xs ≠ []) :
    IsGreatestOf (xs.foldl max 0 : Nat) (xs.map fun (x : Nat) => (x : Int)) := by
  have hmax : (0 :: xs).max? = some (xs.foldl max 0) := List.max?_cons'
  obtain ⟨hmem, hle⟩ := List.max?_eq_some_iff.1 hmax
  obtain ⟨-, hles⟩ := List.forall_mem_cons.1 hle
  have hin : xs.foldl max 0 ∈ xs := by
    rcases List.mem_cons.1 hmem with hzero | hin
    · obtain ⟨x, hx⟩ := List.exists_mem_of_ne_nil xs hne
      have hx0 : x = xs.foldl max 0 := by have := hles x hx; omega
      exact hx0 ▸ hx
    · exact hin
  exact ⟨List.mem_map_of_mem hin, List.forall_mem_map.2 fun x hx => Int.ofNat_le.2 (hles x hx)⟩

section
variable {s : State} {g : GroupNo} {load : Slot → Nat}

theorem totalLoad_eq (hload : ∀ h ∈ members s g, (liveAt s h).load = some (load h)) :
    totalLoad s g = ((members s g).map load).sum := by
  rw [totalLoad, List.map_congr_left fun h hh => by rw [hload h hh, stored, Option.getD_some]]

/-- The deviation is the distance of the share from the Weight, whichever is greater (R106). -/
theorem deviationOf_eq {h : Slot} (hload : (liveAt s h).load = some (load h)) (total : Nat) :
    (deviationOf s total h : Int) =
      max (((load h * 1024 / total : Nat) : Int) - (cfgAt s h).weight)
        ((cfgAt s h).weight - ((load h * 1024 / total : Nat) : Int)) := by
  simp only [deviationOf, shareOf, hload, stored, Option.getD_some]
  omega

/-- Shares are computed at a total of at least the Share Floor and at least 1, and Dmax is then the greatest deviation
(R105, R106). -/
theorem dmaxOf_of_computed (hne : members s g ≠ [])
    (hc : (groupAt s g).cfg.shareFloor ≤ totalLoad s g ∧ 1 ≤ totalLoad s g) :
    ∃ d : Nat, dmaxOf s g = some d ∧
      IsGreatestOf d ((members s g).map fun h => (deviationOf s (totalLoad s g) h : Int)) := by
  have hgreatest := isGreatestOf_foldl_max (xs := (members s g).map (deviationOf s (totalLoad s g)))
    (mt List.map_eq_nil_iff.1 hne)
  rw [List.map_map] at hgreatest
  exact ⟨_, by simp [dmaxOf, hc], hgreatest⟩

theorem dmaxOf_of_not_computed (hc : ¬((groupAt s g).cfg.shareFloor ≤ totalLoad s g ∧ 1 ≤ totalLoad s g)) :
    dmaxOf s g = none := by
  simpa [dmaxOf] using hc

end

/-! ## The worse of two parts (R107) -/

theorem worse_trip (a : Verdict) : worse a .trip = .trip := by
  cases a <;> rfl

/-- With shares computed TRIP comes before HOLD, HOLD before a WARN of either part (R104, R106, R107). -/
theorem worse_skewPart_sharePart (k : GroupConfig) (skew d : Nat) :
    worse (skewPart k skew) (sharePart k (some d)) =
      if k.shareTolerance < d then .trip else if k.skewLimit < skew then .hold
      else if k.skewWarn < skew ∨ k.shareWarn < d then .warn else .clean := by
  by_cases htrip : k.shareTolerance < d
  · have hshare : sharePart k (some d) = .trip := if_pos htrip
    rw [hshare, if_pos htrip, worse_trip]
  · have hshare : sharePart k (some d) = if k.shareWarn < d then .warn else .clean := if_neg htrip
    rw [hshare, if_neg htrip, skewPart]
    by_cases hhold : k.skewLimit < skew
    · rw [if_pos hhold, if_pos hhold]
      split <;> rfl
    · rw [if_neg hhold, if_neg hhold]
      by_cases hskew : k.skewWarn < skew <;> by_cases hwarn : k.shareWarn < d <;>
        simp [hskew, hwarn, worse, verdictRank]

/-- With no shares computed the verdict is the skew part (R105, R107). -/
theorem worse_skewPart_none (k : GroupConfig) (skew : Nat) :
    worse (skewPart k skew) (sharePart k none) = skewPart k skew := by
  unfold skewPart
  split
  · rfl
  · split <;> rfl

/-- When the first of three tests that holds chooses the verdict, each verdict says how the tests came out. -/
theorem verdict_of_tests {trips holds warns : Prop} [Decidable trips] [Decidable holds] [Decidable warns] {v : Verdict}
    (hv : v = if trips then .trip else if holds then .hold else if warns then .warn else .clean) :
    (v = .trip ↔ trips) ∧ (v = .hold ↔ ¬trips ∧ holds) ∧ (v = .warn ↔ ¬trips ∧ ¬holds ∧ warns) ∧
      (v = .clean ↔ ¬trips ∧ ¬holds ∧ ¬warns) := by
  subst hv
  by_cases htrip : trips
  · simp [htrip]
  · by_cases hhold : holds
    · simp [htrip, hhold]
    · by_cases hwarn : warns <;> simp [htrip, hhold, hwarn]

/-- The verdicts of the skew part (R104). -/
theorem skewPart_iff (k : GroupConfig) (skew : Nat) :
    (skewPart k skew = .hold ↔ k.skewLimit < skew) ∧
    (skewPart k skew = .warn ↔ ¬k.skewLimit < skew ∧ k.skewWarn < skew) ∧
    (skewPart k skew = .clean ↔ ¬k.skewLimit < skew ∧ ¬k.skewWarn < skew) := by
  have htests : skewPart k skew = if False then .trip else if k.skewLimit < skew then .hold
      else if k.skewWarn < skew then .warn else .clean := (if_neg id).symm
  simpa only [not_false_eq_true, true_and] using (verdict_of_tests htests).2

/-- Settles O35: the verdict is read off its two parts, and the parts off the members' readings. -/
theorem verdictIsWorseOfParts : Obligations.VerdictIsWorseOfParts := by
  refine ⟨fun loads htotal => shares_le htotal, ?_⟩
  intro s g position load top bottom hread height htop hbottom k total deviation isNamed computed v
  have hposition := fun h hh => (hread h hh).1
  have hload := fun h hh => (hread h hh).2
  have htotal : totalLoad s g = total := totalLoad_eq hload
  have hskew : (v.skew : Int) = top - bottom := by
    have hnonneg : 0 ≤ top - bottom := Int.sub_nonneg.2 (htop.2 bottom hbottom.1)
    exact (congrArg Nat.cast (skewOf_eq hposition htop hbottom)).trans (Int.toNat_of_nonneg hnonneg)
  have hover : ∀ limit : Nat, (limit : Int) < top - bottom ↔ limit < v.skew := fun limit => by
    rw [← hskew, Int.ofNat_lt]
  have hheight : ∀ h ∈ members s g, normalised s h = height h := fun h hh => by
    rw [normalised, hposition h hh, stored, Option.getD_some]
  have hdeviation : ∀ h ∈ members s g, (deviationOf s (totalLoad s g) h : Int) = deviation h := fun h hh => by
    rw [htotal, deviationOf_eq (hload h hh)]
  have hne : members s g ≠ [] := fun hnil => by
    rw [hnil] at htop
    exact List.not_mem_nil htop.1
  refine ⟨hskew, firstGreatest_of_isGreatest (pairwise_lt_members s g) hheight htop, fun hc => ?_, fun hc => ?_⟩
  · obtain ⟨d, hd, hgreatest⟩ := dmaxOf_of_computed hne (htotal.symm ▸ hc)
    rw [List.map_congr_left hdeviation] at hgreatest
    have hverdict : v.verdict = worse (skewPart k v.skew) (sharePart k (some d)) :=
      congrArg (fun o => worse (skewPart k v.skew) (sharePart k o)) hd
    obtain ⟨htrip, hhold, hwarn, hclean⟩ := verdict_of_tests (hverdict.trans (worse_skewPart_sharePart k v.skew d))
    simp only [hover]
    exact ⟨d, hd, hgreatest, firstGreatest_of_isGreatest (pairwise_lt_members s g) hdeviation hgreatest,
      htrip, hhold, hwarn, by simpa [not_or] using hclean⟩
  · have hd : dmaxOf s g = none := dmaxOf_of_not_computed (htotal.symm ▸ hc)
    have hverdict : v.verdict = skewPart k v.skew :=
      (congrArg (fun o => worse (skewPart k v.skew) (sharePart k o)) hd).trans (worse_skewPart_none k v.skew)
    simp only [hover]
    rw [hverdict]
    exact ⟨hd, skewPart_iff k v.skew⟩

end Sys2Proof.Machine
end


/-! # Sitting 6: the expiries of the counts -/
section

namespace Sys2Proof.Machine

variable {s : State} {g : GroupNo} {h : Slot}

/-! ## When a count reaches its limit (R123, R149, R153, R157) -/

theorem staleDue_iff (s : State) (h : Slot) :
    staleDue s h = true ↔ (cfgAt s h).present = true ∧ (liveAt s h).sampleAge + 1 = s.line.ageLimit := by
  simp [staleDue]

theorem pollDue_iff (s : State) (h : Slot) :
    pollDue s h = true ↔ ∃ n, s.pollTimers.get h = some n ∧ s.line.pollTimeout ≤ n + 1 := by
  simp [pollDue, Option.any_eq_true]

theorem dwellDue_iff (s : State) (g : GroupNo) :
    dwellDue s g = true ↔ ∃ tr, (groupAt s g).live.track = some tr ∧ tr.dwell = some 1 := by
  simp [dwellDue, Option.bind_eq_some_iff]

theorem silenceDue_iff (s : State) :
    silenceDue s = true ↔ s.silence.state = .running ∧ s.line.silenceLimit ≤ s.silence.count + 1 := by
  simp [silenceDue]

/-! ## The commands of the expiries -/

theorem namedSlot_of_le {n : Nat} (hn : 64 ≤ n) : namedSlot n = none := dif_neg (by omega)

theorem namedGroup_of_le {n : Nat} (hn : 16 ≤ n) : namedGroup n = none := dif_neg (by omega)

/-- A group's own number names it (R73). -/
@[simp] theorem namedGroup_val (g : GroupNo) : namedGroup g.val = some g := dif_pos g.isLt

theorem exec_pollTimeout_of_le {n : Nat} (hn : 64 ≤ n) (s : State) :
    exec (.pollTimeout n) s = .fault (.noSuchSlot n) := by
  simp [exec, execPollTimeout, namedSlot_of_le hn]

theorem exec_dwellExpiry_of_le {n : Nat} (hn : 16 ≤ n) (s : State) :
    exec (.dwellExpiry n) s = .fault (.noSuchGroup n) := by
  simp [exec, execDwellExpiry, namedGroup_of_le hn]

theorem exec_pollTimeout (s : State) (h : Slot) :
    exec (.pollTimeout h.val) s = if pollDue s h then .next (finish (endPollTimer s h)) else .next s := by
  simp [exec, execPollTimeout]

theorem exec_dwellExpiry (s : State) (g : GroupNo) :
    exec (.dwellExpiry g.val) s = if dwellDue s g then .next (finish (makeStepDue s g)) else .next s := by
  simp [exec, execDwellExpiry]

theorem exec_silenceTimerExpiry (s : State) :
    exec .silenceTimerExpiry s =
      if silenceDue s then .next (finish (afterSilence (reachSilenceLimit s))) else .next s := by
  rw [← silenceExpire_eq_afterSilence]
  rfl

/-! ## The step after a dwell (R123, R140) -/

/-- The step at the cursor after the present one is due, behind the batches that wait (R123). -/
theorem withStepDue_eq {tr : Track} {next : TrackIx} (ht : (groupAt s g).live.track = some tr)
    (hnext : next.val = tr.cursor.val + 1) :
    withStepDue s g =
      { changeGroup s g (fun l => { l with track := some { tr with cursor := next, dwell := some 0 } }) with
        internalBatches := s.internalBatches ++ [.step g] } := by
  rw [withStepDue, changeGroup_congr (k := fun l => { l with
    track := some { tr with cursor := next, dwell := some 0 } }) (by simp [ht, nextCursor_eq hnext])]

/-- The step waits while another batch is older or its own does not fit (R140). -/
theorem takeIfOldest_withStepDue_of_waits
    (hwaits : s.internalBatches ≠ [] ∨ 32 < s.motionQueue.length + (members s g).length)
    (hhead : s.internalBatches.head? ≠ some (.step g)) : takeIfOldest (withStepDue s g) g = withStepDue s g := by
  refine if_neg fun ⟨hoff, hf⟩ => ?_
  have hfits : s.motionQueue.length + (members s g).length ≤ 32 := (fitsBatch_iff (withStepDue s g) g).1 hf
  rcases hwaits with hne | hfull
  · exact hhead (by rwa [withStepDue, List.head?_append_of_ne_nil _ hne] at hoff)
  · omega

/-- The step is taken in the same event when no other batch waits and it fits (R123, R140). -/
theorem exec_trackStep_withStepDue (hnone : s.internalBatches = [])
    (hroom : s.motionQueue.length + (members s g).length ≤ 32) :
    exec .trackStep (withStepDue s g) = .next (finish (takeIfOldest (withStepDue s g) g)) := by
  have hb : (withStepDue s g).internalBatches = [.step g] := congrArg (· ++ [InternalBatch.step g]) hnone
  have hf : fitsBatch (withStepDue s g) g = true := (fitsBatch_iff (withStepDue s g) g).2 hroom
  rw [takeIfOldest_of_oldest hb hf, exec_trackStep_of_oldest hb hf]

/-- Settles O60: each command is its count's last step and nothing otherwise, and the step after a dwell is taken at once
when it is the only batch and fits. -/
theorem countsExpire : Obligations.CountsExpire := by
  intro s
  refine ⟨fun n hn => exec_pollTimeout_of_le hn s, fun n hn => exec_dwellExpiry_of_le hn s, fun h hno => ?_,
    fun h n htimer hlimit => ?_, fun hno => ?_, fun hrun hlimit => ?_, fun g hno => ?_, fun g tr next ht hdwell hnext => ?_⟩
  · have hdue : ¬pollDue s h = true := fun hd => by
      obtain ⟨n, hn, hlimit⟩ := (pollDue_iff s h).1 hd
      have := hno n hn
      omega
    rw [exec_pollTimeout, if_neg hdue]
  · rw [exec_pollTimeout, if_pos ((pollDue_iff s h).2 ⟨n, htimer, hlimit⟩)]
    rfl
  · have hdue : ¬silenceDue s = true := fun hd => by
      obtain ⟨hrun, hlimit⟩ := (silenceDue_iff s).1 hd
      rcases hno with hno | hno
      · exact hno hrun
      · omega
    rw [exec_silenceTimerExpiry, if_neg hdue]
  · rw [exec_silenceTimerExpiry, if_pos ((silenceDue_iff s).2 ⟨hrun, hlimit⟩)]
    rfl
  · have hdue : ¬dwellDue s g = true := fun hd => by
      obtain ⟨tr, ht, hone⟩ := (dwellDue_iff s g).1 hd
      exact hno tr ht hone
    rw [exec_dwellExpiry, if_neg hdue]
  · intro due
    have hdue : due = withStepDue s g := (withStepDue_eq ht hnext).symm
    rw [exec_dwellExpiry, if_pos ((dwellDue_iff s g).2 ⟨tr, ht, hdwell⟩), makeStepDue_eq, hdue]
    exact ⟨fun hwaits hhead => by rw [takeIfOldest_withStepDue_of_waits hwaits hhead],
      fun hnone hroom => (exec_trackStep_withStepDue hnone hroom).symm⟩

end Sys2Proof.Machine
end


/-! # Sitting 6: a millisecond of the Line Clock -/
section

namespace Sys2Proof.Machine

/-! ## The commands of the expiries of a millisecond (R146) -/

/-- The command that takes an expiry as an event of its own. -/
def expiryCommand : Expiry → Instr
  | .stale h => .staleExpiry h.val
  | .pollTimeout h => .pollTimeout h.val
  | .dwell g => .dwellExpiry g.val
  | .silence => .silenceTimerExpiry

theorem runExpiry_eq (s : State) (x : Expiry) : runExpiry s x = nextOr s (exec (expiryCommand x) s) := by
  cases x <;> rfl

theorem expiryCommand_injective : Function.Injective expiryCommand := by
  intro x y hxy
  cases x <;> cases y
  case stale.stale | pollTimeout.pollTimeout | dwell.dwell => exact congrArg _ (Fin.ext (by injection hxy))
  case silence.silence => rfl
  all_goals cases hxy

/-- The expiries of a millisecond are the counts whose step is due, told by their commands. -/
theorem exists_expiryCommand_iff (s : State) (c : Instr) :
    (∃ x ∈ expiriesDue s, expiryCommand x = c) ↔
      (∃ h : Slot, c = .staleExpiry h.val ∧ staleDue s h = true) ∨
      (∃ h : Slot, c = .pollTimeout h.val ∧ pollDue s h = true) ∨
      (∃ g : GroupNo, c = .dwellExpiry g.val ∧ dwellDue s g = true) ∨
      (c = .silenceTimerExpiry ∧ silenceDue s = true) := by
  simp [expiriesDue, allSlots, allGroups, expiryCommand, or_and_right, exists_or, and_comm, eq_comm (a := c)]

theorem nodup_expiriesDue (s : State) : (expiriesDue s).Nodup := by
  have hslots : ∀ p : Slot → Bool, (allSlots.filter p).Nodup := fun p => (List.nodup_finRange 64).filter p
  have hgroups : (allGroups.filter (dwellDue s)).Nodup := (List.nodup_finRange 16).filter _
  have hstale := (hslots (staleDue s)).map (f := Expiry.stale) fun _ _ e => by cases e; rfl
  have hpoll := (hslots (pollDue s)).map (f := Expiry.pollTimeout) fun _ _ e => by cases e; rfl
  have hdwell := hgroups.map (f := Expiry.dwell) fun _ _ e => by cases e; rfl
  have hsilence : (if silenceDue s then [Expiry.silence] else []).Nodup := by split <;> simp
  simp only [expiriesDue, List.nodup_append, List.forall_mem_append, List.forall_mem_map]
  simp [hstale, hpoll, hdwell, hsilence]

/-! ## The order of the free ranks (log entry 3) -/

theorem rankInsert_perm (t : BitVec 32) (x : Expiry) (l : List Expiry) : (rankInsert t x l).Perm (x :: l) := by
  induction l with
  | nil => exact .refl _
  | cons y ys ih =>
    unfold rankInsert
    split
    · exact .refl _
    · exact (ih.cons y).trans (.swap x y ys)

theorem rankSort_perm (t : BitVec 32) (l : List Expiry) : (rankSort t l).Perm l := by
  induction l with
  | nil => exact .refl _
  | cons x xs ih => exact (rankInsert_perm t x _).trans (ih.cons x)

/-- The commands of the expiries of the coming millisecond, in the order in which they are taken. -/
def expiryOrder (s : State) : List Instr := (rankSort s.lineClock (expiriesDue s)).map expiryCommand

theorem nodup_expiryOrder (s : State) : (expiryOrder s).Nodup :=
  ((rankSort_perm _ _).nodup_iff.2 (nodup_expiriesDue s)).map expiryCommand_injective

theorem mem_expiryOrder_iff (s : State) (c : Instr) : c ∈ expiryOrder s ↔ ∃ x ∈ expiriesDue s, expiryCommand x = c := by
  simp [expiryOrder, (rankSort_perm _ _).mem_iff]

/-- A millisecond counts, and then executes the command of each expiry that is due (R146). -/
theorem tick_eq (s : State) : tick s = (expiryOrder s).foldl (fun v c => nextOr v (exec c v)) (stepCounts s) := by
  have hrun : runExpiry = fun v x => nextOr v (exec (expiryCommand x) v) := funext₂ runExpiry_eq
  rw [tick, hrun, expiryOrder, List.foldl_map]

/-! ## What a millisecond counts (R123, R146, R149, R153, R157) -/

theorem tickAge_eq (s : State) (h : Slot) :
    tickAge s h =
      if (cfgAt s h).present = true ∧ (liveAt s h).sampleAge + 1 ≠ s.line.ageLimit ∧ (liveAt s h).sampleAge < 65535
      then (liveAt s h).sampleAge + 1 else (liveAt s h).sampleAge := by
  refine if_congr ?_ rfl rfl
  cases hp : (cfgAt s h).present <;> simp [staleDue, hp]

theorem hoistAt_stepCounts (s : State) (h : Slot) :
    hoistAt (stepCounts s) h = { hoistAt s h with live := { liveAt s h with
      sampleAge :=
        if (cfgAt s h).present = true ∧ (liveAt s h).sampleAge + 1 ≠ s.line.ageLimit ∧ (liveAt s h).sampleAge < 65535
        then (liveAt s h).sampleAge + 1 else (liveAt s h).sampleAge } } := by
  rw [← tickAge_eq]
  exact Table.get_build _ h

theorem get_pollTimers_stepCounts (s : State) (h : Slot) :
    (stepCounts s).pollTimers.get h =
      (s.pollTimers.get h).map fun n => if n + 1 < s.line.pollTimeout then n + 1 else n := by
  refine (Table.get_build _ h).trans ?_
  cases ht : s.pollTimers.get h with
  | none => simp
  | some n =>
    by_cases hlimit : s.line.pollTimeout ≤ n + 1
    · simp [pollDue, ht, hlimit, Nat.not_lt.2 hlimit]
    · simp [pollDue, ht, hlimit, Nat.lt_of_not_le hlimit]

theorem groupAt_stepCounts (s : State) (g : GroupNo) :
    groupAt (stepCounts s) g = { groupAt s g with live := { (groupAt s g).live with
      track := (groupAt s g).live.track.map fun tr =>
        { tr with dwell := tr.dwell.map fun d => if 2 ≤ d then d - 1 else d } } } := Table.get_build _ g

theorem silence_stepCounts (s : State) :
    (stepCounts s).silence =
      if s.silence.state = .running ∧ s.silence.count + 1 < s.line.silenceLimit then
        { s.silence with count := s.silence.count + 1 } else s.silence := by
  refine if_congr (and_congr_right fun hrun => ?_) rfl rfl
  rw [silenceDue_iff]
  simp [hrun]

/-- A millisecond counts the clock, the ages, the poll timers, the dwells and the Silence Count alone (R146). -/
theorem stepCounts_frame (s : State) :
    { stepCounts s with lineClock := s.lineClock, hoists := s.hoists, pollTimers := s.pollTimers, groups := s.groups,
                        silence := s.silence } = s := rfl

/-- Settles O2: the counts step short of their limits, and the command of each count whose next step reaches its limit
stands once in the order of the free ranks. -/
theorem idleStepCountsOneMillisecond : Obligations.IdleStepCountsOneMillisecond := by
  intro s hidle dueNow
  have hstep : step s = .next (tick s) := by simp only [step, hidle]
  have hdue : ∀ c, c ∈ expiryOrder s ↔ dueNow c := fun c => by
    rw [mem_expiryOrder_iff, exists_expiryCommand_iff]
    simp only [staleDue_iff, pollDue_iff, dwellDue_iff, silenceDue_iff, exists_and_left, dueNow]
  rw [tick_eq] at hstep
  exact ⟨stepCounts s, expiryOrder s, nodup_expiryOrder s, hdue, hstep, rfl, hoistAt_stepCounts s,
    get_pollTimers_stepCounts s, groupAt_stepCounts s, silence_stepCounts s, stepCounts_frame s⟩

end Sys2Proof.Machine
end


/-! # Sitting 6: GO and track steps that are refused, and the due step -/
section

namespace Sys2Proof.Machine

variable {s : State} {g : GroupNo} {epoch : BitVec 16} {h : Slot} {before after : List Slot}

/-! ## The line checks that fail (R51) -/

theorem lineRefusal_of_disabled (hoff : s.motionEnable = false) (epoch : BitVec 16) :
    lineRefusal s epoch = some .lineDisabled := by
  simp [lineRefusal, hoff]

theorem lineRefusal_of_portMode (hon : s.motionEnable = true) (hmode : s.portMode ≠ .normal) (epoch : BitVec 16) :
    lineRefusal s epoch = some .portMode := by
  simp [lineRefusal, hon, hmode]

theorem lineRefusal_of_silent (hon : s.motionEnable = true) (hmode : s.portMode = .normal)
    (hepoch : epoch ≠ s.silence.epoch) : lineRefusal s epoch = some .lineSilent := by
  simp [lineRefusal, hon, hmode, hepoch]

/-! ## The member checks that fail, and the member they name (R87, R124) -/

theorem memberUnfit_iff (s : State) (h : Slot) :
    memberUnfit s h = true ↔ addrOfSlot s h = none ∨ (liveAt s h).state = .offline ∨ (liveAt s h).state = .tripped ∨
      (liveAt s h).loadCondition = .over := by
  simp [memberUnfit, or_assoc]

/-- A member that the statements call fit passes check 9 (R87). -/
theorem memberUnfit_of_fit (haddr : (addrOfSlot s h).isSome = true) (hmove : isMovable (liveAt s h).state = true)
    (hload : (liveAt s h).loadCondition ≠ .over) : memberUnfit s h = false := by
  obtain ⟨a, ha⟩ := Option.isSome_iff_exists.1 haddr
  exact memberUnfit_of_movable ha hmove hload

/-- The lowest-slot member that fails check 9 is the first in the members' order (R124). -/
theorem find?_memberUnfit (hsplit : members s g = before ++ h :: after)
    (hunfit : addrOfSlot s h = none ∨ (liveAt s h).state = .offline ∨ (liveAt s h).state = .tripped ∨
      (liveAt s h).loadCondition = .over)
    (hbefore : ∀ k ∈ before, (addrOfSlot s k).isSome = true ∧ isMovable (liveAt s k).state = true ∧
      (liveAt s k).loadCondition ≠ .over) : (members s g).find? (memberUnfit s) = some h := by
  refine List.find?_eq_some_iff_append.2 ⟨(memberUnfit_iff s h).2 hunfit, before, after, hsplit, fun k hk => ?_⟩
  obtain ⟨haddr, hmove, hload⟩ := hbefore k hk
  rw [memberUnfit_of_fit haddr hmove hload]
  rfl

theorem memberRefusal_of_find? (hfind : (members s g).find? (memberUnfit s) = some h) :
    memberRefusal s g = some .memberState :=
  if_pos (List.any_eq_true.2 ⟨h, List.mem_of_find?_eq_some hfind, List.find?_some hfind⟩)

theorem memberRefusal_of_range (hfit : MembersFit s g) (haddr : ∀ h ∈ members s g, (addrOfSlot s h).isSome = true)
    {lo hi : Int} (hspan : SpanOf s g lo hi) (hlt : hi < lo) : memberRefusal s g = some .groupRange := by
  have hnone : ¬(members s g).any (memberUnfit s) = true := fun hany => by
    obtain ⟨h, hm, hunfit⟩ := List.any_eq_true.1 hany
    obtain ⟨hmove, hload⟩ := hfit h hm
    rw [memberUnfit_of_fit (haddr h hm) hmove hload] at hunfit
    exact Bool.false_ne_true hunfit
  rw [memberRefusal, if_neg hnone, geometryLo_eq hspan, geometryHi_eq hspan, if_pos hlt]

theorem stepCulprit_memberState (hfind : (members s g).find? (memberUnfit s) = some h) :
    stepCulprit s g .memberState = some h := hfind

theorem stepCulprit_of_ne {r : Reason} (hr : r ≠ .memberState) : stepCulprit s g r = none := if_neg hr

/-! ## The checks of a step (R120) -/

theorem stepRefusal_of_line {r : Reason} (hr : lineRefusal s epoch = some r) : stepRefusal s g epoch = some r := by
  rw [stepRefusal, hr, Option.some_or]

/-- On an open line and in a group state that passes, the member checks answer (R120). -/
theorem stepRefusal_of_open (hline : LineOpen s epoch) (hstate : groupStateRefusal s g = none) :
    stepRefusal s g epoch = memberRefusal s g := by
  rw [stepRefusal, lineRefusal_of_open hline, hstate, Option.none_or, Option.none_or]

/-! ## The checks on a GO (R116, R118) -/

theorem chainUsable_iff (s : State) (g : GroupNo) :
    chainUsable s g = true ↔
      ∃ start, (groupAt s g).cfg.trackStart = some start ∧ ∃ j, start ≤ j ∧ (s.trackPool.get j).last = true := by
  unfold chainUsable
  cases hstart : (groupAt s g).cfg.trackStart with
  | none => simp
  | some start => simp

theorem goRefusal_of_line {r : Reason} (hr : lineRefusal s epoch = some r) : goRefusal s epoch g = some r := by
  rw [goRefusal, hr, Option.some_or]

/-- On an open line the group's state and then its chain answer (R118). -/
theorem goRefusal_of_open (hline : LineOpen s epoch) :
    goRefusal s epoch g =
      if (groupAt s g).live.state ≠ .ready then some .groupState
      else if ¬chainUsable s g = true then some .noTrack
      else none := by
  simp only [goRefusal, lineRefusal_of_open hline, Option.none_or, Bool.not_eq_true', Bool.not_eq_true]

/-! ## A GO at the Intake head is taken (R44, R48, R118, R119) -/

section

variable {f : Frame} {rest : List IntakeEntry}

theorem exec_go_taken (hhead : AtHead s f epoch rest) (hclass : classOf f = .go g)
    (hroom : RoomFor s (members s g).length) :
    exec .go s = .next (finish (gateGo { s with intake := rest } { frame := f, epoch := epoch } g)) := by
  refine takeHead_of_some hhead ?_
  have hroom' : headRoom { s with intake := rest } (members { s with intake := rest } g).length = true :=
    (headRoom_behind s rest _).2 hroom
  simp only [goTaken, hclass, hroom', if_true]

theorem gateGo_of_refused (hd : f.dest = 0xF000#16 + BitVec.ofNat 16 g.val) {r : Reason}
    (hr : goRefusal s epoch g = some r) :
    gateGo s { frame := f, epoch := epoch } g = refusedWith s none (some g) (reasonCode r) f.kind f.seq := by
  rw [← refuseFrame_of_group hd]
  simp [gateGo, hr]

/-- A first step that is refused raises TRACK_ERROR, with the Track Start descriptor (R119). -/
theorem gateGo_of_stepError {start : TrackIx} (hgo : goRefusal s epoch g = none)
    (hstart : (groupAt s g).cfg.trackStart = some start) {r : Reason} (hr : stepRefusal s g epoch = some r) :
    gateGo s { frame := f, epoch := epoch } g = raiseNotice s .trackError
      { hoist := stepCulprit s g r, group := some g, code := reasonCode r, detail := BitVec.ofNat 8 start.val,
        relatedSeq := f.seq } := by
  simp only [gateGo, hgo, hstart, startTrack, hr]
  rfl

end

/-- Settles O42: the frame is a GO with room, so it is taken, and the first check that fails answers it; the first step of
one that passes is answered by the member checks. -/
theorem goIsRefused : Obligations.GoIsRefused := by
  intro s f epoch rest g hhead hkind hpayload hdest hroom usable refusal stepError
  have htaken := exec_go_taken hhead (classOf_go hkind hpayload hdest) hroom
  have hrefused : ∀ r, goRefusal s epoch g = some r → refusal (reasonCode r) := fun r hr => by
    show exec .go s = _
    rw [htaken, gateGo_of_refused (s := { s with intake := rest }) hdest hr, hkind]
  refine ⟨fun hoff => hrefused .lineDisabled ?_, fun hon hmode => hrefused .portMode ?_,
    fun hon hmode hepoch => hrefused .lineSilent ?_, fun hline hst => hrefused .groupState ?_,
    fun hline hst hno => hrefused .noTrack ?_, fun hline hst husable start hstart => ?_⟩
  · exact goRefusal_of_line (lineRefusal_of_disabled hoff epoch)
  · exact goRefusal_of_line (lineRefusal_of_portMode hon hmode epoch)
  · exact goRefusal_of_line (lineRefusal_of_silent hon hmode hepoch)
  · rw [goRefusal_of_open hline, if_pos hst]
  · rw [goRefusal_of_open hline, if_neg (not_not.2 hst), if_pos (mt (chainUsable_iff s g).1 hno)]
  · have hgo : goRefusal s epoch g = none := by
      rw [goRefusal_of_open hline, if_neg (not_not.2 hst), if_neg (not_not.2 ((chainUsable_iff s g).2 husable))]
    have herror : ∀ r, memberRefusal s g = some r → stepError start (reasonCode r) (stepCulprit s g r) := fun r hr => by
      have hstep : stepRefusal s g epoch = some r :=
        (stepRefusal_of_open hline (groupStateRefusal_of_ready hst)).trans hr
      show exec .go s = _
      rw [htaken, gateGo_of_stepError (s := { s with intake := rest }) hgo hstart hstep]
      rfl
    refine ⟨fun h before after hsplit hunfit hbefore => ?_, fun hfit haddr lo hi hspan hlt => ?_⟩
    · have hfind := find?_memberUnfit hsplit hunfit hbefore
      rw [← stepCulprit_memberState hfind]
      exact herror .memberState (memberRefusal_of_find? hfind)
    · rw [← stepCulprit_of_ne (s := s) (g := g) (r := .groupRange) nofun]
      exact herror .groupRange (memberRefusal_of_range hfit haddr hspan hlt)

/-! ## A due step is taken (R120, R121, R123, R124) -/

theorem exec_trackStep {more : List InternalBatch} (hb : s.internalBatches = .step g :: more) :
    exec .trackStep s = if fitsBatch s g then .next (finish (takeDueStep s g)) else .next s := by
  simp only [exec, execTrackStep, hb]

section

variable {tr : Track}

theorem takeDueStep_of_passed (ht : (groupAt s g).live.track = some tr) (hr : stepRefusal s g tr.originEpoch = none) :
    takeDueStep s g = admitStep (cancelBatch s g) g tr := by
  have hr' : stepRefusal (cancelBatch s g) g tr.originEpoch = none := hr
  simp only [takeDueStep, ht, hr']

/-- A step that is refused admits a HOLD on its group and raises TRACK_ERROR (R124). -/
theorem takeDueStep_of_refused (ht : (groupAt s g).live.track = some tr) {r : Reason}
    (hr : stepRefusal s g tr.originEpoch = some r) :
    takeDueStep s g = raiseNotice
      (admitStop (cancelBatch s g) (partOrder .hold (.group g) (some .trackError) tr.originSeq (stepCulprit s g r)))
      .trackError
      { hoist := stepCulprit s g r, group := some g, code := reasonCode r, detail := BitVec.ofNat 8 tr.cursor.val,
        relatedSeq := tr.originSeq } := by
  have hr' : stepRefusal (cancelBatch s g) g tr.originEpoch = some r := hr
  simp only [takeDueStep, ht, hr']
  rfl

theorem inProgress_iff (l : GroupLive) : inProgress l = true ↔ l.state = .moving ∨ l.state = .slowed := by
  simp [inProgress]

theorem groupStateRefusal_of_inProgress (hrun : inProgress (groupAt s g).live = true) :
    groupStateRefusal s g = none := by
  rcases (inProgress_iff _).1 hrun with e | e <;> simp [groupStateRefusal, e]

/-- A grant leaves a group that moves in the state that it has (R93). -/
theorem enterState_grantedState_of_inProgress {l : GroupLive} (hrun : inProgress l = true) :
    enterState (grantedState l) l = l := by
  have hsame : grantedState l = l.state := by
    rcases (inProgress_iff l).1 hrun with e | e <;> simp [grantedState, e]
  rw [hsame, enterState, if_pos rfl]

/-- A step of a track that runs is granted at half the speed exactly in SLOWED (R89). -/
theorem isHalved_of_inProgress {l : GroupLive} (hrun : inProgress l = true) :
    isHalved l = true ↔ l.state = .slowed := by
  rcases (inProgress_iff l).1 hrun with e | e <;> simp [isHalved, e]

/-- The step of a group that moves leaves its state (R93, R121). -/
theorem onlyGroup_grantedStep_of_inProgress (hrun : inProgress (groupAt s g).live = true) (gr : GroupGrant)
    (tr : Track) :
    OnlyGroup s (grantedStep s g gr tr) g { groupAt s g with live := { (groupAt s g).live with
      grant := some gr, track := some { tr with dwell := none } } } := by
  have hgroup := groupAt_admitBatch (stepTag s) (ownPlan g gr)
  refine ⟨?_, fun k hk => ?_⟩
  · have hself := (hgroup g).trans (if_pos rfl)
    rw [grantedStep, groupAt_changeGroup_self, hself,
      enterState_grantedState_of_inProgress (l := (groupAt (stepTag s) g).live) hrun]
    rfl
  · rw [grantedStep, groupAt_changeGroup_of_ne _ hk]
    exact (hgroup k).trans (if_neg hk)

/-- What a due step that grants `gr` changes, once the pending batches of its group and its CLAMP are counted in
(R32, R33, R91 to R93, R121, R123). -/
theorem changes_of_dueStep {addr : Slot → LineAddr} (haddr : AddressedBy s g addr)
    (hrun : inProgress (groupAt s g).live = true) (gr : GroupGrant) (tr : Track) (target speed : Bool) {u : State}
    (hu : u = raiseClamp (grantedStep (cancelBatch s g) g gr tr) target speed 0x26#8 none (some g) tr.originSeq) :
    BatchGranted s u g (ownBatch s g addr gr) gr ∧
      u.internalBatches = s.internalBatches.filter (fun b => batchGroup b != g) ∧
      OnlyGroup s u g { groupAt s g with live := { (groupAt s g).live with
        grant := some gr, track := some { tr with dwell := none } } } ∧
      u.tagCounter = (if s.tagCounter = 255#8 then 128#8 else s.tagCounter + 1#8) ∧
      u.seqCounter = s.seqCounter + BitVec.ofNat 8 (members s g).length ∧
      u.notices = (afterClamp s target speed 0x26#8 none (some g) tr.originSeq).notices ∧
      { u with motionQueue := s.motionQueue, batchSerial := s.batchSerial, hoists := s.hoists, groups := s.groups,
               internalBatches := s.internalBatches, tagCounter := s.tagCounter, seqCounter := s.seqCounter,
               notices := s.notices } = s := by
  have hgranted : BatchGranted s (grantedStep (cancelBatch s g) g gr tr) g (ownBatch s g addr gr) gr :=
    batchGranted_admitBatch (s := stepTag (cancelBatch s g)) haddr
  have hseq : (grantedStep (cancelBatch s g) g gr tr).seqCounter = s.seqCounter + BitVec.ofNat 8 (members s g).length :=
    seqCounter_admitBatch (s := stepTag (cancelBatch s g)) haddr
  have hgroup := onlyGroup_grantedStep_of_inProgress (s := cancelBatch s g) hrun gr tr
  have hnotices := notices_raiseClamp (s := s) (t := grantedStep (cancelBatch s g) g gr tr) (grantedStep_line _ g gr tr)
    (grantedStep_notices _ g gr tr) (grantedStep_lineClock _ g gr tr) target speed 0x26#8 none (some g) tr.originSeq
  rw [raiseClamp_eq_with, hnotices] at hu
  subst hu
  exact ⟨hgranted, rfl, hgroup, rfl, hseq, rfl,
    congrArg (fun t : State => { t with internalBatches := s.internalBatches, notices := s.notices })
      (grantedStep_frame (cancelBatch s g) g gr tr)⟩

end

/-- Settles O44: a step that fits is answered by the first check that fails, and one that passes them all grants its batch
in the state that the group has. -/
theorem trackStepIsTaken : Obligations.TrackStepIsTaken := by
  intro s g more tr hb ht l d left fits failure
  refine ⟨fun hno => ?_, fun hfits => ?_⟩
  · rw [exec_trackStep hb, if_neg (mt (fitsBatch_iff s g).1 hno)]
  have hexec : exec .trackStep s = .next (finish (takeDueStep s g)) :=
    (exec_trackStep hb).trans (if_pos ((fitsBatch_iff s g).2 hfits))
  have hfails : ∀ r, stepRefusal s g tr.originEpoch = some r → failure (reasonCode r) (stepCulprit s g r) := fun r hr => by
    rw [takeDueStep_of_refused ht hr] at hexec
    exact hexec
  have hfails' : ∀ r, r ≠ .memberState → stepRefusal s g tr.originEpoch = some r → failure (reasonCode r) none :=
    fun r hne hr => stepCulprit_of_ne (s := s) (g := g) hne ▸ hfails r hr
  refine ⟨fun hoff => hfails' .lineDisabled nofun ?_, fun hon hmode => hfails' .portMode nofun ?_,
    fun hon hmode hepoch => hfails' .lineSilent nofun ?_, fun hline hrun => ?_⟩
  · exact stepRefusal_of_line (lineRefusal_of_disabled hoff _)
  · exact stepRefusal_of_line (lineRefusal_of_portMode hon hmode _)
  · exact stepRefusal_of_line (lineRefusal_of_silent hon hmode hepoch)
  have hstep : stepRefusal s g tr.originEpoch = memberRefusal s g :=
    stepRefusal_of_open hline (groupStateRefusal_of_inProgress hrun)
  refine ⟨fun h before after hsplit hunfit hbefore => ?_, fun hfit hmapped lo hi hspan => ⟨fun hlt => ?_,
    fun hle addr load vgrp haddr hslow => ?_⟩⟩
  · have hfind := find?_memberUnfit hsplit hunfit hbefore
    rw [← stepCulprit_memberState hfind]
    exact hfails .memberState (hstep.trans (memberRefusal_of_find? hfind))
  · exact hfails' .groupRange nofun (hstep.trans (memberRefusal_of_range hfit hmapped hspan hlt))
  · intro speed gr
    have hpasses : stepRefusal s g tr.originEpoch = none := hstep.trans (memberRefusal_of_fit haddr hfit hspan hle)
    have hbase : groupBase s g d.base = gr.base := groupBase_eq hspan d.base
    have hspeed : groupSpeed s g d.speed = gr.speed :=
      (groupSpeed_eq_ite hslow).trans (if_congr (isHalved_of_inProgress hrun) rfl rfl)
    rw [takeDueStep_of_passed ht hpasses] at hexec
    exact ⟨_, hexec, changes_of_dueStep haddr hrun gr tr (gr.base != (d.base : Int)) (gr.speed != d.speed)
      (admitStep_eq (cancelBatch s g) g tr gr hbase hspeed rfl)⟩

end Sys2Proof.Machine
end


/-! # Sitting 7: a sound Stop Lane and a latched Cause Record, operation by operation

`KeepsStops s t` says what every part of an event does to the Stop Lane (O8) and to a Cause Record that holds a cause (O13).
It is closed under composition. Only an admission, an emission and the clearing of the record touch these two fields; every
other operation has the relation because it leaves both alone. -/
section

namespace Sys2Proof.Machine

/-! ## The Stop Lane's order and Pending Lists (R128, R129) -/

/-- A lane in its order, each of its orders with a sound Pending List: `LaneSound` of the lane alone. -/
abbrev SoundLane (lane : List StopOrder) : Prop := HaltsFirst lane ∧ ∀ o ∈ lane, PendingListSound o

theorem soundLane_nil : SoundLane [] := ⟨.nil, nofun⟩

theorem SoundLane.sublist {l k : List StopOrder} (h : SoundLane l) (hk : k.Sublist l) : SoundLane k :=
  ⟨h.1.sublist hk, fun o ho => h.2 o (hk.subset ho)⟩

/-- The order of the lane reads the kinds alone. -/
theorem haltsFirst_congr {l k : List StopOrder} (h : l.map (·.kind) = k.map (·.kind)) : HaltsFirst l ↔ HaltsFirst k := by
  have hkinds : ∀ l : List StopOrder, HaltsFirst l ↔
      (l.map (·.kind)).Pairwise fun x y => ¬(x = .hold ∧ y = .halt) := fun l => by rw [HaltsFirst, List.pairwise_map]
  rw [hkinds, hkinds, h]

theorem pairwise_filter_allSlots (p : Slot → Bool) : (allSlots.filter p).Pairwise (· < ·) :=
  (List.pairwise_lt_finRange 64).filter p

/-- The slots that a scope names, in slot order, make a sound Pending List (R128, R131). -/
theorem pendingListSound_laneOrder (s : State) (o : StopIssue) : PendingListSound (laneOrder s o) := by
  unfold PendingListSound laneOrder
  cases o.scope with
  | hoist h => exact ⟨List.pairwise_singleton _ h, nofun⟩
  | group g => exact ⟨pairwise_filter_allSlots _, nofun⟩
  | all => exact ⟨.nil, fun _ => rfl⟩
  | raw a => exact ⟨.nil, fun _ => rfl⟩

/-- A merge keeps slot order, and adds no slot to an ALL or RAW order (R132). -/
theorem pendingListSound_mergedOrder (s : State) (o : StopIssue) {x : StopOrder} (hx : PendingListSound x) :
    PendingListSound (mergedOrder s o x) := by
  have hmerged : (mergeSlots x.pendingList (scopeSlots s o.scope)).Pairwise (· < ·) := pairwise_filter_allSlots _
  rw [mergedOrder_eq]
  by_cases hn : namesSlots x.scope = true
  · exact ⟨by rw [if_pos hn]; exact hmerged, fun hno => absurd hn (by rw [hno]; exact nofun)⟩
  · rw [if_neg hn]
    exact hx

/-- An order that enters keeps every HALT before every HOLD (R129). -/
theorem soundLane_enterLane {o : StopOrder} {lane : List StopOrder} (ho : PendingListSound o) (h : SoundLane lane) :
    SoundLane (enterLane o lane) := by
  refine ⟨?_, fun x hx => ?_⟩
  · cases hk : o.kind with
    | hold =>
      simp only [enterLane, hk]
      exact List.pairwise_append.2 ⟨h.1, List.pairwise_singleton _ o, fun x _ y hy => by
        rw [List.mem_singleton.1 hy, hk]
        exact nofun⟩
    | halt =>
      simp only [enterLane, hk]
      refine List.pairwise_append.2 ⟨h.1.filter _, List.pairwise_cons.2 ⟨fun y _ => by rw [hk]; exact nofun,
        h.1.filter _⟩, fun x hx y _ => ?_⟩
      have hhalt : x.kind = .halt := by simpa using (List.mem_filter.1 hx).2
      rw [hhalt]
      exact nofun
  · obtain rfl | hx := (mem_enterLane o x lane).1 hx
    · exact ho
    · exact h.2 x hx

theorem kinds_mergeLane (s : State) (o : StopIssue) (lane : List StopOrder) :
    (mergeLane s o lane).map (·.kind) = lane.map (·.kind) := by
  induction lane with
  | nil => rfl
  | cons x xs ih =>
    rw [mergeLane]
    split
    · simp [mergedOrder_eq]
    · simp [ih]

/-- The merge leaves each order at its place with its kind (R132). -/
theorem soundLane_mergeLane (s : State) (o : StopIssue) {lane : List StopOrder} (h : SoundLane lane) :
    SoundLane (mergeLane s o lane) := by
  refine ⟨(haltsFirst_congr (kinds_mergeLane s o lane)).2 h.1, ?_⟩
  obtain ⟨-, hlists⟩ := h
  induction lane with
  | nil => exact nofun
  | cons x xs ih =>
    obtain ⟨hx, hxs⟩ := List.forall_mem_cons.1 hlists
    rw [mergeLane]
    split
    · exact List.forall_mem_cons.2 ⟨pendingListSound_mergedOrder s o hx, hxs⟩
    · exact List.forall_mem_cons.2 ⟨hx, ih hxs⟩

theorem soundLane_laneAfter {s : State} {o : StopIssue} {lane : List StopOrder} (h : laneAfter s o = some lane)
    (hs : SoundLane s.lane) : SoundLane lane := by
  have hnew := pendingListSound_laneOrder s o
  obtain ⟨-, -, rfl⟩ | ⟨-, rfl⟩ | ⟨-, rfl⟩ | ⟨-, rfl⟩ := laneAfter_cases s o lane h
  · exact ⟨List.pairwise_singleton _ _, fun x hx => List.mem_singleton.1 hx ▸ hnew⟩
  · exact soundLane_mergeLane s o hs
  · exact soundLane_enterLane hnew (hs.sublist List.filter_sublist)
  · exact soundLane_enterLane hnew hs

/-- Steps 1 to 4 of R131 keep the lane sound, and a collapse leaves the HALT ALL alone in it (R133). -/
theorem soundLane_admitStop {s : State} (o : StopIssue) (hs : SoundLane s.lane) : SoundLane (admitStop s o).lane := by
  cases hl : laneAfter s o with
  | none =>
    rw [admitStop_eq_collapse hl, lane_collapse]
    exact ⟨List.pairwise_singleton _ _, fun x hx => List.mem_singleton.1 hx ▸ pendingListSound_laneOrder _ _⟩
  | some lane =>
    rw [lane_admitStop_of_some hl]
    exact soundLane_laneAfter hl hs

/-! ### Emission (R136) -/

theorem firstAddressed_sublist {s : State} {l left : List Slot} {a : LineAddr} (h : firstAddressed s l = some (a, left)) :
    left.Sublist l := by
  induction l with
  | nil => cases h
  | cons k ks ih =>
    rw [firstAddressed] at h
    split at h
    · cases h
      exact List.sublist_cons_self k left
    · exact (ih h).cons k

/-- The head leaves the lane, or keeps the slots behind the one it has sent to. -/
theorem soundLane_emitStop (s : State) {o : StopOrder} {rest : List StopOrder} (h : SoundLane (o :: rest)) :
    SoundLane (emitStop s o rest).2.lane := by
  have hrest : SoundLane rest := h.sublist (List.sublist_cons_self o rest)
  obtain ⟨hfirst, hlists⟩ := h
  obtain ⟨ho, -⟩ := List.forall_mem_cons.1 hlists
  unfold emitStop
  split
  · exact hrest
  · exact hrest
  all_goals
    next hscope =>
    split
    · exact hrest
    · next a left haddr =>
      show SoundLane (if left.isEmpty = true then rest else { o with pendingList := left } :: rest)
      split
      · exact hrest
      · refine ⟨(haltsFirst_congr (by rfl)).1 hfirst, List.forall_mem_cons.2 ⟨⟨?_, fun hno => ?_⟩, hrest.2⟩⟩
        · exact ho.1.sublist (firstAddressed_sublist haddr)
        · simp [hscope, namesSlots] at hno

/-! ## The relation -/

/-- A Cause Record that holds `r` has kept every field but Later Causes, which has only grown (R171). -/
def Latches (r : CauseRecord) (c : Option CauseRecord) : Prop :=
  ∃ later, c = some { r with later := later } ∧ ∀ x ∈ r.later, x ∈ later

theorem Latches.refl (r : CauseRecord) : Latches r (some r) := ⟨r.later, rfl, fun _ h => h⟩

/-- What every part of an event does to the Stop Lane and to a Cause Record that holds a cause, but for a clearing of the
record. -/
structure KeepsStops (s t : State) : Prop where
  lane : LaneSound s → LaneSound t
  cause : ∀ r, s.causeRecord = some r → Latches r t.causeRecord

/-- A change that leaves the lane and the Cause Record alone. -/
theorem KeepsStops.of_eq {s t : State} (hl : t.lane = s.lane) (hc : t.causeRecord = s.causeRecord) : KeepsStops s t where
  lane h := by rw [LaneSound, hl]; exact h
  cause r hr := by rw [hc, hr]; exact .refl r

theorem KeepsStops.refl (s : State) : KeepsStops s s := .of_eq rfl rfl

theorem KeepsStops.trans {s t u : State} (h1 : KeepsStops s t) (h2 : KeepsStops t u) : KeepsStops s u where
  lane := h2.lane ∘ h1.lane
  cause r hr := by
    obtain ⟨later, ht, hsub⟩ := h1.cause r hr
    obtain ⟨later', hu, hsub'⟩ := h2.cause _ ht
    exact ⟨later', hu, fun x hx => hsub' x (hsub x hx)⟩

theorem KeepsStops.foldl {α : Type} {f : State → α → State} (h : ∀ s x, KeepsStops s (f s x)) (l : List α) (s : State) :
    KeepsStops s (l.foldl f s) := by
  induction l generalizing s with
  | nil => exact .refl s
  | cons x xs ih => exact (h s x).trans (ih _)

/-! ## Admissions and notices -/

/-- Once the record holds a cause, an admission only joins Later Causes, the collapse included (R133, R171). -/
theorem latches_admitStop {s : State} {r : CauseRecord} (o : StopIssue) (hr : s.causeRecord = some r) :
    Latches r (admitStop s o).causeRecord := by
  obtain ⟨lane, -, he⟩ | ⟨-, he⟩ := admitStop_cases s o
  · rw [he, stopNotice_causeRecord]
    cases hc : o.cause with
    | none => rw [causeRecord_admissionEffects_of_none hc, hr]; exact .refl r
    | some c =>
      exact ⟨_, causeRecord_admissionEffects_of_latched hc hr, fun x hx => (mem_addCause c x r.later).2 (.inr hx)⟩
  · obtain ⟨later, hlater, hmem⟩ := causeRecord_collapse_of_latched o hr
    exact ⟨later, by rw [he]; exact hlater, fun x hx => (hmem x).2 (.inr (.inr hx))⟩

theorem keepsStops_admitStop (s : State) (o : StopIssue) : KeepsStops s (admitStop s o) :=
  ⟨soundLane_admitStop o, fun _ => latches_admitStop o⟩

theorem keepsStops_issueStop (s : State) (o : StopIssue) : KeepsStops s (issueStop s o) := keepsStops_admitStop s _

theorem keepsStops_issueHoistStop (s : State) (k : StopKind) (h : Slot) (c : CauseKind) (seq : Byte) :
    KeepsStops s (issueHoistStop s k h c seq) := keepsStops_issueStop s _

theorem keepsStops_raiseNotice (s : State) (src : NoticeSource) (p : NoticePayload) :
    KeepsStops s (raiseNotice s src p) := .of_eq (by simp) (by simp)

theorem keepsStops_raiseClamp (s : State) (a b : Bool) (d : Byte) (h : Option Slot) (g : Option GroupNo) (q : Byte) :
    KeepsStops s (raiseClamp s a b d h g q) := .of_eq (by simp) (by simp)

theorem keepsStops_refuseFrame (s : State) (f : Frame) (r : Reason) : KeepsStops s (refuseFrame s f r) :=
  keepsStops_raiseNotice s _ _

/-! ## The close of an event -/

theorem laneSound_selectOne {s t : State} {e : Option Entry} (h : selectOne s = some (e, t)) (hs : LaneSound s) :
    LaneSound t := by
  obtain ⟨o, rest, hl, he⟩ | ⟨m, ms, -, -, rfl⟩ | ⟨p, ps, -, -, rfl⟩ := selectOne_cases h
  · have ht : t = (emitStop s o rest).2 := congrArg Prod.snd he
    rw [LaneSound, hl] at hs
    rw [ht]
    exact soundLane_emitStop s hs
  · exact hs
  · exact hs

theorem laneSound_fillNext (fuel : Nat) {s : State} (hs : LaneSound s) : LaneSound (fillNext fuel s) := by
  induction fuel generalizing s with
  | zero => exact hs
  | succ n ih =>
    unfold fillNext
    split
    · exact hs
    · split
      · exact hs
      · next t h => exact ih (laneSound_selectOne h hs)
      · next e t h =>
        have ht := laneSound_selectOne h hs
        split
        · rw [discardFrame_frame]
          exact ih ht
        · exact ht

/-- The two transmitters only take from the lane, and do not read the Cause Record. -/
theorem keepsStops_finish (s : State) : KeepsStops s (finish s) where
  lane hs := by
    have hadvance : ∀ u : State, (advance u).lane = u.lane := fun u => by
      unfold advance
      split
      · rw [startPollTimer_frame]
      · rfl
      · rfl
    unfold finish
    rw [arbitrate_frame]
    refine laneSound_fillNext _ ?_
    rw [LaneSound, hadvance]
    exact laneSound_fillNext _ hs
  cause r hr := by
    have hframe : (finish s).causeRecord = s.causeRecord := (congrArg State.causeRecord (transmits_finish s).frame :)
    rw [hframe, hr]
    exact .refl r

end Sys2Proof.Machine
end

/-! # Sitting 7: every step keeps the Stop Lane sound and the first cause latched -/
section

namespace Sys2Proof.Machine

/-! ## Batches, track steps and completion -/

theorem keepsStops_admitWave (s : State) (g : GroupNo) : KeepsStops s (admitWave s g) := by
  unfold admitWave
  split <;> exact .of_eq rfl rfl

theorem keepsStops_admitStep (s : State) (g : GroupNo) (tr : Track) : KeepsStops s (admitStep s g tr) :=
  .of_eq (raiseClamp_lane _ _ _ _ _ _ _) (raiseClamp_causeRecord _ _ _ _ _ _ _)

theorem keepsStops_takeDueStep (s : State) (g : GroupNo) : KeepsStops s (takeDueStep s g) := by
  have hcancel : KeepsStops s (cancelBatch s g) := .of_eq rfl rfl
  unfold takeDueStep
  split
  · exact hcancel
  · dsimp only
    split
    · exact hcancel.trans (keepsStops_admitStep _ _ _)
    · exact hcancel.trans ((keepsStops_admitStop _ _).trans (keepsStops_raiseNotice _ _ _))

theorem keepsStops_makeStepDue (s : State) (g : GroupNo) : KeepsStops s (makeStepDue s g) := by
  have hlive : ∀ f, KeepsStops s (changeGroup s g f) := fun _ => .of_eq rfl rfl
  have hbatches : ∀ u l, KeepsStops u { u with internalBatches := l } := fun _ _ => .of_eq rfl rfl
  have htake : ∀ u, KeepsStops u (takeIfOldest u g) := fun u => by
    unfold takeIfOldest
    split
    · exact keepsStops_takeDueStep u g
    · exact .refl u
  exact (hlive _).trans ((hbatches _ _).trans (htake _))

theorem keepsStops_examineArrival (s : State) (g : GroupNo) (seq : Byte) : KeepsStops s (examineArrival s g seq) := by
  have hdiscard : ∀ f, KeepsStops s (cancelBatch (changeGroup s g f) g) := fun _ => .of_eq rfl rfl
  have hlive : ∀ u f, KeepsStops u (changeGroup u g f) := fun _ _ => .of_eq rfl rfl
  unfold examineArrival
  split
  · split
    · exact (hdiscard _).trans (keepsStops_raiseNotice _ _ _)
    · exact .refl s
  · split
    · refine (hdiscard fun l => { l with wave := none }).trans ?_
      unfold completeStep
      dsimp only
      split
      · exact (hlive _ _).trans (keepsStops_raiseNotice _ _ _)
      · split
        · exact keepsStops_makeStepDue _ g
        · exact hlive _ _
    · exact .refl s

/-! ## The Group Check -/

theorem keepsStops_verdictEffect (s : State) (g : GroupNo) (v : Evaluation) (seq : Byte) :
    KeepsStops s (verdictEffect s g v seq) := by
  have hwarn : ∀ u, KeepsStops u (warnEffect u g) := fun u => by
    unfold warnEffect
    dsimp only
    repeat' split
    all_goals exact .of_eq rfl rfl
  have hclean : KeepsStops s (cleanEffect s g) := by
    unfold cleanEffect
    dsimp only
    repeat' split
    all_goals exact .of_eq rfl rfl
  unfold verdictEffect
  split
  · exact keepsStops_admitStop _ _
  · split
    · exact .refl s
    · exact keepsStops_admitStop _ _
  · exact (keepsStops_raiseNotice _ _ _).trans (hwarn _)
  · exact hclean
  · exact .refl s

theorem keepsStops_examineRound (s : State) (h : Slot) (seq : Byte) : KeepsStops s (examineRound s h seq) := by
  have hstore : ∀ g v, KeepsStops s (storeEvaluation s g v) := fun _ _ => .of_eq rfl rfl
  unfold examineRound
  split
  · exact .refl s
  · split
    · exact (hstore _ _).trans (keepsStops_verdictEffect _ _ _ _)
    · exact .refl s

/-! ## The application of a SAMPLE -/

theorem keepsStops_setHoistState (s : State) (h : Slot) (st : HoistState) : KeepsStops s (setHoistState s h st) :=
  .of_eq rfl rfl

theorem keepsStops_arrivalRule (s : State) (h : Slot) (r : Reading) : KeepsStops s (arrivalRule s h r) := by
  have hready : ∀ f, KeepsStops s (changeLive s h f) := fun _ => .of_eq rfl rfl
  unfold arrivalRule
  split
  · exact .refl s
  · split
    · exact .refl s
    · split
      · unfold arrive
        dsimp only
        split
        · exact (hready _).trans (keepsStops_examineArrival _ _ _)
        · exact hready _
      · unfold missArrival
        split
        · exact keepsStops_issueHoistStop _ _ _ _ _
        · exact (keepsStops_setHoistState _ _ _).trans (keepsStops_raiseNotice _ _ _)

theorem keepsStops_uncommandedRule (s : State) (h : Slot) (seq : Byte) : KeepsStops s (uncommandedRule s h seq) := by
  unfold uncommandedRule
  split
  · exact keepsStops_issueHoistStop _ _ _ _ _
  · exact .refl s

theorem keepsStops_driveStateRule (s : State) (h : Slot) (r : Reading) (d : DriveState) :
    KeepsStops s (driveStateRule s h r d) := by
  unfold driveStateRule
  split
  any_goals exact .refl s
  any_goals exact keepsStops_issueHoistStop _ _ _ _ _
  any_goals exact keepsStops_setHoistState _ _ _
  any_goals exact keepsStops_uncommandedRule _ _ _
  · exact keepsStops_arrivalRule _ _ _
  · exact (keepsStops_setHoistState _ _ _).trans (keepsStops_uncommandedRule _ _ _)

theorem keepsStops_loadRule (s : State) (h : Slot) (r : Reading) : KeepsStops s (loadRule s h r) := by
  have hcondition : ∀ f, KeepsStops s (changeLive s h f) := fun _ => .of_eq rfl rfl
  unfold loadRule
  dsimp only
  split
  · exact (hcondition _).trans (keepsStops_issueHoistStop _ _ _ _ _)
  · exact hcondition _

theorem keepsStops_applySample (s : State) (h : Slot) (r : Reading) : KeepsStops s (applySample s h r) := by
  have hstore : KeepsStops s (storeReading s h r) := .of_eq rfl rfl
  have hrules : ∀ u, KeepsStops u (stateAndLoad u h r) := fun u => by
    unfold stateAndLoad
    split
    · exact (keepsStops_driveStateRule _ _ _ _).trans (keepsStops_loadRule _ _ _)
    · exact keepsStops_driveStateRule _ _ _ _
  exact hstore.trans ((hrules _).trans (keepsStops_examineRound _ _ _))

/-! ## Filters and arrivals -/

theorem keepsStops_filterBank (s : State) (f : Frame) (d : Direction) : KeepsStops s (filterBank s f d) := by
  have hstop : ∀ hits u i, KeepsStops u (filterStop f d hits u i) := fun hits u i => by
    unfold filterStop
    dsimp only
    split
    · exact .refl u
    · exact keepsStops_admitStop _ _
  have hnotice : ∀ u hits, KeepsStops u (filterNotice u f d hits) := fun u hits => by
    unfold filterNotice
    split
    · exact .refl u
    · exact keepsStops_raiseNotice _ _ _
  exact (KeepsStops.foldl (hstop (hitSet s f d)) (hitSet s f d) s).trans (hnotice _ _)

theorem keepsStops_takeDownstream (s : State) (f : Frame) : KeepsStops s (takeDownstream s f) := by
  have hreload : KeepsStops s (reloadSilence s f) := .of_eq rfl rfl
  have hoffer : ∀ u, KeepsStops u (offerIntake u f) := fun u => by
    unfold offerIntake
    split
    · exact .of_eq rfl rfl
    · exact keepsStops_raiseNotice _ _ _
  have hclassify : ∀ u, KeepsStops u (classify u f) := fun u => by
    unfold classify
    split
    · exact keepsStops_issueStop _ _
    · exact keepsStops_refuseFrame _ _ _
    · exact .refl u
    all_goals exact hoffer u
  have hbank := hreload.trans (keepsStops_filterBank (reloadSilence s f) f .down)
  unfold takeDownstream
  dsimp only
  split
  · exact hbank
  · exact hbank.trans (hclassify _)

theorem keepsStops_sampleMonitor (s : State) (f : Frame) : KeepsStops s (sampleMonitor s f) := by
  unfold sampleMonitor
  split
  · exact .refl s
  · split
    · exact keepsStops_refuseFrame _ _ _
    · split
      · split
        · exact keepsStops_applySample _ _ _
        · exact .refl s
      · exact .refl s

theorem keepsStops_takeUpstream (s : State) (f : Frame) : KeepsStops s (takeUpstream s f) := by
  have hmonitor : KeepsStops s (sampleMonitor (filterBank s f .up) f) :=
    (keepsStops_filterBank s f .up).trans (keepsStops_sampleMonitor _ f)
  unfold takeUpstream
  dsimp only
  split
  · exact hmonitor
  · refine hmonitor.trans ?_
    unfold offerRelay
    split
    · exact .of_eq rfl rfl
    · exact keepsStops_raiseNotice _ _ _

/-! ## Moves and polls -/

theorem keepsStops_gateMove (s : State) (e : IntakeEntry) : KeepsStops s (gateMove s e) := by
  unfold gateMove
  split
  · exact keepsStops_refuseFrame _ _ _
  · split
    · exact keepsStops_refuseFrame _ _ _
    · exact .of_eq (raiseClamp_lane _ _ _ _ _ _ _) (raiseClamp_causeRecord _ _ _ _ _ _ _)

theorem keepsStops_gateGmove (s : State) (e : IntakeEntry) (g : GroupNo) : KeepsStops s (gateGmove s e g) := by
  unfold gateGmove
  split
  · exact keepsStops_refuseFrame _ _ _
  · exact .of_eq (raiseClamp_lane _ _ _ _ _ _ _) (raiseClamp_causeRecord _ _ _ _ _ _ _)

theorem keepsStops_gateGo (s : State) (e : IntakeEntry) (g : GroupNo) : KeepsStops s (gateGo s e g) := by
  unfold gateGo
  split
  · exact keepsStops_refuseFrame _ _ _
  · unfold startTrack
    dsimp only
    split
    · exact keepsStops_admitStep _ _ _
    · exact keepsStops_raiseNotice _ _ _
  · exact keepsStops_refuseFrame _ _ _

/-- A POLL joins one of the two queues and marks its hoist, wherever it comes from (R141). -/
theorem keepsStops_placedPolls (s : State) (f : Frame) :
    KeepsStops s (promotePoll s f) ∧ KeepsStops s (queuePoll s f) := by
  have hmark : ∀ u, KeepsStops u (markPolled u f) := fun u => by
    unfold markPolled
    repeat' split
    all_goals exact .of_eq rfl rfl
  have hpromote : ∀ l, KeepsStops s { s with pollPromote := l } := fun _ => .of_eq rfl rfl
  have hqueue : ∀ l, KeepsStops s { s with motionQueue := l } := fun _ => .of_eq rfl rfl
  exact ⟨(hpromote _).trans (hmark _), (hqueue _).trans (hmark _)⟩

theorem keepsStops_placeOwnPoll {s t : State} {a : LineAddr} (h : placeOwnPoll s a = some t) : KeepsStops s t := by
  have hseq : KeepsStops s (stepSeq s 1) := .of_eq rfl rfl
  unfold placeOwnPoll at h
  dsimp only at h
  split at h
  · cases h
    exact hseq.trans (keepsStops_placedPolls _ _).1
  · split at h <;> cases h
    exact hseq.trans (keepsStops_placedPolls _ _).2

/-! ## Expiries -/

theorem keepsStops_staleExpire (s : State) (h : Slot) : KeepsStops s (staleExpire s h) := by
  have hstop : KeepsStops s (staleStop s h) := by
    unfold staleStop
    split
    any_goals exact .refl s
    any_goals exact keepsStops_issueHoistStop _ _ _ _ _
    all_goals
      dsimp only
      split
      · exact (keepsStops_setHoistState _ _ _).trans (keepsStops_issueHoistStop _ _ _ _ _)
      · exact keepsStops_setHoistState _ _ _
  unfold staleExpire
  split
  · exact .refl s
  · exact hstop.trans (keepsStops_raiseNotice _ _ _)

theorem keepsStops_endPollTimer (s : State) (h : Slot) : KeepsStops s (endPollTimer s h) := .of_eq rfl rfl

theorem keepsStops_silenceExpire (s : State) : KeepsStops s (silenceExpire s) := by
  have hsilence : ∀ v, KeepsStops s { s with silence := v } := fun _ => .of_eq rfl rfl
  exact (hsilence _).trans ((keepsStops_admitStop _ _).trans (keepsStops_raiseNotice _ _ _))

/-! ## The management operations -/

/-- The line record's commit stops only by the expiries that it brings about (R148). -/
theorem keepsStops_commitLine (s : State) (c : LineConfig) (levels : Bool) : KeepsStops s (commitLine s c levels) := by
  have hline : KeepsStops s { s with line := c } := .of_eq rfl rfl
  have htimers : ∀ u old, KeepsStops u (endLateTimers u old) := fun u old => by
    unfold endLateTimers
    split
    · exact .refl u
    · exact .foldl keepsStops_endPollTimer _ u
  have hsilence : ∀ u old, KeepsStops u (expireLateSilence u old) := fun u old => by
    unfold expireLateSilence
    split
    · exact keepsStops_silenceExpire u
    · exact .refl u
  have hlimits : KeepsStops s (afterLimits s c) :=
    hline.trans ((htimers _ _).trans ((KeepsStops.foldl keepsStops_staleExpire _ _).trans (hsilence _ _)))
  rw [commitLine_eq]
  split
  · exact hlimits.trans (.of_eq rfl rfl)
  · exact hlimits

theorem keepsStops_writeOp (s : State) (f : Frame) : KeepsStops s (writeOp s f).state := by
  have hrecord : ∀ {present validate protection} {commit : List (List Byte) → State},
      (∀ raw, KeepsStops s (commit raw)) → KeepsStops s (writeRecord s f present validate protection commit).state :=
    fun {present validate protection commit} h => by
      obtain e | ⟨raw, -, -, e⟩ := writeRecord_cases s f present validate protection commit
      · rw [e]; exact .refl s
      · rw [e]; exact h raw
  unfold writeOp
  split
  · exact .refl s
  · exact .refl s
  · exact hrecord fun raw => by rw [commitHoist_frame]; exact .of_eq rfl rfl
  · exact hrecord fun raw => by rw [commitGroup_frame]; exact .of_eq rfl rfl
  · exact hrecord fun raw => .of_eq rfl rfl
  · exact hrecord fun raw => .of_eq rfl rfl
  · exact hrecord fun raw => .of_eq rfl rfl
  · exact hrecord fun raw => keepsStops_commitLine s _ _

/-- ARM, PARK and SET_IDENTITY change live parts and the identity alone (R79, R80, R183). -/
theorem keepsStops_recordOps (s : State) (f : Frame) :
    KeepsStops s (armOp s f).state ∧ KeepsStops s (parkOp s f).state ∧ KeepsStops s (setIdentityOp s f).state := by
  refine ⟨?_, ?_, ?_⟩
  · unfold armOp
    repeat' split
    all_goals exact .of_eq rfl rfl
  · unfold parkOp
    repeat' split
    all_goals exact .of_eq rfl rfl
  · unfold setIdentityOp
    repeat' split
    all_goals exact .of_eq rfl rfl

theorem keepsStops_setMotionOp (s : State) (f : Frame) : KeepsStops s (setMotionOp s f).state := by
  have hoff : KeepsStops s { s with motionEnable := false } := .of_eq rfl rfl
  have habort : ∀ u, KeepsStops u (abortTracks u) := fun _ => .of_eq rfl rfl
  have hmotion : KeepsStops s (motionOff s f.seq) := by
    unfold motionOff
    refine .trans ?_ (habort _)
    split
    · exact hoff.trans (keepsStops_admitStop _ _)
    · exact hoff
  unfold setMotionOp
  split
  · show KeepsStops s (if s.motionEnable then motionOff s f.seq else s)
    split
    · exact hmotion
    · exact .refl s
  · repeat' split
    all_goals exact .of_eq rfl rfl

theorem keepsStops_setPortModeOp (s : State) (f : Frame) : KeepsStops s (setPortModeOp s f).state := by
  have hchange : ∀ m, KeepsStops s (changeMode s m) := fun m => by
    unfold changeMode
    dsimp only
    split
    · split
      · rw [discardFrame_frame]
        exact .of_eq rfl rfl
      · exact .of_eq rfl rfl
    · exact .of_eq rfl rfl
  unfold setPortModeOp
  split
  · exact .refl s
  · split
    · exact .refl s
    · split
      · exact .refl s
      · exact hchange _

/-- A line reset empties the lane, admits its HOLD ALL there, and keeps the Cause Record (R138, R192). -/
theorem keepsStops_resetLine (s : State) (seq : Byte) : KeepsStops s (resetLine s seq) := by
  have hempty : KeepsStops s (emptyForReset s) := ⟨fun _ => soundLane_nil, fun r hr => hr ▸ .refl r⟩
  exact hempty.trans (keepsStops_admitStop _ _)

/-! ## Commands -/

/-- The next state of an outcome, when it has one, keeps the stops of `s`. -/
def KeepsStopsNext (s : State) (x : Host.Outcome State Fault Refusal) : Prop := ∀ t, x = .next t → KeepsStops s t

theorem KeepsStops.next {s t : State} (h : KeepsStops s t) : KeepsStopsNext s (.next (finish t)) := fun _ e => by
  cases e
  exact h.trans (keepsStops_finish t)

theorem keepsStopsNext_same (s : State) : KeepsStopsNext s (.next s) := fun _ e => by cases e; exact .refl s

theorem keepsStopsNext_fault (s : State) (f : Fault) : KeepsStopsNext s (.fault f) := fun _ e => by cases e

theorem KeepsStopsNext.nextOr {s : State} {x : Host.Outcome State Fault Refusal} (h : KeepsStopsNext s x) :
    KeepsStops s (nextOr s x) := by
  cases x with
  | next t => exact h t rfl
  | fault _ => exact .refl s
  | refused _ => exact .refl s

/-- The taking of an Intake head (R48). -/
theorem keepsStopsNext_takeHead {s : State} {act : IntakeEntry → State → Option State}
    (h : ∀ e u v, act e u = some v → KeepsStops u v) : KeepsStopsNext s (takeHead s act) := by
  obtain ⟨e, rest, u, -, ha, he⟩ | ⟨-, he⟩ := takeHead_cases s act
  · have htake : KeepsStops s { s with intake := rest } := .of_eq rfl rfl
    rw [he]
    exact (htake.trans (h e _ u ha)).next
  · rw [he]
    exact keepsStopsNext_same s

/-- A management command leaves the state as it is, or takes a head and leaves what its operation, or a refusal, comes to
(R182, R183). -/
theorem takeHead_mgmt_cases (s : State) (accepts : Byte → Bool) (act : State → Frame → MgmtResult) :
    takeHead s (mgmtTaken accepts act) = .next s ∨ ∃ (f : Frame) (rest : List IntakeEntry) (r : MgmtResult),
      (r.state = { s with intake := rest } ∨ r = act { s with intake := rest } f) ∧
      takeHead s (mgmtTaken accepts act) = .next (finish (placeReply f r)) := by
  obtain ⟨e, rest, u, -, ha, he⟩ | ⟨-, he⟩ := takeHead_cases s (mgmtTaken accepts act)
  · unfold mgmtTaken answer at ha
    split at ha <;> cases ha
    refine .inr ⟨e.frame, rest, _, ?_, he⟩
    split
    · exact .inl rfl
    · exact .inr rfl
  · exact .inl he

/-- A management command keeps the stops that its operation keeps (R182). -/
theorem keepsStopsNext_mgmt {s : State} {accepts : Byte → Bool} {act : State → Frame → MgmtResult}
    (h : ∀ u f, KeepsStops u (act u f).state) : KeepsStopsNext s (takeHead s (mgmtTaken accepts act)) := by
  obtain he | ⟨f, rest, r, hr, he⟩ := takeHead_mgmt_cases s accepts act
  · rw [he]
    exact keepsStopsNext_same s
  · have htake : KeepsStops s { s with intake := rest } := .of_eq rfl rfl
    have hreply : KeepsStops r.state (placeReply f r) := .of_eq rfl rfl
    have hop : KeepsStops { s with intake := rest } r.state := by
      obtain hr | rfl := hr
      · rw [hr]; exact .refl _
      · exact h _ f
    rw [he]
    exact (htake.trans (hop.trans hreply)).next

theorem keepsStopsNext_arrivals (s : State) (content : List Byte) :
    KeepsStopsNext s (execUPortArrival content s) ∧ KeepsStopsNext s (execDPortArrival content s) := by
  refine ⟨?_, ?_⟩
  · unfold execUPortArrival
    split
    · exact (keepsStops_raiseNotice _ _ _).next
    · exact (keepsStops_takeDownstream _ _).next
  · unfold execDPortArrival
    split
    · exact (keepsStops_raiseNotice _ _ _).next
    · exact (keepsStops_takeUpstream _ _).next

/-- The consumers of the Intake head but the Management Agent (R48). -/
theorem keepsStopsNext_heads (s : State) :
    KeepsStopsNext s (execMove s) ∧ KeepsStopsNext s (execGmove s) ∧ KeepsStopsNext s (execGo s) ∧
    KeepsStopsNext s (execPoll s) ∧ KeepsStopsNext s (execPassThroughFrame s) := by
  refine ⟨keepsStopsNext_takeHead fun e u v h => ?_, keepsStopsNext_takeHead fun e u v h => ?_,
    keepsStopsNext_takeHead fun e u v h => ?_, keepsStopsNext_takeHead fun e u v h => ?_,
    keepsStopsNext_takeHead fun e u v h => ?_⟩
  · unfold moveTaken at h
    split at h <;> cases h
    exact keepsStops_gateMove _ _
  · unfold gmoveTaken at h
    repeat' split at h
    all_goals cases h
    exact keepsStops_gateGmove _ _ _
  · unfold goTaken at h
    repeat' split at h
    all_goals cases h
    exact keepsStops_gateGo _ _ _
  · unfold pollTaken at h
    repeat' split at h
    all_goals cases h
    · exact (keepsStops_placedPolls _ _).1
    · exact (keepsStops_placedPolls _ _).2
  · unfold passThroughTaken at h
    split at h <;> cases h
    exact .of_eq rfl rfl

theorem keepsStopsNext_ownPoll (s : State) : KeepsStopsNext s (execOwnPoll s) := by
  unfold execOwnPoll
  split
  · next t ht =>
    obtain ⟨h, -, hh⟩ := List.exists_of_findSome?_eq_some ht
    split at hh
    · obtain ⟨a, -, ha⟩ := Option.bind_eq_some_iff.1 hh
      exact (keepsStops_placeOwnPoll ha).next
    · cases hh
  · exact keepsStopsNext_same s

theorem keepsStopsNext_internalBatches (s : State) :
    KeepsStopsNext s (execRewriteWaveAdmission s) ∧ KeepsStopsNext s (execTrackStep s) := by
  refine ⟨?_, ?_⟩
  · unfold execRewriteWaveAdmission
    repeat' split
    any_goals exact keepsStopsNext_same s
    exact (keepsStops_admitWave _ _).next
  · unfold execTrackStep
    repeat' split
    any_goals exact keepsStopsNext_same s
    exact (keepsStops_takeDueStep _ _).next

theorem keepsStopsNext_transmitters (s : State) :
    KeepsStopsNext s (execDPortTransmitCompletion s) ∧ KeepsStopsNext s (execUPortTransmitCompletion s) ∧
    KeepsStopsNext s (execLineResetTakesEffect s) := by
  have hd : KeepsStops s { s with onWire := none } := .of_eq rfl rfl
  have hu : ∀ w, KeepsStops s { s with uWire := w } := fun _ => .of_eq rfl rfl
  refine ⟨?_, ?_, ?_⟩
  · unfold execDPortTransmitCompletion
    split
    · exact hd.next
    · exact keepsStopsNext_same s
  · unfold execUPortTransmitCompletion
    split
    · exact (hu _).next
    · exact keepsStopsNext_same s
  · unfold execLineResetTakesEffect
    repeat' split
    any_goals exact keepsStopsNext_same s
    exact ((hu _).trans (keepsStops_resetLine _ _)).next

theorem keepsStopsNext_staleExpiry (s : State) (n : Nat) : KeepsStopsNext s (execStaleExpiry n s) := by
  have hage : ∀ h f, KeepsStops s (changeLive s h f) := fun _ _ => .of_eq rfl rfl
  unfold execStaleExpiry
  split
  · exact keepsStopsNext_fault _ _
  · split
    · exact ((hage _ _).trans (keepsStops_staleExpire _ _)).next
    · exact keepsStopsNext_same s

theorem keepsStopsNext_pollTimeout (s : State) (n : Nat) : KeepsStopsNext s (execPollTimeout n s) := by
  unfold execPollTimeout
  split
  · exact keepsStopsNext_fault _ _
  · split
    · exact (keepsStops_endPollTimer _ _).next
    · exact keepsStopsNext_same s

theorem keepsStopsNext_silenceTimerExpiry (s : State) : KeepsStopsNext s (execSilenceTimerExpiry s) := by
  have hreach : KeepsStops s (reachSilenceLimit s) := .of_eq rfl rfl
  unfold execSilenceTimerExpiry
  split
  · exact (hreach.trans (keepsStops_silenceExpire _)).next
  · exact keepsStopsNext_same s

theorem keepsStopsNext_dwellExpiry (s : State) (n : Nat) : KeepsStopsNext s (execDwellExpiry n s) := by
  unfold execDwellExpiry
  split
  · exact keepsStopsNext_fault _ _
  · split
    · exact (keepsStops_makeStepDue _ _).next
    · exact keepsStopsNext_same s

theorem keepsStops_tick (s : State) : KeepsStops s (tick s) := by
  have hcounts : KeepsStops s (stepCounts s) := .of_eq rfl rfl
  have hrun : ∀ u x, KeepsStops u (runExpiry u x) := fun u x => by
    cases x with
    | stale h => exact (keepsStopsNext_staleExpiry u _).nextOr
    | pollTimeout h => exact (keepsStopsNext_pollTimeout u _).nextOr
    | dwell g => exact (keepsStopsNext_dwellExpiry u _).nextOr
    | silence => exact (keepsStopsNext_silenceTimerExpiry u).nextOr
  exact hcounts.trans (.foldl hrun _ _)

/-! ## Clearing the Cause Record (R172, R191) -/

/-- `t` has kept the stops of `s`, but that its Cause Record may have been emptied. -/
def KeepsOrClears (s t : State) : Prop := KeepsStops s t ∨ t.lane = s.lane ∧ t.causeRecord = none

theorem keepsOrClears_recoverOp (s : State) (f : Frame) : KeepsOrClears s (recoverOp s f).state := by
  have hsame : KeepsOrClears s s := .inl (.refl s)
  have hset : ∀ p q, KeepsOrClears s (clearOnRecover (recoverSet s p q)) := fun p q => by
    unfold clearOnRecover
    split
    · exact .inr ⟨rfl, rfl⟩
    · exact .inl (.of_eq rfl rfl)
  unfold recoverOp
  split
  · unfold recoverAllOp
    split
    · exact hsame
    · exact hset _ _
  · split
    · unfold recoverHoistOp
      repeat' split
      · exact hsame
      · exact hsame
      · exact hset _ _
    · exact hsame
  · split
    · unfold recoverGroupOp
      repeat' split
      · exact hsame
      · exact hsame
      · exact hset _ _
    · exact hsame
  all_goals exact hsame

/-- A management command whose operation may empty the Cause Record keeps the lane sound, and the record or its emptiness. -/
theorem keepsOrClears_takeHead {s t : State} {accepts : Byte → Bool} {act : State → Frame → MgmtResult}
    (h : ∀ u f, KeepsOrClears u (act u f).state) (ht : takeHead s (mgmtTaken accepts act) = .next t) :
    (LaneSound s → LaneSound t) ∧
      ((∀ r, s.causeRecord = some r → Latches r t.causeRecord) ∨ t.causeRecord = none) := by
  obtain he | ⟨f, rest, r, hr, he⟩ := takeHead_mgmt_cases s accepts act
  · rw [he] at ht
    cases ht
    exact ⟨id, .inl fun r hr => hr ▸ .refl r⟩
  · rw [he] at ht
    cases ht
    have hfinish := keepsStops_finish (placeReply f r)
    have hop : KeepsOrClears { s with intake := rest } r.state := by
      obtain hr | rfl := hr
      · rw [hr]; exact .inl (.refl _)
      · exact h _ f
    obtain hkeeps | ⟨hlane, hcause⟩ := hop
    · have htake : KeepsStops s { s with intake := rest } := .of_eq rfl rfl
      have hreply : KeepsStops r.state (placeReply f r) := .of_eq rfl rfl
      have hall := htake.trans (hkeeps.trans (hreply.trans hfinish))
      exact ⟨hall.lane, .inl hall.cause⟩
    · have hframe : (finish (placeReply f r)).causeRecord = (placeReply f r).causeRecord :=
        (congrArg State.causeRecord (transmits_finish (placeReply f r)).frame :)
      refine ⟨fun hs => hfinish.lane ?_, .inr (hframe.trans hcause)⟩
      show SoundLane r.state.lane
      rw [hlane]
      exact hs

/-! ## Every step -/

/-- The commands that may empty the Cause Record: CLEAR_CAUSE, RECOVER and a power-on reset (R170, R172). -/
def mayClearCause (c : Instr) : Prop := c = .clearCause ∨ c = .recover ∨ c = .powerOnReset

theorem keepsStopsNext_exec {c : Instr} (hc : ¬mayClearCause c) (s : State) : KeepsStopsNext s (exec c s) := by
  have same : ∀ {u v : State}, v = u → KeepsStops u v := fun e => e ▸ .refl _
  obtain ⟨hmove, hgmove, hgo, hpoll, hpass⟩ := keepsStopsNext_heads s
  obtain ⟨hdport, huport, hreset⟩ := keepsStopsNext_transmitters s
  cases c with
  | powerOnReset => exact absurd (.inr (.inr rfl)) hc
  | clearCause => exact absurd (.inl rfl) hc
  | recover => exact absurd (.inr (.inl rfl)) hc
  | uPortArrival content => exact (keepsStopsNext_arrivals s content).1
  | dPortArrival content => exact (keepsStopsNext_arrivals s content).2
  | move => exact hmove
  | gmove => exact hgmove
  | go => exact hgo
  | poll => exact hpoll
  | passThroughFrame => exact hpass
  | read => exact keepsStopsNext_mgmt fun u f => same (keeps_readOps u f).1
  | write => exact keepsStopsNext_mgmt keepsStops_writeOp
  | readLive => exact keepsStopsNext_mgmt fun u f => same (keeps_readOps u f).2.1
  | arm => exact keepsStopsNext_mgmt fun u f => (keepsStops_recordOps u f).1
  | park => exact keepsStopsNext_mgmt fun u f => (keepsStops_recordOps u f).2.1
  | readCause => exact keepsStopsNext_mgmt fun u f => same (keeps_readOps u f).2.2
  | setIdentity => exact keepsStopsNext_mgmt fun u f => (keepsStops_recordOps u f).2.2
  | setMotion => exact keepsStopsNext_mgmt keepsStops_setMotionOp
  | setPortMode => exact keepsStopsNext_mgmt keepsStops_setPortModeOp
  | lineReset => exact keepsStopsNext_mgmt fun u f => .refl u
  | lineResetTakesEffect => exact hreset
  | dPortTransmitCompletion => exact hdport
  | uPortTransmitCompletion => exact huport
  | staleExpiry n => exact keepsStopsNext_staleExpiry s n
  | pollTimeout n => exact keepsStopsNext_pollTimeout s n
  | silenceTimerExpiry => exact keepsStopsNext_silenceTimerExpiry s
  | dwellExpiry n => exact keepsStopsNext_dwellExpiry s n
  | trackStep => exact (keepsStopsNext_internalBatches s).2
  | rewriteWaveAdmission => exact (keepsStopsNext_internalBatches s).1
  | ownPoll => exact keepsStopsNext_ownPoll s
  | mgmtBadOperation => exact keepsStopsNext_mgmt fun u f => .refl u

/-- The three commands that may empty the Cause Record. -/
theorem keepsLane_exec_of_mayClearCause {c : Instr} (hc : mayClearCause c) {s t : State} (ht : exec c s = .next t) :
    (LaneSound s → LaneSound t) ∧
      ((∀ r, s.causeRecord = some r → Latches r t.causeRecord) ∨ t.causeRecord = none) := by
  obtain rfl | rfl | rfl := hc
  · exact keepsOrClears_takeHead (fun u f => .inr ⟨rfl, rfl⟩) ht
  · exact keepsOrClears_takeHead keepsOrClears_recoverOp ht
  · cases ht
    exact ⟨fun _ => soundLane_nil, .inr rfl⟩

/-- A step keeps the lane sound; and it keeps the first cause, or it is one of the three commands and leaves no cause. -/
theorem step_keepsStops {s t : State} (h : step s = .next t) :
    (LaneSound s → LaneSound t) ∧ ((∀ r, s.causeRecord = some r → Latches r t.causeRecord) ∨
      t.causeRecord = none ∧ ∃ c, s.pending.head? = some c ∧ mayClearCause c) := by
  unfold step at h
  split at h
  · next c rest hp =>
    by_cases hc : mayClearCause c
    · obtain ⟨hlane, hcause⟩ := keepsLane_exec_of_mayClearCause hc h
      exact ⟨hlane, hcause.imp_right fun he => ⟨he, c, by rw [hp]; rfl, hc⟩⟩
    · obtain ⟨hlane, hcause⟩ := keepsStopsNext_exec hc _ t h
      exact ⟨hlane, .inl hcause⟩
  · cases h
    exact ⟨(keepsStops_tick s).lane, .inl (keepsStops_tick s).cause⟩

/-- Settles O8: an admission enters, merges or collapses with the lane in its order, an emission only takes from the head,
and no other operation touches the lane. -/
theorem stopLaneStaysSound : Obligations.StopLaneStaysSound := fun _ _ hs hstep => (step_keepsStops hstep).1 hs

/-- Without a collapse the Cause Record is as the order's own effects leave it (R134). -/
theorem causeRecord_admitStop_of_room {s : State} {o : StopIssue} (hroom : laneAfter s o ≠ none) :
    ∃ u : State, (admitStop s o).causeRecord = (admissionEffects u o).causeRecord ∧
      u.causeRecord = s.causeRecord ∧ u.lineClock = s.lineClock := by
  obtain ⟨lane, -, he⟩ | ⟨hnone, -⟩ := admitStop_cases s o
  · exact ⟨{ s with lane := lane }, by rw [he, stopNotice_causeRecord], rfl, rfl⟩
  · exact absurd hnone hroom

/-- An admission that does not collapse raises the order's own notice and no other (R134 step 5). -/
theorem notices_admitStop_of_room {s : State} {o : StopIssue} (hroom : laneAfter s o ≠ none) :
    (admitStop s o).notices = (stopNotice s o).notices := by
  obtain ⟨lane, -, he⟩ | ⟨hnone, -⟩ := admitStop_cases s o
  · rw [he]
    exact notices_stopNotice_congr (by simp) (by simp) (by simp) o
  · exact absurd hnone hroom

/-- Settles O13: the admission's effects write the record or add to it, and every step keeps what it holds. -/
theorem firstCauseIsWrittenAndLatched : Obligations.FirstCauseIsWrittenAndLatched := by
  refine ⟨fun s o hroom => ?_, fun s t r hr hstep => ?_⟩
  · intro group
    have hgroup : group = scopeGroup o.scope := (scopeGroup_eq _).symm
    obtain ⟨u, hadmit, hu, hclock⟩ := causeRecord_admitStop_of_room hroom
    rw [hadmit, notices_admitStop_of_room hroom, hgroup, ← hu, ← hclock]
    refine ⟨fun hc => causeRecord_admissionEffects_of_none hc u, fun c => causeRecord_admissionEffects_of_empty,
      fun c r hc hr => ?_, fun ⟨src, seq, ho⟩ => ?_, fun ho => ?_⟩
    · exact ⟨_, causeRecord_admissionEffects_of_latched hc hr, fun x => mem_addCause c x r.later⟩
    · simp [stopNotice, ho]
    · simp only [stopNotice, ho]
      cases o.kind <;> cases o.cause <;> rfl
  · obtain hlatched | ⟨hnone, c, hhead, hc⟩ := (step_keepsStops hstep).2
    · obtain ⟨later, ht, hsub⟩ := hlatched r hr
      exact .inl ⟨_, ht, rfl, rfl, rfl, rfl, rfl, rfl, hsub⟩
    · refine .inr ⟨hnone, ?_⟩
      obtain rfl | rfl | rfl := hc
      · exact .inl hhead
      · exact .inr (.inl hhead)
      · exact .inr (.inr hhead)

end Sys2Proof.Machine
end

/-! # Sitting 7: no candidate waits for an idle transmitter -/
section

namespace Sys2Proof.Machine

/-! ## The Transmit Stage has settled (R142) -/

/-- A filling goes on until NEXT is full or no candidate is left. -/
theorem selectOne_fill_of_empty (s : State) (h : (fill s).nextFrame = none) : selectOne (fill s) = none := by
  induction hw : selectionWork s using Nat.strong_induction_on generalizing s with
  | _ w ih =>
    cases hn : s.nextFrame with
    | some e =>
      rw [fill_of_full hn, hn] at h
      cases h
    | none =>
      cases hsel : selectOne s with
      | none => rw [fill_of_noCandidate hsel, hsel]
      | some r =>
        obtain ⟨e, t⟩ := r
        have hless : selectionWork t < w := hw ▸ selectionWork_lt hsel
        cases e with
        | none =>
          have hfill := fill_of_spent hn hsel
          rw [hfill] at h ⊢
          exact ih _ hless t h rfl
        | some e =>
          cases hmode : modeDiscards t.portMode e with
          | true =>
            have hfill := fill_of_discarded hn hsel hmode
            rw [hfill] at h ⊢
            exact ih _ hless (discardFrame t e) h (selectionWork_discardFrame t e)
          | false =>
            rw [fill_of_kept hn hsel hmode] at h
            cases h

/-- Behind the second filling, an empty ON_WIRE has found NEXT empty, and with it no candidate. -/
theorem dPortSettled_settleStage (s : State) : DPortSettled (settleStage s) := by
  refine ⟨fun hwire => ?_, fun hnext => (selectOne_eq_none_iff _).1 (selectOne_fill_of_empty _ hnext)⟩
  have hkeeps : (settleStage s).onWire = (advance (fill s)).onWire := (fillKeeps_fillNext _ _).onWire
  rw [hkeeps] at hwire
  cases hw : (fill s).onWire with
  | some e =>
    have hstays : advance (fill s) = fill s := by simp [advance, hw]
    rw [hstays, hw] at hwire
    cases hwire
  | none =>
    cases hn : (fill s).nextFrame with
    | some e =>
      rw [advance_eq hw hn] at hwire
      cases hwire
    | none =>
      have hstays : advance (fill s) = fill s := by simp [advance, hw, hn]
      rw [settleStage, hstays, fill_of_noCandidate (selectOne_fill_of_empty s hn), hn]

/-! ## The Upstream Arbiter has nothing left to select (R177) -/

/-- The source that the arbiter picks is pending. -/
theorem isSome_of_pickNotice {s : State} {i : Fin 16} (h : pickNotice s = some i) : (s.notices.get i).isSome = true := by
  have hpending : ∀ i, pickNotice s = some i → (s.notices.get i).isSome = true := by
    unfold pickNotice
    refine List.foldlRecOn _ _ (motive := fun best : Option (Fin 16) => ∀ i, best = some i → (s.notices.get i).isSome = true)
      (fun i hi => by cases hi) fun best hbest j _ i hi => ?_
    split at hi
    · exact hbest i hi
    · next n hn =>
      split at hi
      · cases hi
        rw [hn]
        rfl
      · split at hi
        · cases hi
          rw [hn]
          rfl
        · exact hbest i hi
  exact hpending i h

/-- The arbiter picks a source while one is pending. -/
theorem get_notices_of_pickNotice_none {s : State} (h : pickNotice s = none) (i : Fin 16) : s.notices.get i = none := by
  cases hi : s.notices.get i with
  | none => rfl
  | some n =>
    obtain ⟨before, behind, hl⟩ := List.append_of_mem (List.mem_finRange i)
    have hpicked : (pickNotice s).isSome = true := by
      unfold pickNotice
      rw [hl, List.foldl_append, List.foldl_cons]
      refine List.foldlRecOn _ _ (motive := fun best : Option (Fin 16) => best.isSome = true) ?_ fun best hbest j _ => ?_
      · rw [hi]
        dsimp only
        repeat' split
        all_goals rfl
      · split
        · exact hbest
        · repeat' split
          all_goals rfl
    rw [h] at hpicked
    cases hpicked

/-- Nothing waits at the U-port but for a LINE_RESET reply (R177, log entry 5). -/
abbrev UPortSettled (s : State) : Prop :=
  s.uWire = none → (∀ r, s.replySlot = some r → r.resets = true) ∧
    (s.replySlot = none → (∀ i, s.notices.get i = none) ∧ s.relayQueue = [])

theorem uPortSettled_of_busy {s : State} {f : Frame} (h : s.uWire = some f) : UPortSettled s := fun hidle => by
  rw [h] at hidle
  cases hidle

/-- A picked notice, the Relay Queue head or a reply occupies the transmitter; without one of them nothing waits. -/
theorem uPortSettled_arbitrate (s : State) : UPortSettled (arbitrate s) := by
  have hrelay : s.replySlot = none → (pickNotice s = none ∨ s.relayQueue ≠ []) → UPortSettled (sendRelay s) :=
    fun hreply h => by
      unfold sendRelay
      split
      · next hempty =>
        have hnotices := get_notices_of_pickNotice_none (h.resolve_right fun hne => hne hempty)
        exact fun _ => ⟨by simp [hreply], fun _ => ⟨hnotices, hempty⟩⟩
      · exact uPortSettled_of_busy rfl
  unfold arbitrate
  split
  · next hbusy => exact uPortSettled_of_busy hbusy
  · split
    · next r hr =>
      split
      · next hresets =>
        refine fun _ => ⟨fun r' hr' => ?_, fun hnone => ?_⟩
        · rw [hr] at hr'
          cases hr'
          exact hresets
        · rw [hr] at hnone
          cases hnone
      · exact uPortSettled_of_busy rfl
    · next hreply =>
      split
      · next i hi =>
        split
        · obtain ⟨n, hn⟩ := Option.isSome_iff_exists.1 (isSome_of_pickNotice hi)
          unfold sendNotice
          rw [hn]
          exact uPortSettled_of_busy rfl
        · next hturn =>
          refine hrelay hreply (.inr fun hempty => hturn ?_)
          simp [hempty]
      · next hnone => exact hrelay hreply (.inl hnone)

/-- Settles O5: the Transmit Stage has settled before the Upstream Arbiter selects, which touches nothing of the D-port. -/
theorem noCandidateWaitsForIdleTransmitter : Obligations.NoCandidateWaitsForIdleTransmitter := by
  intro s
  have hdport : DPortSettled (finish s) := by
    unfold finish
    rw [arbitrate_frame]
    exact dPortSettled_settleStage s
  exact ⟨hdport.1, hdport.2, uPortSettled_arbitrate (settleStage s)⟩

end Sys2Proof.Machine
end

/-! # Sitting 7: the MOVEs that an admission removes -/
section

namespace Sys2Proof.Machine

/-! ## The rows of R135 -/

/-- A stop on a hoist reaches the granted and batch MOVEs of its slot. -/
theorem purges_hoist (s : State) (h : Slot) (e : Entry) : purges s (.hoist h) e = (moveSlot e == some h) := by
  unfold purges moveSlot
  cases e.role <;> simp [Bool.beq_eq_decide_eq, eq_comm]

/-- A stop on a group reaches the granted and batch MOVEs of its members. -/
theorem purges_group (s : State) (g : GroupNo) (e : Entry) :
    purges s (.group g) e = (members s g).any fun h => moveSlot e == some h := by
  have hslot : ∀ k, isMember s g k = (members s g).any fun h => some k == some h := fun k => by
    rw [Bool.eq_iff_iff]
    simp
  unfold purges moveSlot
  cases e.role with
  | granted k => exact hslot k
  | batch k i b => exact hslot k
  | stop => simp
  | poll slot => simp
  | passThrough => simp

/-- Which MOVEs a stop reaches depends on the records' configuration alone (R7, R135). -/
theorem purges_congr {s t : State} (h : ∀ k, cfgAt t k = cfgAt s k) (sc : Scope) (e : Entry) :
    purges t sc e = purges s sc e := by
  cases sc with
  | hoist k => rw [purges_hoist, purges_hoist]
  | group g => rw [purges_group, purges_group, members_congr h]
  | all => rfl
  | raw a => rfl

/-- A MOVE that a stop does not reach is for no hoist that it covers (R10, R135). -/
theorem coversHoist_of_not_purges {s : State} {sc : Scope} {e : Entry} {h : Slot} (hkind : e.frame.kind = 0x21#8)
    (hslot : moveSlot e = some h) (hkept : purges s sc e = false) : coversHoist s sc h = false := by
  cases sc with
  | hoist k =>
    rw [purges_hoist, hslot] at hkept
    have hne : h ≠ k := by simpa using hkept
    simp [coversHoist, hne]
  | group g =>
    rw [purges_group, hslot] at hkept
    have hothers : ∀ k, isMember s g k = true → h ≠ k := by simpa using hkept
    have hno : isMember s g h = false := Bool.eq_false_iff.2 fun hm => hothers h hm rfl
    simp [coversHoist, hno]
  | all => simp [purges, hkind, kindMove] at hkept
  | raw a => simp [coversHoist]

/-! ## The Motion Queue and NEXT after an admission (R133 to R135) -/

/-- The purge leaves exactly the entries that the stop does not reach. -/
theorem queues_admissionEffects (s : State) (o : StopIssue) :
    (admissionEffects s o).motionQueue = s.motionQueue.filter (fun e => !purges s o.scope e) ∧
    (admissionEffects s o).nextFrame = s.nextFrame.filter (fun e => !purges s o.scope e) := by
  have hcfg : ∀ k, cfgAt (stopGroups (stopHoists s o) o) k = cfgAt s k := fun k =>
    (cfgAt_congr (by simp [admissionEffects]) k).trans (cfgAt_admissionEffects s o k)
  have hpurges : purges (stopGroups (stopHoists s o) o) o.scope = purges s o.scope := funext (purges_congr hcfg o.scope)
  unfold admissionEffects
  rw [recordStop_motionQueue, recordStop_nextFrame]
  simp only [purge, hpurges, stopGroups_motionQueue, stopHoists_motionQueue, stopGroups_nextFrame, stopHoists_nextFrame]
  refine ⟨trivial, ?_⟩
  cases s.nextFrame with
  | none => rfl
  | some e => cases he : purges s o.scope e <;> simp [Option.filter, he]

/-- What an admission removes: the MOVEs that its order reaches, and every MOVE when the lane collapses (R133, R135). -/
def removes (s : State) (o : StopIssue) (e : Entry) : Bool :=
  purges s o.scope e || ((laneAfter s o).isNone && e.frame.kind == kindMove)

theorem queues_admitStop (s : State) (o : StopIssue) :
    (admitStop s o).motionQueue = s.motionQueue.filter (fun e => !removes s o e) ∧
    (admitStop s o).nextFrame = s.nextFrame.filter (fun e => !removes s o e) := by
  unfold removes
  obtain ⟨lane, hl, he⟩ | ⟨hl, he⟩ := admitStop_cases s o
  · obtain ⟨hqueue, hnext⟩ := queues_admissionEffects { s with lane := lane } o
    have hpurges : purges { s with lane := lane } o.scope = purges s o.scope :=
      funext (purges_congr (fun _ => rfl) o.scope)
    rw [hpurges] at hqueue hnext
    simp only [he, hl, stopNotice_motionQueue, stopNotice_nextFrame, Option.isNone_some, Bool.false_and, Bool.or_false]
    exact ⟨hqueue, hnext⟩
  · obtain ⟨hqueue, hnext⟩ := queues_admissionEffects s o
    obtain ⟨hqueue', hnext'⟩ := queues_admissionEffects (beforeOverflow s o) (overflowStop o)
    have hall : ∀ u e, purges u (overflowStop o).scope e = (e.frame.kind == kindMove) := fun _ _ => rfl
    have hbefore : (beforeOverflow s o).motionQueue = (admissionEffects s o).motionQueue ∧
        (beforeOverflow s o).nextFrame = (admissionEffects s o).nextFrame := by simp [beforeOverflow]
    rw [hbefore.1, hqueue] at hqueue'
    rw [hbefore.2, hnext] at hnext'
    have hcollapse : (collapse s o).motionQueue = (admissionEffects (beforeOverflow s o) (overflowStop o)).motionQueue ∧
        (collapse s o).nextFrame = (admissionEffects (beforeOverflow s o) (overflowStop o)).nextFrame :=
      ⟨raiseNotice_motionQueue _ _ _, raiseNotice_nextFrame _ _ _⟩
    rw [he, hl, hcollapse.1, hcollapse.2, hqueue', hnext']
    simp only [hall, Option.isNone_none, Bool.true_and, Bool.not_or, List.filter_filter]
    refine ⟨List.filter_congr fun e _ => Bool.and_comm _ _, ?_⟩
    cases s.nextFrame with
    | none => rfl
    | some e => cases he : purges s o.scope e <;> simp [Option.filter, he]

/-- An admission touches the lane, the records, the pending batches, the two places that it purges, the Cause Record and the
notices, and nothing else (R134). -/
theorem admitStop_frame (s : State) (o : StopIssue) :
    { admitStop s o with
      lane := s.lane, hoists := s.hoists, groups := s.groups, internalBatches := s.internalBatches,
      motionQueue := s.motionQueue, nextFrame := s.nextFrame, causeRecord := s.causeRecord, notices := s.notices } = s := by
  simp

/-- Settles O17: the purges of the order, and of the HALT ALL of a collapse, are filters of the two places. -/
theorem purgeLeavesNoCoveredMove : Obligations.PurgeLeavesNoCoveredMove := by
  intro s o isMove reached gone
  have hreached : ∀ e, reached e = purges s o.scope e := fun e => by
    simp only [reached]
    cases o.scope with
    | hoist h => exact (purges_hoist s h e).symm
    | group g => exact (purges_group s g e).symm
    | all => rfl
    | raw a => rfl
  have hgone : gone = removes s o := funext fun e => by
    simp only [gone, hreached]
    rfl
  obtain ⟨hqueue, hnext⟩ := queues_admitStop s o
  rw [hgone, hqueue, hnext]
  refine ⟨rfl, fun e he => ?_, fun hn => ?_, admitStop_frame s o, by simp, by simp, fun e he hkind h hslot => ?_,
    fun e he hkind hslot => ?_⟩
  · rw [he]
    cases hr : removes s o e <;> simp [Option.filter, hr]
  · rw [hn]
    rfl
  · have hkept : removes s o e = false := by
      obtain he | he := he
      · simpa using (List.mem_filter.1 he).2
      · simpa using (Option.filter_eq_some_iff.1 he).2
    exact coversHoist_of_not_purges hkind hslot (Bool.or_eq_false_iff.1 hkept).1
  · refine List.mem_filter.2 ⟨he, ?_⟩
    have hkinds : (e.frame.kind == kindMove) = false := by simpa [kindMove] using hkind
    have hpurges : purges s o.scope e = false := by
      cases o.scope with
      | hoist h => simp [purges_hoist, hslot]
      | group g => simp [purges_group, hslot]
      | all => exact hkinds
      | raw a => simp [purges, hkinds]
    simp [removes, hkinds, hpurges]

end Sys2Proof.Machine
end

/-! # Sitting 7: where POLLs are placed -/
section

namespace Sys2Proof.Machine

/-! ## When an own POLL is due, and where it may go (R141, R152) -/

/-- The hoist at `h`, with line address `a`, is due for an own POLL (R152). -/
def IsDueAt (s : State) (h : Slot) (a : LineAddr) : Prop :=
  (cfgAt s h).present = true ∧ addrOfSlot s h = some a ∧ s.line.sweepInterval ≤ (liveAt s h).sampleAge ∧
    (liveAt s h).pollOutstanding = false

/-- A POLL to `a` may pass the Motion Queue (R141). -/
def PassesQueue (s : State) (a : LineAddr) : Prop := ∀ e ∈ s.motionQueue, e.frame.dest ≠ a ∧ isBegun e = false

/-- A POLL to `a` may enter the Poll Promote Queue (R141). -/
def Promotes (s : State) (a : LineAddr) : Prop := s.pollPromote.length < 2 ∧ PassesQueue s a

/-- An own POLL to `a` has no place in either queue (R140, R141). -/
def HasNoPlace (s : State) (a : LineAddr) : Prop :=
  ¬Promotes s a ∧ (s.internalBatches ≠ [] ∨ 32 ≤ s.motionQueue.length)

section

variable {s : State} {h : Slot} {a : LineAddr}

theorem canPromote_iff : canPromote s a = true ↔ Promotes s a := by
  simp only [canPromote, Bool.and_eq_true, decide_eq_true_eq, mayPass_iff]
  rfl

theorem isDue_iff : isDue s h = true ↔ ∃ a, IsDueAt s h a := by
  simp [isDue, IsDueAt, Option.isSome_iff_exists, and_assoc]

theorem IsDueAt.isDue (hd : IsDueAt s h a) : isDue s h = true := isDue_iff.2 ⟨a, hd⟩

/-- A due hoist has the one line address that its slot maps back to (R43). -/
theorem isDue_and_addr_iff : (isDue s h = true ∧ addrOfSlot s h = some a) ↔ IsDueAt s h a := by
  refine ⟨fun ⟨hd, ha⟩ => ?_, fun hd => ⟨hd.isDue, hd.2.1⟩⟩
  obtain ⟨b, hpresent, hb, hage, hout⟩ := isDue_iff.1 hd
  exact ⟨hpresent, ha, hage, hout⟩

theorem duePromotes_iff : duePromotes s = true ↔ ∃ h a, IsDueAt s h a ∧ Promotes s a := by
  simp [duePromotes, allSlots, Option.any_eq_true, canPromote_iff, ← isDue_and_addr_iff, and_assoc]

theorem dueClaims_iff : dueClaims s = true ↔ (∃ h a, IsDueAt s h a ∧ ¬PassesQueue s a) ∨
    2 - s.pollPromote.length < ((List.finRange 64).filter (isDue s)).length := by
  have hslot : ∀ h, isDue s h = true ∧ (addrOfSlot s h).any (mayPass s) = false ↔ ∃ a, IsDueAt s h a ∧ ¬PassesQueue s a :=
    fun h => by
      have hpasses : ∀ a, mayPass s a = false ↔ ¬PassesQueue s a := fun a => by
        rw [← Bool.not_eq_true, mayPass_iff]
        rfl
      refine ⟨fun ⟨hd, hno⟩ => ?_, fun ⟨a, hd, hno⟩ => ⟨hd.isDue, ?_⟩⟩
      · obtain ⟨a, ha⟩ := isDue_iff.1 hd
        rw [ha.2.1, Option.any_some, hpasses] at hno
        exact ⟨a, ha, hno⟩
      · rw [hd.2.1, Option.any_some, hpasses]
        exact hno
  simp only [dueClaims, Bool.or_eq_true, List.any_eq_true, mem_dueSlots, Bool.not_eq_true', decide_eq_true_eq, hslot]
  rfl

end

/-! ## What the placing of a POLL changes (R141) -/

theorem markPolled_frame (s : State) (f : Frame) : markPolled s f = { s with hoists := (markPolled s f).hoists } := by
  unfold markPolled
  repeat' split
  all_goals rfl

/-- The polled hoist is marked when it is Present, and no other. -/
theorem hoistAt_markPolled (s : State) (f : Frame) (k : Slot) :
    hoistAt (markPolled s f) k =
      if slotOfAddr s f.dest = some k ∧ (cfgAt s k).present = true then
        { hoistAt s k with live := { liveAt s k with pollOutstanding := true } }
      else hoistAt s k := by
  unfold markPolled
  cases hslot : slotOfAddr s f.dest with
  | none => simp
  | some h =>
    by_cases hk : k = h
    · subst hk
      by_cases hp : (cfgAt s k).present = true <;> simp [hp, hoistAt_changeLive]
    · have hne : ¬h = k := fun e => hk e.symm
      by_cases hp : (cfgAt s h).present = true <;> simp [hp, hk, hne, hoistAt_changeLive]

theorem promotePoll_frame (s : State) (f : Frame) : promotePoll s f =
    { s with pollPromote := s.pollPromote ++ [pollEntry s f], hoists := (promotePoll s f).hoists } :=
  markPolled_frame _ f

theorem queuePoll_frame (s : State) (f : Frame) : queuePoll s f =
    { s with motionQueue := s.motionQueue ++ [pollEntry s f], hoists := (queuePoll s f).hoists } :=
  markPolled_frame _ f

/-! ## POLL (R141) -/

theorem classOf_poll {f : Frame} (hkind : f.kind = 0x25#8) (hlen : f.payload = []) (h1 : 1 ≤ f.dest.toNat)
    (h2 : f.dest.toNat ≤ 0xEFFF) : classOf f = .poll := by
  have hstop : stopKindOf f = none := by simp [stopKindOf, hkind, kindHold, kindHalt]
  have hdest : addrClass f.dest ≠ .foreign := by
    rw [ne_eq, addrClass_eq_foreign_iff]
    omega
  have hgoverned : isDownstreamKind f.kind = true := by rw [hkind]; rfl
  have hallowed : lenAllowed f.kind f.payload.length = true := by rw [hkind, hlen]; rfl
  rw [classOf_of_governed hstop hdest hgoverned, if_pos hallowed, hkind, routeOf_poll, if_pos ⟨h1, h2⟩]

section

variable {s : State} {f : Frame} {epoch : BitVec 16} {rest : List IntakeEntry} (hhead : AtHead s f epoch rest)
  (hclass : classOf f = .poll)
include hhead hclass

theorem exec_poll_of_promotes (hp : Promotes s f.dest) (hdue : duePromotes s = false) :
    exec .poll s = .next (finish (promotePoll { s with intake := rest } f)) := by
  have hcan : canPromote { s with intake := rest } f.dest = true := canPromote_iff.2 hp
  have hfirst : ¬duePromotes { s with intake := rest } = true := Bool.eq_false_iff.1 hdue
  exact takeHead_of_some hhead (by rw [pollTaken, if_pos hclass, if_pos hcan, if_neg hfirst])

/-- A due own POLL takes the Poll Promote place first (R152). -/
theorem exec_poll_of_duePromotes (hp : Promotes s f.dest) (hdue : duePromotes s = true) :
    exec .poll s = .next s := by
  have hcan : canPromote { s with intake := rest } f.dest = true := canPromote_iff.2 hp
  have hfirst : duePromotes { s with intake := rest } = true := hdue
  exact takeHead_of_none hhead (by rw [pollTaken, if_pos hclass, if_pos hcan, if_pos hfirst])

theorem exec_poll_of_room (hp : ¬Promotes s f.dest) (hroom : RoomFor s 1) :
    exec .poll s = .next (finish (queuePoll { s with intake := rest } f)) := by
  have hcannot : ¬canPromote { s with intake := rest } f.dest = true := mt canPromote_iff.1 hp
  exact takeHead_of_some hhead (by
    rw [pollTaken, if_pos hclass, if_neg hcannot, if_pos ((headRoom_behind s rest 1).2 hroom)])

theorem exec_poll_of_noRoom (hp : ¬Promotes s f.dest) (hroom : ¬RoomFor s 1) : exec .poll s = .next s := by
  have hcannot : ¬canPromote { s with intake := rest } f.dest = true := mt canPromote_iff.1 hp
  exact takeHead_of_none hhead (by
    rw [pollTaken, if_pos hclass, if_neg hcannot, if_neg (mt (headRoom_behind s rest 1).1 hroom)])

end

/-! ## OWN_POLL (R140, R152) -/

section

variable {s : State} {h : Slot} {a : LineAddr}

theorem placeOwnPoll_of_promotes (hp : Promotes s a) :
    placeOwnPoll s a = some (promotePoll (stepSeq s 1) (ownPollFrame a s.seqCounter)) :=
  if_pos (canPromote_iff.2 hp)

theorem placeOwnPoll_of_room (hp : ¬Promotes s a) (hbatches : s.internalBatches = []) (hfree : s.motionQueue.length < 32) :
    placeOwnPoll s a = some (queuePoll (stepSeq s 1) (ownPollFrame a s.seqCounter)) :=
  (if_neg (mt canPromote_iff.1 hp)).trans (if_pos (by simp [hbatches, hfree]))

theorem placeOwnPoll_of_noPlace (hp : HasNoPlace s a) : placeOwnPoll s a = none := by
  refine (if_neg (mt canPromote_iff.1 hp.1)).trans (if_neg ?_)
  simp only [Bool.and_eq_true, List.isEmpty_iff, decide_eq_true_eq]
  rintro ⟨hbatches, hfree⟩
  exact hp.2.elim (fun hne => hne hbatches) fun hfull => by omega

/-- What one slot's turn comes to: its own POLL when it is due, and nothing otherwise. -/
theorem ownPoll_of_due (hd : IsDueAt s h a) :
    (if isDue s h then (addrOfSlot s h).bind (placeOwnPoll s) else none) = placeOwnPoll s a := by
  rw [if_pos hd.isDue, hd.2.1]
  rfl

/-- A slot without a place for its own POLL is passed over. -/
theorem ownPoll_of_noPlace (hno : ∀ b, IsDueAt s h b → HasNoPlace s b) :
    (if isDue s h then (addrOfSlot s h).bind (placeOwnPoll s) else none) = none := by
  by_cases hd : isDue s h = true
  · obtain ⟨b, hb⟩ := isDue_iff.1 hd
    rw [ownPoll_of_due hb, placeOwnPoll_of_noPlace (hno b hb)]
  · exact if_neg hd

/-- The own POLL is that of the first due slot with a place. -/
theorem exec_ownPoll_of_due {t : State} (hd : IsDueAt s h a)
    (hbefore : ∀ k, k < h → ∀ b, IsDueAt s k b → HasNoPlace s b) (hplace : placeOwnPoll s a = some t) :
    exec .ownPoll s = .next (finish t) := by
  obtain ⟨before, behind, hsplit⟩ := List.append_of_mem (List.mem_finRange h)
  have hsorted : (before ++ h :: behind).Pairwise (· < ·) := hsplit ▸ List.pairwise_lt_finRange 64
  have hless : ∀ k ∈ before, k < h := fun k hk => (List.pairwise_append.1 hsorted).2.2 k hk h (by simp)
  have hfirst : firstOwnPoll s = some t :=
    List.findSome?_eq_some_iff.2 ⟨before, h, behind, hsplit, (ownPoll_of_due hd).trans hplace,
      fun k hk => ownPoll_of_noPlace (hbefore k (hless k hk))⟩
  show execOwnPoll s = _
  rw [execOwnPoll, hfirst]

theorem exec_ownPoll_of_noPlace (hno : ∀ h a, IsDueAt s h a → HasNoPlace s a) : exec .ownPoll s = .next s := by
  have hnone : firstOwnPoll s = none := List.findSome?_eq_none_iff.2 fun k _ => ownPoll_of_noPlace (hno k)
  show execOwnPoll s = _
  rw [execOwnPoll, hnone]

end

/-- Settles O46: each POLL goes to the queue whose conditions it meets, and the placing marks its hoist alone. -/
theorem pollsArePlaced : Obligations.PollsArePlaced := by
  intro s placed passes promotes due entry
  refine ⟨fun h => isDue_iff, duePromotes_iff, dueClaims_iff, fun f epoch rest hhead hkind hlen h1 h2 => ?_,
    fun h a hd hbefore => ?_, exec_ownPoll_of_noPlace⟩
  · have hclass := classOf_poll hkind hlen h1 h2
    refine ⟨fun hp hdue => ?_, exec_poll_of_duePromotes hhead hclass, fun hp hroom => ?_,
      exec_poll_of_noRoom hhead hclass⟩
    · have hframe := promotePoll_frame { s with intake := rest } f
      exact ⟨_, exec_poll_of_promotes hhead hclass hp hdue, hoistAt_markPolled _ f, congrArg State.intake hframe,
        congrArg State.pollPromote hframe,
        congrArg (fun t : State => { t with intake := s.intake, pollPromote := s.pollPromote, hoists := s.hoists }) hframe⟩
    · have hframe := queuePoll_frame { s with intake := rest } f
      exact ⟨_, exec_poll_of_room hhead hclass hp hroom, hoistAt_markPolled _ f, congrArg State.intake hframe,
        congrArg State.motionQueue hframe,
        congrArg (fun t : State => { t with intake := s.intake, motionQueue := s.motionQueue, hoists := s.hoists }) hframe⟩
  · intro f
    refine ⟨fun hp => ?_, fun hp hbatches hfree => ?_⟩
    · have hframe := promotePoll_frame (stepSeq s 1) f
      exact ⟨_, exec_ownPoll_of_due hd hbefore (placeOwnPoll_of_promotes hp), hoistAt_markPolled _ f,
        congrArg State.seqCounter hframe, congrArg State.pollPromote hframe,
        congrArg (fun t : State => { t with seqCounter := s.seqCounter, pollPromote := s.pollPromote, hoists := s.hoists })
          hframe⟩
    · have hframe := queuePoll_frame (stepSeq s 1) f
      exact ⟨_, exec_ownPoll_of_due hd hbefore (placeOwnPoll_of_room hp hbatches hfree), hoistAt_markPolled _ f,
        congrArg State.seqCounter hframe, congrArg State.motionQueue hframe,
        congrArg (fun t : State => { t with seqCounter := s.seqCounter, motionQueue := s.motionQueue, hoists := s.hoists })
          hframe⟩

end Sys2Proof.Machine
end

/-! # Sitting 8: a raise, SET_IDENTITY, CLEAR_CAUSE and LINE_RESET -/
section

namespace Sys2Proof.Machine

/-! ## A raise (R175) -/

/-- Settles O21: the two cases of a raise, and a write of one record of the notices. -/
theorem noticeRaiseKeepsLatest : Obligations.NoticeRaiseKeepsLatest := by
  intro s src p
  rcases raiseNotice_cases s src p with ⟨hlevel, hraise⟩ | ⟨hlevel, hraise⟩ <;> rw [hraise]
  · exact ⟨fun _ => rfl, fun h => absurd hlevel h⟩
  · exact ⟨fun h => absurd h hlevel,
      fun _ => ⟨Table.get_set_self .., fun i hi => Table.get_set_of_ne _ _ hi, rfl⟩⟩

/-! ## SET_IDENTITY, CLEAR_CAUSE and LINE_RESET (R172, R183, R189, R192) -/

theorem exec_setIdentity (s : State) : exec .setIdentity s = takeHead s (mgmtTaken (· == 0x09#8) setIdentityOp) := rfl

theorem exec_clearCause (s : State) : exec .clearCause s = takeHead s (mgmtTaken (· == 0x07#8) clearCauseOp) := rfl

theorem exec_lineReset (s : State) : exec .lineReset s = takeHead s (mgmtTaken (· == 0x0C#8) lineResetOp) := rfl

theorem toNat_append_byte {w : Nat} (x : BitVec w) (b : Byte) : (x ++ b).toNat = x.toNat * 256 + b.toNat := by
  rw [BitVec.toNat_append, ← Nat.shiftLeft_add_eq_or_of_lt b.isLt, Nat.shiftLeft_eq]

/-- Four bytes are the number of their concatenation. -/
theorem bytesNat_four (a b c d : Byte) : bytesNat [a, b, c, d] = (a ++ b ++ c ++ d).toNat := by
  rw [toNat_append_byte, toNat_append_byte, toNat_append_byte]
  simp [bytesNat]

/-- The Values of a frame of thirteen payload bytes are its last four. -/
theorem mgmtValues_of_length {f : Frame} (h : f.payload.length = 13) :
    mgmtValues f = [payloadByte f 9, payloadByte f 10, payloadByte f 11, payloadByte f 12] := by
  have hbyte : ∀ n (hn : n < f.payload.length), f.payload[n] = payloadByte f n := fun n hn =>
    (List.getD_eq_getElem _ _ hn).symm
  rw [mgmtValues, List.drop_eq_getElem_cons (by omega), List.drop_eq_getElem_cons (by omega),
    List.drop_eq_getElem_cons (by omega), List.drop_eq_getElem_cons (by omega), List.drop_eq_nil_of_le (by omega)]
  simp only [hbyte]

theorem identity_of_values {f : Frame} (h : f.payload.length = 13) :
    BitVec.ofNat 32 (bytesNat (mgmtValues f)) =
      payloadByte f 9 ++ payloadByte f 10 ++ payloadByte f 11 ++ payloadByte f 12 := by
  rw [mgmtValues_of_length h, bytesNat_four, BitVec.ofNat_toNat]
  exact BitVec.setWidth_eq _

/-- The Values of an MGMT frame have four bytes exactly when its payload has thirteen. -/
theorem length_mgmtValues_eq_four_iff (f : Frame) : (mgmtValues f).length = 4 ↔ f.payload.length = 13 := by
  rw [mgmtValues, List.length_drop]
  omega

section

variable {s : State} {f : Frame}

theorem setIdentityOp_of_length (h : f.payload.length ≠ 13) : setIdentityOp s f = refuses s .malformed :=
  if_pos (mt (length_mgmtValues_eq_four_iff f).1 h)

theorem setIdentityOp_of_set (h : f.payload.length = 13) (hset : s.rigIdentity ≠ none) :
    setIdentityOp s f = refuses s .writeOnce := by
  rw [setIdentityOp, if_neg (not_not.2 ((length_mgmtValues_eq_four_iff f).2 h)),
    if_pos (Option.isSome_iff_ne_none.2 hset)]

theorem setIdentityOp_of_unset (h : f.payload.length = 13) (hunset : s.rigIdentity = none) :
    setIdentityOp s f = done { s with
      rigIdentity := some (payloadByte f 9 ++ payloadByte f 10 ++ payloadByte f 11 ++ payloadByte f 12) } := by
  rw [setIdentityOp, if_neg (not_not.2 ((length_mgmtValues_eq_four_iff f).2 h)), hunset,
    if_neg (by decide : ¬(none : Option (BitVec 32)).isSome = true), identity_of_values h]

end

theorem clearCauseOp_eq (s : State) (f : Frame) : clearCauseOp s f = done { s with causeRecord := none } := rfl

/-- Settles O55: SET_IDENTITY by the length of its Values and by whether an identity is set; the DONE reply to LINE_RESET
is the only one marked. -/
theorem identityCauseAndLineReset : Obligations.IdentityCauseAndLineReset := by
  intro s f epoch rest op htake
  refine ⟨fun hop => ?_, fun hop => ?_, fun hop => ?_⟩ <;> subst hop
  · rw [exec_setIdentity]
    refine ⟨fun hlen => takeHead_refused htake (r := .malformed) (setIdentityOp_of_length hlen),
      fun hlen hset => takeHead_refused htake (r := .writeOnce) (setIdentityOp_of_set hlen hset),
      fun hlen hunset => ?_⟩
    have hstored := setIdentityOp_of_unset (s := { s with intake := rest }) hlen hunset
    rw [takeHead_done htake (by decide) hstored]
  · rw [exec_clearCause, takeHead_done htake (by decide) (clearCauseOp_eq { s with intake := rest } f)]
  · have hreset : (mgmtOp f == opLineReset) = true := beq_iff_eq.2 htake.2.1
    rw [exec_lineReset, takeHead_mgmt htake]
    simp only [placeReply, lineResetOp, done, hreset, Option.isNone_none, Bool.and_self]
    rfl

end Sys2Proof.Machine
end

/-! # Sitting 8: the operations that return records -/
section

namespace Sys2Proof.Machine

/-! ## Numbers in bytes (R194) -/

theorem natBytes_one (n : Nat) : natBytes 1 n = [BitVec.ofNat 8 n] := by simp [natBytes]

theorem natBytes_two (n : Nat) : natBytes 2 n = twoBytes n := by simp [natBytes]

theorem natBytes_four (n : Nat) : natBytes 4 n = fourBytes n := by simp [natBytes]

theorem intBytes_two (i : Int) : intBytes 2 i = twoBytes (i % 65536).toNat := natBytes_two _

theorem intBytes_four (i : Int) : intBytes 4 i = fourBytes (i % 4294967296).toNat := natBytes_four _

theorem highByte_lowByte_eq_twoBytes (w : BitVec 16) : [highByte w, lowByte w] = twoBytes w.toNat := by
  have hhigh : highByte w = BitVec.ofNat 8 (w.toNat / 256) :=
    BitVec.eq_of_toNat_eq (by simp [highByte, Nat.shiftRight_eq_div_pow])
  have hlow : lowByte w = BitVec.ofNat 8 w.toNat := BitVec.eq_of_toNat_eq (by simp [lowByte])
  rw [hhigh, hlow]

/-- A byte held as a number that may be absent reads itself or 0xFF. -/
theorem optByte_map_toNat {α : Type} (code : α → Byte) (v : Option α) :
    optByte (v.map fun x => (code x).toNat) = (v.map code).getD 0xFF#8 := by
  cases v with
  | none => rfl
  | some x => exact BitVec.ofNat_toNat .. |>.trans (BitVec.setWidth_eq _)

theorem optWord_eq_twoBytes (v : Option Nat) : optWord v = twoBytes (v.getD 0xFFFF) := natBytes_two _

/-- The records of a table, one by one. -/
theorem cells_map_eq {n : Nat} {α β : Type} (t : Table n α) (f : α → β) :
    t.cells.map f = (List.finRange n).map fun i => f (t.get i) := by
  refine List.ext_getElem (by simp [t.size]) fun k hk _ => ?_
  simp [Table.get]

/-! ## The configured records byte by byte (R194) -/

section

variable (s : State)

theorem recordBytes_hoist (h : Slot) :
    let c := cfgAt s h
    recordBytes s (.hoist h) = [boolByte c.present, groupByte c.group, if c.limitSource = .own then 0x00#8 else 0x01#8]
      ++ twoBytes c.softLow ++ twoBytes c.softHigh ++ twoBytes c.speedCeiling ++ twoBytes c.underLimit
      ++ twoBytes c.derateStart ++ twoBytes c.overLimit ++ twoBytes c.weight ++ twoBytes (c.offset % 65536).toNat := by
  intro c
  have hsource : natBytes 1 (limitSourceNumber c.limitSource) =
      [if c.limitSource = .own then 0x00#8 else 0x01#8] := by cases c.limitSource <;> rfl
  show (hoistFields c).flatten = _
  rw [hoistFields, hsource]
  simp only [natBytes_two, intBytes_two]
  rfl

theorem recordBytes_group (g : GroupNo) :
    let c := (groupAt s g).cfg
    recordBytes s (.group g) = twoBytes c.speedCeiling ++ twoBytes c.skewWarn ++ twoBytes c.skewLimit
      ++ twoBytes c.shareWarn ++ twoBytes c.shareTolerance ++ twoBytes c.shareFloor ++ twoBytes c.underLimit
      ++ twoBytes c.derateStart ++ twoBytes c.overLimit
      ++ [match c.trackStart with | some i => BitVec.ofNat 8 i.val | none => 0xFF#8] := by
  intro c
  show (groupFields c).flatten = _
  simp only [groupFields, natBytes_two]
  rfl

theorem recordBytes_map (i : MapNo) :
    let e := s.addressMap.get i
    recordBytes s (.map i) = [boolByte e.enabled] ++ twoBytes e.base.toNat
      ++ [BitVec.ofNat 8 e.spanExp, BitVec.ofNat 8 e.slotBase.val] := by
  intro e
  show (mapFields e).flatten = _
  simp only [mapFields, natBytes_one, highByte_lowByte_eq_twoBytes]
  rfl

theorem recordBytes_filter (i : FilterNo) :
    let t := s.filters.get i
    recordBytes s (.filter i) = [boolByte t.enabled,
        match t.direction with | .down => 0x00#8 | .up => 0x01#8 | .both => 0x02#8,
        boolByte t.kindMatch, t.kind, BitVec.ofNat 8 t.offset] ++ fourBytes t.mask.toNat ++ twoBytes t.expected.toNat
      ++ [match t.action with
          | .mark => 0x00#8 | .drop => 0x01#8 | .holdGroup => 0x02#8 | .haltGroup => 0x03#8
          | .holdAll => 0x04#8 | .haltAll => 0x05#8,
        BitVec.ofNat 8 t.actionGroup.val, boolByte t.capture] := by
  intro t
  have hdirection : BitVec.ofNat 8 (directionNumber t.direction) =
      match t.direction with | .down => 0x00#8 | .up => 0x01#8 | .both => 0x02#8 := by cases t.direction <;> rfl
  have haction : BitVec.ofNat 8 (actionNumber t.action) =
      match t.action with
      | .mark => 0x00#8 | .drop => 0x01#8 | .holdGroup => 0x02#8 | .haltGroup => 0x03#8
      | .holdAll => 0x04#8 | .haltAll => 0x05#8 := by cases t.action <;> rfl
  show (filterFields t).flatten = _
  simp only [filterFields, natBytes_one, natBytes_four, highByte_lowByte_eq_twoBytes, hdirection, haction]
  rfl

theorem recordBytes_track (i : TrackIx) :
    let d := s.trackPool.get i
    recordBytes s (.track i) = twoBytes d.base ++ twoBytes d.speed ++ twoBytes d.dwell ++ [boolByte d.last] := by
  intro d
  show (trackFields d).flatten = _
  simp only [trackFields, natBytes_two]
  rfl

theorem recordBytes_line :
    recordBytes s .line = twoBytes s.line.sweepInterval ++ [BitVec.ofNat 8 s.line.pollTimeout]
      ++ twoBytes s.line.ageLimit ++ twoBytes s.line.silenceLimit
      ++ [if s.line.silenceAction = .holdAll then 0x00#8 else 0x01#8, BitVec.ofNat 8 s.line.arrivalWindow,
        if s.line.ownSampleRelay = .relay then 0x00#8 else 0x01#8, boolByte s.line.recoverClearsCause]
      ++ (List.finRange 16).map fun i => BitVec.ofNat 8 (s.line.noticeLevels.get i) := by
  have hsilence : natBytes 1 (silenceActionNumber s.line.silenceAction) =
      [if s.line.silenceAction = .holdAll then 0x00#8 else 0x01#8] := by cases s.line.silenceAction <;> rfl
  have hrelay : natBytes 1 (relayNumber s.line.ownSampleRelay) =
      [if s.line.ownSampleRelay = .relay then 0x00#8 else 0x01#8] := by cases s.line.ownSampleRelay <;> rfl
  rw [recordBytes, lineFields, hsilence, hrelay, cells_map_eq]
  simp only [natBytes_one, natBytes_two]
  rfl

theorem recordBytes_identity :
    recordBytes s .identity = [0x36#8, 0x01#8] ++ fourBytes (s.rigIdentity.getD 0#32).toNat
      ++ [boolByte s.rigIdentity.isSome] := by
  rw [recordBytes, identityBytes, natBytes_four]

/-! ## The live parts byte by byte (R188, R194) -/

theorem hoistLiveBytes_eq (l : HoistLive) :
    hoistLiveBytes l = [hoistStateCode l.state] ++ twoBytes (l.position.getD 0xFFFF) ++ twoBytes (l.load.getD 0xFFFF)
      ++ [match l.driveState with | some d => driveStateCode d | none => 0xFF#8] ++ twoBytes l.sampleAge
      ++ [loadConditionCode l.loadCondition]
      ++ (match l.grant with
          | some g => twoBytes g.target ++ twoBytes g.speed ++ [g.tag]
          | none => [0xFF#8, 0xFF#8, 0xFF#8, 0xFF#8, 0x00#8])
      ++ [boolByte l.arrived, boolByte l.fresh, boolByte l.pollOutstanding, optCauseCode l.lastStopCause] := by
  simp only [hoistLiveBytes, optByte_map_toNat, optWord_eq_twoBytes, natBytes_two]
  cases l.driveState <;> cases l.grant <;> rfl

theorem groupLiveBytes_eq (g : GroupNo) :
    let l := (groupAt s g).live
    groupLiveBytes s g = [groupStateCode l.state, verdictCode l.lastVerdict, BitVec.ofNat 8 l.cleanStreak,
        optCauseCode l.tripCause]
      ++ (match l.grant with
          | some gr => fourBytes (gr.base % 4294967296).toNat ++ twoBytes gr.speed ++ [gr.tag]
          | none => [0x7F#8, 0xFF#8, 0xFF#8, 0xFF#8, 0xFF#8, 0xFF#8, 0x00#8])
      ++ (match l.wave with
          | some w => [0x01#8, w.tag] ++ twoBytes w.speed
          | none => [0x00#8, 0xFF#8, 0xFF#8, 0xFF#8])
      ++ fourBytes (l.lastSkew.getD 0xFFFFFFFF) ++ twoBytes (l.lastDmax.getD 0xFFFF)
      ++ (match l.track with
          | some tr => [BitVec.ofNat 8 tr.cursor.val] ++ twoBytes (tr.dwell.getD 0xFFFF)
          | none => [0xFF#8, 0xFF#8, 0xFF#8])
      ++ [BitVec.ofNat 8 (members s g).length] := by
  intro l
  simp only [groupLiveBytes, optByte_map_toNat, optWord_eq_twoBytes, natBytes_four, intBytes_four]
  cases l.grant <;> cases l.wave <;> cases l.track <;> rfl

/-! ## The Cause Record byte by byte (R173, R194) -/

theorem causeSummary_some (r : CauseRecord) :
    causeSummary (some r) = [0x00#8, causeCode r.first] ++ fourBytes r.time.toNat
      ++ [slotByte r.hoist, groupByte r.group]
      ++ (match r.filterHits with
          | some hits => twoBytes (hits.map fun i => 2 ^ i.val).sum
          | none => [0xFF#8, 0xFF#8])
      ++ [BitVec.ofNat 8 (r.capture.getD []).length]
      ++ twoBytes (r.later.map fun c => 2 ^ (causeNumber c - 1)).sum := by
  simp only [causeSummary, natBytes_two, natBytes_four, optWord_eq_twoBytes]
  cases r.filterHits <;> rfl

theorem causeCapture_eq (r : Option CauseRecord) :
    causeCapture r =
      match r.bind (·.capture) with
      | some bytes => BitVec.ofNat 8 bytes.length :: bytes
      | none => [0x00#8] := by
  unfold causeCapture
  cases r.bind (·.capture) <;> rfl

end

/-! ## The operations that read (R185, R188, R189) -/

section

variable {s : State} {f : Frame} {epoch : BitVec 16} {rest : List IntakeEntry} {op : Byte}

/-- An operation that returns Values is answered DONE with them and changes nothing (R182, R193). -/
theorem takeHead_returns (h : MgmtTakes s f epoch rest op) (hop : op ≠ 0x0C#8) {act : State → Frame → MgmtResult}
    {values : List Byte} (hact : act { s with intake := rest } f = returns { s with intake := rest } values) :
    takeHead s (mgmtTaken (· == op) act) = .next (finish (answeredWith s rest (doneReply f values))) := by
  have hreset : (mgmtOp f == opLineReset) = false := beq_eq_false_iff_ne.2 (h.2.1.symm ▸ hop)
  rw [takeHead_mgmt h, hact]
  simp only [placeReply, returns, hreset, Option.isNone_none, Bool.and_false]
  rfl

theorem exec_read (s : State) : exec .read s = takeHead s (mgmtTaken (· == 0x01#8) readOp) := rfl

theorem exec_readLive (s : State) : exec .readLive s = takeHead s (mgmtTaken (· == 0x03#8) readLiveOp) := rfl

theorem exec_readCause (s : State) : exec .readCause s = takeHead s (mgmtTaken (· == 0x08#8) readCauseOp) := rfl

/-! ### READ -/

theorem recordOf_identity (ht : (payloadByte f 5).toNat = 6) (hi : (payloadByte f 6).toNat = 1) :
    recordOf f = .ok .identity := by
  rw [recordOf, mgmtTable, tableOf_of_toNat ht, mgmtIndex, hi]
  rfl

theorem recordOf_badIndex_of_line (ht : (payloadByte f 5).toNat = 6) (hi : 2 ≤ (payloadByte f 6).toNat) :
    recordOf f = .error .badIndex := by
  rw [recordOf, mgmtTable, tableOf_of_toNat ht, mgmtIndex]
  show (if _ then _ else if _ then _ else _) = _
  rw [if_neg (by omega), if_neg (by omega)]

/-- A record read does not lie in the Intake. -/
theorem recordBytes_intake (s : State) (rest : List IntakeEntry) (id : RecordId) :
    recordBytes { s with intake := rest } id = recordBytes s id := by cases id <;> rfl

theorem read_returns (htake : MgmtTakes s f epoch rest 0x01#8) {id : RecordId} (hid : recordOf f = .ok id)
    {values : List Byte} (hbytes : recordBytes s id = values) :
    exec .read s = .next (finish (answeredWith s rest (doneReply f values))) := by
  rw [exec_read]
  refine takeHead_returns htake (by decide) ?_
  rw [readOp, hid, ← hbytes, ← recordBytes_intake s rest id]

theorem read_refused (htake : MgmtTakes s f epoch rest 0x01#8) {r : Reason} (hid : recordOf f = .error r) :
    exec .read s = .next (finish (answeredWith s rest (refusedReply f (reasonCode r) []))) := by
  rw [exec_read]
  refine takeHead_refused htake ?_
  rw [readOp, hid]

/-! ### READ_LIVE -/

theorem readLive_returns_hoist (htake : MgmtTakes s f epoch rest 0x03#8) (ht : (payloadByte f 5).toNat = 1) (h : Slot)
    (hi : (payloadByte f 6).toNat = h.val) {values : List Byte} (hbytes : hoistLiveBytes (liveAt s h) = values) :
    exec .readLive s = .next (finish (answeredWith s rest (doneReply f values))) := by
  rw [exec_readLive]
  refine takeHead_returns htake (by decide) ?_
  rw [readLiveOp, mgmtTable, (tableOf_eq_some_hoist_iff _).2 ht, mgmtIndex]
  simp only [indexIn_of_lt h hi]
  exact congrArg (returns _) hbytes

theorem readLive_returns_group (htake : MgmtTakes s f epoch rest 0x03#8) (ht : (payloadByte f 5).toNat = 2)
    (g : GroupNo) (hi : (payloadByte f 6).toNat = g.val) {values : List Byte} (hbytes : groupLiveBytes s g = values) :
    exec .readLive s = .next (finish (answeredWith s rest (doneReply f values))) := by
  rw [exec_readLive]
  refine takeHead_returns htake (by decide) ?_
  rw [readLiveOp, mgmtTable, (tableOf_eq_some_group_iff _).2 ht, mgmtIndex]
  simp only [indexIn_of_lt g hi]
  exact congrArg (returns _) hbytes

theorem readLiveOp_badTable (h1 : (payloadByte f 5).toNat ≠ 1) (h2 : (payloadByte f 5).toNat ≠ 2) :
    readLiveOp s f = refuses s .badTable := by
  unfold readLiveOp mgmtTable
  cases hb : tableOf (payloadByte f 5) with
  | none => rfl
  | some t =>
    cases t with
    | hoist => exact absurd ((tableOf_eq_some_hoist_iff _).1 hb) h1
    | group => exact absurd ((tableOf_eq_some_group_iff _).1 hb) h2
    | all | map | filter | track | line => rfl

theorem readLiveOp_badIndex
    (h : ((payloadByte f 5).toNat = 1 ∧ 64 ≤ (payloadByte f 6).toNat) ∨
      ((payloadByte f 5).toNat = 2 ∧ 16 ≤ (payloadByte f 6).toNat)) : readLiveOp s f = refuses s .badIndex := by
  rcases h with ⟨ht, hi⟩ | ⟨ht, hi⟩
  · rw [readLiveOp, mgmtTable, (tableOf_eq_some_hoist_iff _).2 ht, mgmtIndex]
    simp only [indexIn_of_le hi]
  · rw [readLiveOp, mgmtTable, (tableOf_eq_some_group_iff _).2 ht, mgmtIndex]
    simp only [indexIn_of_le hi]

/-! ### READ_CAUSE -/

theorem readCause_returns_summary (htake : MgmtTakes s f epoch rest 0x08#8) (hi : (payloadByte f 6).toNat = 0)
    {values : List Byte} (hbytes : causeSummary s.causeRecord = values) :
    exec .readCause s = .next (finish (answeredWith s rest (doneReply f values))) := by
  rw [exec_readCause]
  refine takeHead_returns htake (by decide) ?_
  rw [readCauseOp, mgmtIndex, if_pos hi, hbytes]

theorem readCause_returns_capture (htake : MgmtTakes s f epoch rest 0x08#8) (hi : (payloadByte f 6).toNat = 1)
    {values : List Byte} (hbytes : causeCapture s.causeRecord = values) :
    exec .readCause s = .next (finish (answeredWith s rest (doneReply f values))) := by
  rw [exec_readCause]
  refine takeHead_returns htake (by decide) ?_
  rw [readCauseOp, mgmtIndex, if_neg (by omega), if_pos hi, hbytes]

theorem readCauseOp_badIndex (hi : 2 ≤ (payloadByte f 6).toNat) : readCauseOp s f = refuses s .badIndex := by
  rw [readCauseOp, mgmtIndex, if_neg (by omega), if_neg (by omega)]

end

/-- Settles O49: the record that the Table and Index name, or the refusal, and the bytes of each record. -/
theorem readsReturnRecords : Obligations.ReadsReturnRecords := by
  refine ⟨⟨rfl, rfl, rfl, rfl, rfl, rfl, fun c => ⟨rfl, rfl, rfl⟩⟩, ?_⟩
  intro s f epoch rest table index returned refusal
  refine ⟨fun htake => ⟨?_, ?_, ?_, ?_, ?_, ?_, ?_, ?_, ?_⟩, fun htake => ⟨?_, ?_, ?_, ?_⟩,
    fun htake => ⟨?_, ?_, ?_, ?_⟩⟩
  · exact fun ht h hi => read_returns htake (recordOf_hoist ht h hi) (recordBytes_hoist s h)
  · exact fun ht g hi => read_returns htake (recordOf_group ht g hi) (recordBytes_group s g)
  · exact fun ht i hi => read_returns htake (recordOf_map ht i hi) (recordBytes_map s i)
  · exact fun ht i hi => read_returns htake (recordOf_filter ht i hi) (recordBytes_filter s i)
  · exact fun ht i hi => read_returns htake (recordOf_track ht i hi) (recordBytes_track s i)
  · exact fun ht hi => read_returns htake (recordOf_line ht hi) (recordBytes_line s)
  · exact fun ht hi => read_returns htake (recordOf_identity ht hi) (recordBytes_identity s)
  · exact fun ht => read_refused htake (r := .badTable) (recordOf_badTable ht)
  · intro h
    refine read_refused htake (r := .badIndex) ?_
    rcases h with ⟨ht, hi⟩ | ⟨ht, hi⟩ | ⟨ht, hi⟩ | ⟨ht, hi⟩
    · exact recordOf_badIndex_of_hoist ht hi
    · exact recordOf_badIndex_of_sixteen ht hi
    · exact recordOf_badIndex_of_track ht hi
    · exact recordOf_badIndex_of_line ht hi
  · exact fun ht h hi => readLive_returns_hoist htake ht h hi (hoistLiveBytes_eq _)
  · exact fun ht g hi => readLive_returns_group htake ht g hi (groupLiveBytes_eq s g)
  · exact fun h1 h2 => takeHead_refused htake (r := .badTable) (readLiveOp_badTable h1 h2)
  · exact fun h => takeHead_refused htake (r := .badIndex) (readLiveOp_badIndex h)
  · exact fun hi hnone => readCause_returns_summary htake hi (by rw [hnone, causeSummary])
  · exact fun hi r hr => readCause_returns_summary htake hi (by rw [hr]; exact causeSummary_some r)
  · exact fun hi => readCause_returns_capture htake hi (causeCapture_eq _)
  · exact fun hi => takeHead_refused htake (r := .badIndex) (readCauseOp_badIndex hi)

end Sys2Proof.Machine
end

/-! # Sitting 8: the order of the Upstream Arbiter -/
section

namespace Sys2Proof.Machine

/-! ## The notice that is picked (R177) -/

/-- The place of source `i` before source `j` in the order of R177: the higher level first, then the lower number. -/
def PickedBefore (s : State) (i j : Fin 16) : Prop :=
  noticeLevel s j < noticeLevel s i ∨ (noticeLevel s j = noticeLevel s i ∧ i ≤ j)

/-- What a pending source is compared with while the sources are gone through in their order. -/
def pickBetter (s : State) (best : Option (Fin 16)) (i : Fin 16) : Option (Fin 16) :=
  match s.notices.get i with
  | none => best
  | some _ =>
    match best with
    | none => some i
    | some j => if noticeLevel s j < noticeLevel s i then some i else some j

theorem pickNotice_eq_foldl (s : State) : pickNotice s = (List.finRange 16).foldl (pickBetter s) none := rfl

section

variable {s : State} {i : Fin 16} {n : Notice}

/-- Before its turn, sources of a lower level alone have been picked; it replaces each of them. -/
theorem pickBetter_self (hi : s.notices.get i = some n) {best : Option (Fin 16)}
    (hbest : ∀ j, best = some j → noticeLevel s j < noticeLevel s i) : pickBetter s best i = some i := by
  cases best with
  | none => simp [pickBetter, hi]
  | some j => simp [pickBetter, hi, hbest j rfl]

/-- A source of no higher level does not replace it. -/
theorem pickBetter_of_le {k : Fin 16} (hk : s.notices.get k ≠ none → noticeLevel s k ≤ noticeLevel s i) :
    pickBetter s (some i) k = some i := by
  cases hpending : s.notices.get k with
  | none => simp [pickBetter, hpending]
  | some m => simp [pickBetter, hpending, Nat.not_lt.2 (hk (by simp [hpending]))]

/-- What has been picked among some sources is a pending one of them. -/
theorem mem_of_foldl_pickBetter {l : List (Fin 16)} {j : Fin 16} (h : l.foldl (pickBetter s) none = some j) :
    j ∈ l ∧ s.notices.get j ≠ none := by
  refine List.foldlRecOn l (pickBetter s)
    (motive := fun best => ∀ j, best = some j → j ∈ l ∧ s.notices.get j ≠ none)
    (fun j hj => by cases hj) (fun best hbest k hk j hj => ?_) j h
  unfold pickBetter at hj
  split at hj
  · exact hbest j hj
  · next m hm =>
    have hpending : k ∈ l ∧ s.notices.get k ≠ none := ⟨hk, by simp [hm]⟩
    split at hj
    · exact Option.some.inj hj ▸ hpending
    · split at hj
      · exact Option.some.inj hj ▸ hpending
      · exact hbest j hj

/-- The pending source that comes before every other is the one picked (R177 step 2). -/
theorem pickNotice_of_first (hi : s.notices.get i = some n)
    (hfirst : ∀ j, s.notices.get j ≠ none → PickedBefore s i j) :
    pickNotice s = some i := by
  obtain ⟨before, behind, hsplit⟩ := List.append_of_mem (List.mem_finRange i)
  have hsorted : (before ++ i :: behind).Pairwise (· < ·) := hsplit ▸ List.pairwise_lt_finRange 16
  have hlower : ∀ j, before.foldl (pickBetter s) none = some j → noticeLevel s j < noticeLevel s i := fun j hj => by
    obtain ⟨hmem, hpending⟩ := mem_of_foldl_pickBetter hj
    have hlt : j < i := (List.pairwise_append.1 hsorted).2.2 j hmem i (by simp)
    exact (hfirst j hpending).resolve_right fun h => absurd h.2 (not_le.2 hlt)
  have hstays : behind.foldl (pickBetter s) (some i) = some i :=
    List.foldlRecOn behind (pickBetter s) (motive := (· = some i)) rfl fun best hbest k _ => by
      rw [hbest]
      exact pickBetter_of_le fun hk => (hfirst k hk).elim Nat.le_of_lt fun h => h.1.le
  rw [pickNotice_eq_foldl, hsplit, List.foldl_append, List.foldl_cons, pickBetter_self hi hlower, hstays]

end

theorem pickNotice_of_none {s : State} (h : ∀ i, s.notices.get i = none) : pickNotice s = none :=
  Option.eq_none_iff_forall_ne_some.2 fun i hi => by
    have := isSome_of_pickNotice hi
    simp [h i] at this

/-! ## What an idle U-port sends (R177, R178, R180) -/

section

variable {s : State}

theorem sendRelay_of_cons {f : Frame} {fs : List Frame} (h : s.relayQueue = f :: fs) :
    sendRelay s = { s with uWire := some f, relayQueue := fs, lastWasNotice := false } := by
  rw [sendRelay, h]

theorem sendRelay_of_nil (h : s.relayQueue = []) : sendRelay s = s := by rw [sendRelay, h]

theorem arbitrate_of_lineReset (hidle : s.uWire = none) {r : Reply} (hr : s.replySlot = some r)
    (hresets : r.resets = true) : arbitrate s = s := by
  simp only [arbitrate, hidle, hr, hresets, if_true]

theorem arbitrate_of_reply (hidle : s.uWire = none) {r : Reply} (hr : s.replySlot = some r)
    (hresets : r.resets = false) :
    arbitrate s = { s with uWire := some r.frame, replySlot := none, lastWasNotice := false } := by
  simp only [arbitrate, hidle, hr, hresets, Bool.false_eq_true, if_false]

/-- A pending notice is sent, unless it is a relayed frame's turn (R177 step 2). -/
theorem arbitrate_of_picked (hidle : s.uWire = none) (hreply : s.replySlot = none) {i : Fin 16}
    (hi : pickNotice s = some i) :
    arbitrate s = if s.lastWasNotice = false ∨ s.relayQueue = [] then sendNotice s i else sendRelay s := by
  simp only [arbitrate, hidle, hreply, hi, Bool.or_eq_true, Bool.not_eq_true', List.isEmpty_iff]

theorem arbitrate_of_noNotice (hidle : s.uWire = none) (hreply : s.replySlot = none)
    (hnone : ∀ i, s.notices.get i = none) : arbitrate s = sendRelay s := by
  simp only [arbitrate, hidle, hreply, pickNotice_of_none hnone]

/-- The frame of a notice, byte by byte, and its source freed (R30, R178). -/
theorem sendNotice_of_pending {i : Fin 16} {n : Notice} (hi : s.notices.get i = some n) :
    sendNotice s i = { s with
      uWire := some { kind := 0x4E#8, dest := 0xFFFF#16, src := 0xFFFE#16, seq := s.seqCounter,
                      payload := [BitVec.ofNat 8 (i.val + 1), BitVec.ofNat 8 (noticeLevel s i), boolByte n.repeated,
                        slotByte n.hoist, groupByte n.group, n.code, n.detail, n.relatedSeq]
                        ++ fourBytes n.time.toNat }
      notices := s.notices.set i none
      lastWasNotice := true
      seqCounter := s.seqCounter + 1#8 } := by
  rw [sendNotice, hi]
  simp only [noticeFrame, natBytes_four]
  rfl

end

/-! ## U_PORT_TRANSMIT_COMPLETION -/

theorem exec_uPortTransmitCompletion (s : State) :
    exec .uPortTransmitCompletion s = execUPortTransmitCompletion s := rfl

theorem exec_uPortTransmitCompletion_of_sent {s : State} {sent : Frame} (h : s.uWire = some sent) :
    exec .uPortTransmitCompletion s = .next (finish { s with uWire := none }) := by
  rw [exec_uPortTransmitCompletion, execUPortTransmitCompletion, h]

/-- Beside a settled D-port, the completion is the selection of the Upstream Arbiter alone. -/
theorem exec_uPortTransmitCompletion_of_settled {s : State} {sent : Frame} (h : s.uWire = some sent)
    (hsettled : DPortSettled s) {t : State} (ht : arbitrate { s with uWire := none } = t) :
    exec .uPortTransmitCompletion s = .next t := by
  rw [exec_uPortTransmitCompletion_of_sent h, finish, settleStage_of_settled { s with uWire := none } hsettled, ht]

/-- Settles O58: the Transmit Stage stands still, and the U-port, just idle, selects by the order of R177. -/
theorem upstreamSelectionOrder : Obligations.UpstreamSelectionOrder := by
  refine ⟨fun s hidle => ?_, fun s sent hsent => exec_uPortTransmitCompletion_of_sent hsent,
    fun s sent hsent hsettled => ?_⟩
  · rw [exec_uPortTransmitCompletion, execUPortTransmitCompletion, hidle]
  · have hselects {t : State} := exec_uPortTransmitCompletion_of_settled hsent hsettled (t := t)
    have hrelays := arbitrate_of_noNotice (s := { s with uWire := none }) rfl
    refine ⟨fun r hr hresets => hselects (arbitrate_of_lineReset rfl hr hresets),
      fun r hr hresets => hselects (arbitrate_of_reply rfl hr hresets),
      fun hreply i n hi hfirst => ?_,
      fun hreply hnone f fs hrelay => hselects ((hrelays hreply hnone).trans (sendRelay_of_cons hrelay)),
      fun hreply hnone hrelay => hselects ((hrelays hreply hnone).trans (sendRelay_of_nil hrelay))⟩
    have hpicked := arbitrate_of_picked (s := { s with uWire := none }) rfl hreply (pickNotice_of_first hi hfirst)
    refine ⟨fun hturn => hselects ?_, fun hlast f fs hrelay => hselects ?_⟩
    · rw [hpicked, if_pos hturn]
      exact sendNotice_of_pending hi
    · rw [hpicked, if_neg (by simp [hlast, hrelay])]
      exact sendRelay_of_cons hrelay

end Sys2Proof.Machine
end

/-! # Sitting 9: the records of the six tables read back -/
section

namespace Sys2Proof.Machine

/-- Settles O24: each table's record is read back by the lemma of its own fields. -/
theorem recordFieldsRoundTrip : Obligations.RecordFieldsRoundTrip :=
  ⟨fun _ => hoistOfFields_hoistFields, fun _ => groupOfFields_groupFields, fun _ => mapOfFields_mapFields,
    fun _ => filterOfFields_filterFields, fun _ => trackOfFields_trackFields, fun _ => lineOfFields_lineFields⟩

end Sys2Proof.Machine
end

/-! # Sitting 9: the one answer to every MGMT frame

Every operation of the Management Agent is carried out or refused: `Answers` says so of its result, and each operation has
one lemma. The management commands then differ only in their Operation and in whether a DONE reply resets the line. -/
section

namespace Sys2Proof.Machine

/-! ## What an operation comes to (R182) -/

/-- The result of an operation on `s`: carried out, with the Intake as it was, or refused, with nothing changed (R182). -/
inductive Answers (s : State) : MgmtResult → Prop
  | carriedOut (t : State) (values : List Byte) (hintake : t.intake = s.intake) :
      Answers s { state := t, reason := none, values := values }
  | refused (r : Reason) (values : List Byte) : Answers s { state := s, reason := some r, values := values }

section

variable {s t : State}

theorem answers_done (h : t.intake = s.intake) : Answers s (done t) := .carriedOut t [] h

theorem answers_returns (s : State) (values : List Byte) : Answers s (returns s values) := .carriedOut s values rfl

theorem answers_refuses (s : State) (r : Reason) : Answers s (refuses s r) := .refused r []

end

/-! ## The Intake behind an operation -/

theorem commitHoist_intake (s : State) (h : Slot) (c : HoistConfig) : (commitHoist s h c).intake = s.intake := by
  rw [commitHoist_frame]

theorem commitGroup_intake (s : State) (g : GroupNo) (c : GroupConfig) : (commitGroup s g c).intake = s.intake := by
  rw [commitGroup_frame]

theorem commitLine_intake (s : State) (c : LineConfig) (levels : Bool) : (commitLine s c levels).intake = s.intake := by
  obtain ⟨-, hintake, -⟩ := afterLimits_stands s c
  rw [commitLine_frame, hintake]

theorem motionOff_intake (s : State) (seq : Byte) : (motionOff s seq).intake = s.intake := by
  have habort : ∀ u, (abortTracks u).intake = u.intake := fun _ => rfl
  unfold motionOff
  rw [habort]
  split
  · exact admitStop_intake { s with motionEnable := false } (holdAllStop seq)
  · rfl

theorem changeMode_intake (s : State) (m : PortMode) : (changeMode s m).intake = s.intake := by
  unfold changeMode
  dsimp only
  split
  · split
    · rw [discardFrame_frame]
    · rfl
  · rfl

theorem recovered_intake (s : State) (p : Slot → Bool) (q : GroupNo → Bool) :
    (clearOnRecover (recoverSet s p q)).intake = s.intake := by
  rw [clearOnRecover_eq]
  rfl

/-! ## Each operation answers -/

section

variable (s : State) (f : Frame)

theorem answers_readOp : Answers s (readOp s f) := by
  unfold readOp
  split
  · exact answers_returns s _
  · exact answers_refuses s _

/-- A WRITE of one record whose commit leaves the Intake alone (R186). -/
theorem answers_writeRecord (present : List (List Byte)) (validate : List (List Byte) → Option (Nat × Reason))
    (protection : List (List Byte) → Option Reason) {commit : List (List Byte) → State}
    (h : ∀ raw, (commit raw).intake = s.intake) : Answers s (writeRecord s f present validate protection commit) := by
  unfold writeRecord
  split
  · exact answers_refuses s _
  · split
    · exact .refused _ _
    · exact answers_refuses s _
    · exact answers_done (h _)

theorem answers_writeOp : Answers s (writeOp s f) := by
  unfold writeOp
  split
  · exact answers_refuses s _
  · exact answers_refuses s _
  · exact answers_writeRecord s f _ _ _ fun _ => commitHoist_intake s _ _
  · exact answers_writeRecord s f _ _ _ fun _ => commitGroup_intake s _ _
  · exact answers_writeRecord s f _ _ _ fun _ => rfl
  · exact answers_writeRecord s f _ _ _ fun _ => rfl
  · exact answers_writeRecord s f _ _ _ fun _ => rfl
  · exact answers_writeRecord s f _ _ _ fun _ => commitLine_intake s _ _

theorem answers_readLiveOp : Answers s (readLiveOp s f) := by
  unfold readLiveOp
  split
  · split
    · exact answers_returns s _
    · exact answers_refuses s _
  · split
    · exact answers_returns s _
    · exact answers_refuses s _
  all_goals exact answers_refuses s _

theorem answers_armOp : Answers s (armOp s f) := by
  unfold armOp
  split
  · exact answers_refuses s _
  · split
    · exact answers_refuses s _
    · exact answers_done rfl

theorem answers_parkOp : Answers s (parkOp s f) := by
  unfold parkOp
  split
  · exact answers_refuses s _
  · split
    · exact answers_refuses s _
    · exact answers_done rfl

theorem answers_recoverHoistOp (h : Slot) : Answers s (recoverHoistOp s h) := by
  unfold recoverHoistOp
  split
  · exact answers_refuses s _
  · split
    · exact answers_refuses s _
    · exact answers_done (recovered_intake s _ _)

theorem answers_recoverGroupOp (g : GroupNo) : Answers s (recoverGroupOp s g) := by
  unfold recoverGroupOp
  split
  · exact answers_refuses s _
  · split
    · exact answers_refuses s _
    · exact answers_done (recovered_intake s _ _)

theorem answers_recoverAllOp : Answers s (recoverAllOp s) := by
  unfold recoverAllOp
  split
  · exact answers_refuses s _
  · exact answers_done (recovered_intake s _ _)

theorem answers_recoverOp : Answers s (recoverOp s f) := by
  unfold recoverOp
  split
  · exact answers_recoverAllOp s
  · split
    · exact answers_recoverHoistOp s _
    · exact answers_refuses s _
  · split
    · exact answers_recoverGroupOp s _
    · exact answers_refuses s _
  all_goals exact answers_refuses s _

theorem answers_readCauseOp : Answers s (readCauseOp s f) := by
  unfold readCauseOp
  split
  · exact answers_returns s _
  · split
    · exact answers_returns s _
    · exact answers_refuses s _

theorem answers_setIdentityOp : Answers s (setIdentityOp s f) := by
  unfold setIdentityOp
  split
  · exact answers_refuses s _
  · split
    · exact answers_refuses s _
    · exact answers_done rfl

theorem answers_setMotionOp : Answers s (setMotionOp s f) := by
  unfold setMotionOp
  split
  · refine answers_done ?_
    split
    · exact motionOff_intake s _
    · rfl
  · split
    · split
      · exact answers_refuses s _
      · exact answers_done rfl
    · exact answers_refuses s _

theorem answers_setPortModeOp : Answers s (setPortModeOp s f) := by
  unfold setPortModeOp
  split
  · exact answers_refuses s _
  · split
    · exact answers_done rfl
    · split
      · exact answers_refuses s _
      · exact answers_done (changeMode_intake s _)

end

/-! ## The management commands (R184, R192, R193) -/

/-- The command `c` takes the MGMT frames whose Operation `accepts` holds of, and `act` is its operation. -/
structure CarriesOut (c : Instr) (accepts : Byte → Bool) (act : State → Frame → MgmtResult) : Prop where
  exec_eq : ∀ s, exec c s = takeHead s (mgmtTaken accepts act)
  answers : ∀ s f, Answers s (act s f)
  resets : ∀ op, accepts op = true → (op == opLineReset) = decide (c = .lineReset)
  malformed : c = .mgmtBadOperation → ∀ s f, act s f = refuses s .malformed

/-- A command with one Operation code of its own. -/
theorem CarriesOut.of_code {c : Instr} {code : Byte} {act : State → Frame → MgmtResult}
    (hexec : ∀ s, exec c s = takeHead s (mgmtTaken (· == code) act)) (hanswers : ∀ s f, Answers s (act s f))
    (hresets : (code == opLineReset) = decide (c = .lineReset)) (hcode : c ≠ .mgmtBadOperation) :
    CarriesOut c (· == code) act where
  exec_eq := hexec
  answers := hanswers
  resets op hop := by rw [beq_iff_eq.1 hop, hresets]
  malformed h := absurd h hcode

/-- The Operations outside the codes are 0 and those above 0x0C (R193). -/
theorem not_opKnown (op : Byte) : (!opKnown op) = (op == 0x00#8 || decide (0x0C#8 < op)) := by
  rw [Bool.eq_iff_iff]
  simp only [opKnown, Bool.not_eq_true', Bool.and_eq_false_iff, decide_eq_false_iff_not, Bool.or_eq_true, beq_iff_eq,
    decide_eq_true_eq, BitVec.lt_def, ← BitVec.toNat_inj, BitVec.toNat_ofNat]
  omega

/-- An Operation outside the codes is refused with MALFORMED (R184). -/
theorem carriesOut_badOperation :
    CarriesOut .mgmtBadOperation (fun op => op == 0x00#8 || decide (0x0C#8 < op)) badOperationOp where
  exec_eq s := by
    rw [← funext not_opKnown]
    rfl
  answers s _ := answers_refuses s .malformed
  resets op hop := by
    have hne : op ≠ opLineReset := by
      rintro rfl
      exact absurd hop (by decide)
    exact beq_eq_false_iff_ne.2 hne
  malformed _ _ _ := rfl

/-- Each management command carries out the operation of its own Operation code (R193). -/
theorem exists_carriesOut {c : Instr} {accepts : Byte → Bool} (h : operationOf c = some accepts) :
    ∃ act, CarriesOut c accepts act := by
  cases c <;> cases h
  case read => exact ⟨_, .of_code exec_read answers_readOp rfl nofun⟩
  case write => exact ⟨_, .of_code exec_write answers_writeOp rfl nofun⟩
  case readLive => exact ⟨_, .of_code exec_readLive answers_readLiveOp rfl nofun⟩
  case arm => exact ⟨_, .of_code exec_arm answers_armOp rfl nofun⟩
  case park => exact ⟨_, .of_code exec_park answers_parkOp rfl nofun⟩
  case recover => exact ⟨_, .of_code exec_recover answers_recoverOp rfl nofun⟩
  case clearCause => exact ⟨_, .of_code exec_clearCause (fun _ _ => answers_done rfl) rfl nofun⟩
  case readCause => exact ⟨_, .of_code exec_readCause answers_readCauseOp rfl nofun⟩
  case setIdentity => exact ⟨_, .of_code exec_setIdentity answers_setIdentityOp rfl nofun⟩
  case setMotion => exact ⟨_, .of_code exec_setMotion answers_setMotionOp rfl nofun⟩
  case setPortMode => exact ⟨_, .of_code exec_setPortMode answers_setPortModeOp rfl nofun⟩
  case lineReset => exact ⟨_, .of_code exec_lineReset (fun _ _ => answers_done rfl) rfl nofun⟩
  case mgmtBadOperation => exact ⟨_, carriesOut_badOperation⟩

/-! ## The one MREPLY (R182, R183) -/

section

variable {s : State} {f : Frame} {epoch : BitVec 16} {rest : List IntakeEntry} {c : Instr} {accepts : Byte → Bool}
  {act : State → Frame → MgmtResult}

theorem wrongRig_eq_true {v : BitVec 32} (hset : s.rigIdentity = some v) (hne : v ≠ mgmtIdentity f) :
    wrongRig s f = true := by
  rw [wrongRig, hset]
  exact bne_iff_ne.2 hne.symm

theorem reasonCode_ne_zero (r : Reason) : reasonCode r ≠ 0#8 := by cases r <;> decide

/-- An Operation that is not the command's leaves the head to another command (log entry 10). -/
theorem CarriesOut.exec_of_other (h : CarriesOut c accepts act) (hhead : MgmtAtHead s f epoch rest)
    (hop : accepts (mgmtOp f) = false) : exec c s = .next s := by
  rw [h.exec_eq]
  refine takeHead_of_none hhead.1 (if_neg ?_)
  rintro ⟨-, -, haccepts⟩
  rw [hop] at haccepts
  cases haccepts

/-- An MGMT frame taken is answered (R182). -/
theorem CarriesOut.exec_of_accepts (h : CarriesOut c accepts act) (hhead : MgmtAtHead s f epoch rest)
    (hop : accepts (mgmtOp f) = true) : exec c s = .next (finish (answer act { s with intake := rest } f)) := by
  obtain ⟨hat, hkind, hdest, h9, h40, hslot⟩ := hhead
  rw [h.exec_eq]
  exact takeHead_of_some hat (if_pos ⟨classOf_mgmt hkind hdest h9 h40, Option.isNone_iff_eq_none.2 hslot, hop⟩)

/-- The Rig Identity check comes before the operation (R183). -/
theorem answer_of_wrongRig (h : wrongRig s f = true) : answer act s f = placeReply f (refuses s .wrongRig) := by
  rw [answer, if_pos h]

theorem answer_of_identityPasses (h : IdentityPasses s f) : answer act s f = placeReply f (act s f) := by
  rw [answer, if_neg (Bool.eq_false_iff.1 (wrongRig_eq_false h))]

/-- Whatever the Rig Identity check says, the reply answers a result that is carried out or refused (R182, R183). -/
theorem exists_answers (h : ∀ s f, Answers s (act s f)) (s : State) (f : Frame) :
    ∃ r, Answers s r ∧ answer act s f = placeReply f r := by
  unfold answer
  split
  · exact ⟨_, answers_refuses s .wrongRig, rfl⟩
  · exact ⟨_, h s f, rfl⟩

/-- The state that one MREPLY leaves: DONE, marked when it resets the line, or REFUSED with nothing else changed. -/
theorem placeReply_of_answers {r : MgmtResult} (h : Answers { s with intake := rest } r) {resets : Bool}
    (hresets : (mgmtOp f == opLineReset) = resets) :
    ∃ reason values, (placeReply f r).intake = rest ∧
      (((placeReply f r).replySlot = some { frame := doneReply f values, resets := resets } ∧ reason = 0#8) ∨
       ((placeReply f r).replySlot = some { frame := refusedReply f reason values, resets := false } ∧ reason ≠ 0#8 ∧
         { placeReply f r with intake := s.intake, replySlot := s.replySlot } = s)) := by
  cases h with
  | carriedOut t values hintake =>
    subst hresets
    exact ⟨0#8, values, hintake, .inl ⟨rfl, rfl⟩⟩
  | refused r values => exact ⟨reasonCode r, values, rfl, .inr ⟨rfl, reasonCode_ne_zero r, rfl⟩⟩

end

/-- Settles O48: the command of the frame's Operation answers it, after the Rig Identity check. -/
theorem mgmtIsAnsweredOnce : Obligations.MgmtIsAnsweredOnce := by
  intro c accepts hc s f epoch rest hhead
  obtain ⟨act, hact⟩ := exists_carriesOut hc
  refine ⟨hact.exec_of_other hhead, fun hop => ?_⟩
  rw [hact.exec_of_accepts hhead hop]
  refine ⟨fun v hset hne => ?_, fun hid hbad => ?_, ?_⟩
  · rw [answer_of_wrongRig (s := { s with intake := rest }) (wrongRig_eq_true hset hne)]
    rfl
  · rw [answer_of_identityPasses (s := { s with intake := rest }) hid, hact.malformed hbad]
    rfl
  · obtain ⟨r, hanswers, hr⟩ := exists_answers hact.answers { s with intake := rest } f
    obtain ⟨reason, values, hintake, hreply⟩ := placeReply_of_answers hanswers (hact.resets _ hop)
    exact ⟨_, reason, values, by rw [hr], hintake, hreply⟩

end Sys2Proof.Machine
end

/-! # Sitting 10: every part of an event leaves the waiting commands alone

The queue of waiting commands is the model's own, outside the part (log entry 1). Each operation below has one lemma that says
that it leaves `pending` as it was; the rules of the lemmas under `Laws` for the basic updates and the stop orders do the rest. -/
section

namespace Sys2Proof.Machine

/-! ## The close of an event, and operations taken one after another -/

/-- The transmitters' own fields do not include the waiting commands (R142, R177). -/
@[simp] theorem finish_pending (s : State) : (finish s).pending = s.pending :=
  (congrArg State.pending (transmits_finish s).frame :)

theorem foldl_pending {α : Type} {f : State → α → State} (h : ∀ s x, (f s x).pending = s.pending) (l : List α) (s : State) :
    (l.foldl f s).pending = s.pending := by
  induction l generalizing s with
  | nil => rfl
  | cons x xs ih => exact (ih _).trans (h s x)

@[simp] theorem refuseFrame_pending (s : State) (f : Frame) (r : Reason) : (refuseFrame s f r).pending = s.pending :=
  raiseNotice_pending _ _ _

/-! ## Batches, track steps and completion -/

section

variable (s : State) (g : GroupNo)

@[simp] theorem admitBatch_pending (p : BatchPlan) : (admitBatch s p).pending = s.pending := rfl

@[simp] theorem admitWave_pending : (admitWave s g).pending = s.pending := by
  unfold admitWave
  split <;> rfl

@[simp] theorem admitStep_pending (tr : Track) : (admitStep s g tr).pending = s.pending :=
  raiseClamp_pending _ _ _ _ _ _ _

@[simp] theorem raiseTrackError_pending (tr : Track) (r : Reason) (h : Option Slot) :
    (raiseTrackError s g tr r h).pending = s.pending := raiseNotice_pending _ _ _

@[simp] theorem failStep_pending (tr : Track) (r : Reason) : (failStep s g tr r).pending = s.pending := by
  simp [failStep]

@[simp] theorem takeDueStep_pending : (takeDueStep s g).pending = s.pending := by
  unfold takeDueStep
  split
  · rfl
  · dsimp only
    split <;> simp

@[simp] theorem makeStepDue_pending : (makeStepDue s g).pending = s.pending := by
  unfold makeStepDue takeIfOldest
  dsimp only
  split <;> simp

@[simp] theorem examineArrival_pending (seq : Byte) : (examineArrival s g seq).pending = s.pending := by
  unfold examineArrival
  split
  · split
    · simp [completeGroup]
    · rfl
  · split
    · unfold completeStep
      dsimp only
      split
      · simp
      · split <;> simp
    · rfl

/-! ## The Group Check -/

@[simp] theorem warnEffect_pending : (warnEffect s g).pending = s.pending := by
  unfold warnEffect
  split
  · dsimp only
    split <;> rfl
  all_goals rfl

@[simp] theorem cleanEffect_pending : (cleanEffect s g).pending = s.pending := by
  unfold cleanEffect
  dsimp only
  split
  · split <;> rfl
  · rfl

@[simp] theorem verdictEffect_pending (v : Evaluation) (seq : Byte) : (verdictEffect s g v seq).pending = s.pending := by
  unfold verdictEffect
  split
  · simp
  · split <;> simp
  · simp [raiseWarn]
  · simp
  · rfl

@[simp] theorem evaluateGroup_pending (seq : Byte) : (evaluateGroup s g seq).pending = s.pending :=
  verdictEffect_pending _ _ _ _

end

/-! ## The application of a SAMPLE -/

section

variable (s : State) (h : Slot)

@[simp] theorem examineRound_pending (seq : Byte) : (examineRound s h seq).pending = s.pending := by
  unfold examineRound
  split
  · rfl
  · split <;> simp

@[simp] theorem issueHoistStop_pending (k : StopKind) (c : CauseKind) (seq : Byte) :
    (issueHoistStop s k h c seq).pending = s.pending := issueStop_pending _ _

@[simp] theorem setHoistState_pending (st : HoistState) : (setHoistState s h st).pending = s.pending := rfl

@[simp] theorem arrivalRule_pending (r : Reading) : (arrivalRule s h r).pending = s.pending := by
  have harrive : (arrive s h r.seq).pending = s.pending := by
    unfold arrive
    dsimp only
    split <;> simp
  have hmiss : (missArrival s h r.seq).pending = s.pending := by
    unfold missArrival
    split <;> simp
  unfold arrivalRule
  split
  · rfl
  · split
    · rfl
    · split
      · exact harrive
      · exact hmiss

@[simp] theorem uncommandedRule_pending (seq : Byte) : (uncommandedRule s h seq).pending = s.pending := by
  unfold uncommandedRule
  split <;> simp

@[simp] theorem driveStateRule_pending (r : Reading) (d : DriveState) : (driveStateRule s h r d).pending = s.pending := by
  unfold driveStateRule
  split <;> simp

@[simp] theorem loadRule_pending (r : Reading) : (loadRule s h r).pending = s.pending := by
  unfold loadRule
  dsimp only
  split <;> simp

@[simp] theorem applySample_pending (r : Reading) : (applySample s h r).pending = s.pending := by
  have hstore : (storeReading s h r).pending = s.pending := rfl
  unfold applySample stateAndLoad
  split <;> simp [hstore]

end

/-! ## Filters and arrivals -/

section

variable (s : State) (f : Frame)

@[simp] theorem filterBank_pending (d : Direction) : (filterBank s f d).pending = s.pending := by
  have hstop : ∀ hits u i, (filterStop f d hits u i).pending = u.pending := fun hits u i => by
    unfold filterStop
    dsimp only
    split <;> simp
  have hnotice : ∀ u hits, (filterNotice u f d hits).pending = u.pending := fun u hits => by
    unfold filterNotice
    split <;> simp
  exact (hnotice _ _).trans (foldl_pending (hstop _) _ s)

@[simp] theorem offerIntake_pending : (offerIntake s f).pending = s.pending := by
  unfold offerIntake
  split <;> simp

@[simp] theorem classify_pending : (classify s f).pending = s.pending := by
  unfold classify
  split <;> simp

@[simp] theorem takeDownstream_pending : (takeDownstream s f).pending = s.pending := by
  have hreload : (reloadSilence s f).pending = s.pending := rfl
  unfold takeDownstream
  dsimp only
  split <;> simp [hreload]

@[simp] theorem sampleMonitor_pending : (sampleMonitor s f).pending = s.pending := by
  unfold sampleMonitor
  split
  · rfl
  · split
    · simp
    · split
      · split <;> simp
      · rfl

@[simp] theorem offerRelay_pending : (offerRelay s f).pending = s.pending := by
  unfold offerRelay
  split <;> simp

@[simp] theorem takeUpstream_pending : (takeUpstream s f).pending = s.pending := by
  unfold takeUpstream
  dsimp only
  split <;> simp

end

/-! ## Moves and polls -/

section

variable (s : State) (e : IntakeEntry) (g : GroupNo) (f : Frame)

@[simp] theorem gateMove_pending : (gateMove s e).pending = s.pending := by
  unfold gateMove
  split
  · simp
  · split
    · simp
    · simp [grantMove]

@[simp] theorem gateGmove_pending : (gateGmove s e g).pending = s.pending := by
  unfold gateGmove
  split
  · simp
  · simp [grantGmove]

@[simp] theorem startTrack_pending (start : TrackIx) : (startTrack s e g start).pending = s.pending := by
  unfold startTrack
  dsimp only
  split <;> simp

@[simp] theorem gateGo_pending : (gateGo s e g).pending = s.pending := by
  unfold gateGo
  split <;> simp

@[simp] theorem promotePoll_pending : (promotePoll s f).pending = s.pending := by rw [promotePoll_frame]

@[simp] theorem queuePoll_pending : (queuePoll s f).pending = s.pending := by rw [queuePoll_frame]

variable {s} in
theorem pending_of_placeOwnPoll {t : State} {a : LineAddr} (h : placeOwnPoll s a = some t) : t.pending = s.pending := by
  unfold placeOwnPoll at h
  dsimp only at h
  split at h
  · cases h
    simp
  · split at h <;> cases h
    simp

end

/-! ## Expiries -/

section

variable (s : State) (h : Slot)

@[simp] theorem staleExpire_pending : (staleExpire s h).pending = s.pending := by
  have hstop : (staleStop s h).pending = s.pending := by
    unfold staleStop
    split
    · rfl
    · rfl
    · simp
    all_goals
      dsimp only
      split <;> simp
  unfold staleExpire
  split
  · rfl
  · simp [raiseStale, hstop]

@[simp] theorem endPollTimer_pending : (endPollTimer s h).pending = s.pending := rfl

@[simp] theorem silenceExpire_pending : (silenceExpire s).pending = s.pending := by simp [silenceExpire]

end

/-! ## The management operations -/

section

variable (s : State) (f : Frame)

/-- The line record's commit changes the part by the expiries that it brings about (R148). -/
@[simp] theorem commitLine_pending (c : LineConfig) (levels : Bool) : (commitLine s c levels).pending = s.pending := by
  have htimers : ∀ u old, (endLateTimers u old).pending = u.pending := fun u old => by
    unfold endLateTimers
    split
    · rfl
    · exact foldl_pending endPollTimer_pending _ u
  have hages : ∀ u old, (expireLateHoists u old).pending = u.pending := fun u _ => foldl_pending staleExpire_pending _ u
  have hsilence : ∀ u old, (expireLateSilence u old).pending = u.pending := fun u old => by
    unfold expireLateSilence
    split <;> simp
  have hlimits : (afterLimits s c).pending = s.pending := (hsilence _ _).trans ((hages _ _).trans (htimers _ _))
  rw [commitLine_frame]
  exact hlimits

@[simp] theorem writeOp_pending : (writeOp s f).state.pending = s.pending := by
  have hrecord : ∀ {present validate protection} {commit : List (List Byte) → State},
      (∀ raw, (commit raw).pending = s.pending) →
        (writeRecord s f present validate protection commit).state.pending = s.pending :=
    fun {present validate protection commit} h => by
      obtain e | ⟨raw, -, -, e⟩ := writeRecord_cases s f present validate protection commit
      · rw [e]
      · rw [e, h raw]
  unfold writeOp
  split
  · rfl
  · rfl
  · exact hrecord fun raw => by rw [commitHoist_frame]
  · exact hrecord fun raw => by rw [commitGroup_frame]
  · exact hrecord fun raw => rfl
  · exact hrecord fun raw => rfl
  · exact hrecord fun raw => rfl
  · exact hrecord fun raw => commitLine_pending s _ _

@[simp] theorem armOp_pending : (armOp s f).state.pending = s.pending := by
  unfold armOp
  split
  · rfl
  · split <;> rfl

@[simp] theorem parkOp_pending : (parkOp s f).state.pending = s.pending := by
  unfold parkOp
  split
  · rfl
  · split <;> rfl

/-- A recovery changes records and the Cause Record alone (R172, R191). -/
theorem recovered_pending (p : Slot → Bool) (q : GroupNo → Bool) :
    (clearOnRecover (recoverSet s p q)).pending = s.pending := by
  rw [clearOnRecover_eq]
  rfl

@[simp] theorem recoverOp_pending : (recoverOp s f).state.pending = s.pending := by
  have hall : (recoverAllOp s).state.pending = s.pending := by
    unfold recoverAllOp
    split
    · rfl
    · exact recovered_pending s _ _
  have hhoist : ∀ h, (recoverHoistOp s h).state.pending = s.pending := fun h => by
    unfold recoverHoistOp
    split
    · rfl
    · split
      · rfl
      · exact recovered_pending s _ _
  have hgroup : ∀ g, (recoverGroupOp s g).state.pending = s.pending := fun g => by
    unfold recoverGroupOp
    split
    · rfl
    · split
      · rfl
      · exact recovered_pending s _ _
  unfold recoverOp
  split
  · exact hall
  · split
    · exact hhoist _
    · rfl
  · split
    · exact hgroup _
    · rfl
  all_goals rfl

@[simp] theorem setIdentityOp_pending : (setIdentityOp s f).state.pending = s.pending := by
  unfold setIdentityOp
  split
  · rfl
  · split <;> rfl

@[simp] theorem setMotionOp_pending : (setMotionOp s f).state.pending = s.pending := by
  have habort : ∀ u, (abortTracks u).pending = u.pending := fun _ => rfl
  have hoff : ∀ seq, (motionOff s seq).pending = s.pending := fun seq => by
    unfold motionOff
    dsimp only
    split <;> simp [habort]
  unfold setMotionOp
  split
  · show (if s.motionEnable then motionOff s f.seq else s).pending = s.pending
    split
    · exact hoff _
    · rfl
  · split
    · split <;> rfl
    · rfl

@[simp] theorem setPortModeOp_pending : (setPortModeOp s f).state.pending = s.pending := by
  have hchange : ∀ m, (changeMode s m).pending = s.pending := fun m => by
    unfold changeMode
    dsimp only
    split
    · split
      · rw [discardFrame_frame]
      · rfl
    · rfl
  unfold setPortModeOp
  split
  · rfl
  · split
    · rfl
    · split
      · rfl
      · exact hchange _

@[simp] theorem resetLine_pending (seq : Byte) : (resetLine s seq).pending = s.pending := admitStop_pending _ _

end

/-! ## Commands -/

/-- The next state of an outcome, when it has one, has the waiting commands of `s`. -/
def KeepsWaiting (s : State) (x : Host.Outcome State Fault Refusal) : Prop := ∀ t, x = .next t → t.pending = s.pending

theorem keepsWaiting_same (s : State) : KeepsWaiting s (.next s) := fun _ e => by cases e; rfl

theorem keepsWaiting_fault (s : State) (f : Fault) : KeepsWaiting s (.fault f) := fun _ e => by cases e

theorem keepsWaiting_finish {s t : State} (h : t.pending = s.pending) : KeepsWaiting s (.next (finish t)) := fun _ e => by
  cases e
  exact (finish_pending t).trans h

/-- The taking of an Intake head (R48). -/
theorem keepsWaiting_takeHead {act : IntakeEntry → State → Option State}
    (h : ∀ e u v, act e u = some v → v.pending = u.pending) (s : State) : KeepsWaiting s (takeHead s act) := by
  obtain ⟨e, rest, u, -, ha, he⟩ | ⟨-, he⟩ := takeHead_cases s act
  · rw [he]
    exact keepsWaiting_finish (h e { s with intake := rest } u ha)
  · rw [he]
    exact keepsWaiting_same s

/-- A management command leaves the waiting commands alone when its operation does (R182). -/
theorem keepsWaiting_mgmt {act : State → Frame → MgmtResult} (h : ∀ u f, (act u f).state.pending = u.pending)
    (accepts : Byte → Bool) (s : State) : KeepsWaiting s (takeHead s (mgmtTaken accepts act)) := by
  obtain he | ⟨f, rest, r, hr, he⟩ := takeHead_mgmt_cases s accepts act
  · rw [he]
    exact keepsWaiting_same s
  · have hop : r.state.pending = s.pending := by
      obtain hr | rfl := hr
      · rw [hr]
      · exact h _ f
    rw [he]
    exact keepsWaiting_finish hop

section

variable (s : State)

theorem keepsWaiting_uPortArrival (content : List Byte) : KeepsWaiting s (execUPortArrival content s) := by
  unfold execUPortArrival
  split
  · exact keepsWaiting_finish (raiseNotice_pending _ _ _)
  · exact keepsWaiting_finish (takeDownstream_pending s _)

theorem keepsWaiting_dPortArrival (content : List Byte) : KeepsWaiting s (execDPortArrival content s) := by
  unfold execDPortArrival
  split
  · exact keepsWaiting_finish (raiseNotice_pending _ _ _)
  · exact keepsWaiting_finish (takeUpstream_pending s _)

theorem keepsWaiting_move : KeepsWaiting s (execMove s) :=
  keepsWaiting_takeHead (fun e u v h => by
    unfold moveTaken at h
    split at h <;> cases h
    exact gateMove_pending u e) s

theorem keepsWaiting_gmove : KeepsWaiting s (execGmove s) :=
  keepsWaiting_takeHead (fun e u v h => by
    unfold gmoveTaken at h
    split at h
    · split at h <;> cases h
      exact gateGmove_pending u e _
    all_goals cases h) s

theorem keepsWaiting_go : KeepsWaiting s (execGo s) :=
  keepsWaiting_takeHead (fun e u v h => by
    unfold goTaken at h
    split at h
    · split at h <;> cases h
      exact gateGo_pending u e _
    all_goals cases h) s

theorem keepsWaiting_poll : KeepsWaiting s (execPoll s) :=
  keepsWaiting_takeHead (fun e u v h => by
    unfold pollTaken at h
    split at h
    · split at h
      · split at h <;> cases h
        exact promotePoll_pending u _
      · split at h <;> cases h
        exact queuePoll_pending u _
    · cases h) s

theorem keepsWaiting_passThroughFrame : KeepsWaiting s (execPassThroughFrame s) :=
  keepsWaiting_takeHead (fun e u v h => by
    unfold passThroughTaken at h
    split at h <;> cases h
    rfl) s

theorem keepsWaiting_ownPoll : KeepsWaiting s (execOwnPoll s) := by
  unfold execOwnPoll
  split
  · next t ht =>
    obtain ⟨h, -, hh⟩ := List.exists_of_findSome?_eq_some ht
    split at hh
    · obtain ⟨a, -, ha⟩ := Option.bind_eq_some_iff.1 hh
      exact keepsWaiting_finish (pending_of_placeOwnPoll ha)
    · cases hh
  · exact keepsWaiting_same s

theorem keepsWaiting_rewriteWaveAdmission : KeepsWaiting s (execRewriteWaveAdmission s) := by
  unfold execRewriteWaveAdmission
  split
  · split
    · exact keepsWaiting_finish (admitWave_pending s _)
    · exact keepsWaiting_same s
  all_goals exact keepsWaiting_same s

theorem keepsWaiting_trackStep : KeepsWaiting s (execTrackStep s) := by
  unfold execTrackStep
  split
  · split
    · exact keepsWaiting_finish (takeDueStep_pending s _)
    · exact keepsWaiting_same s
  all_goals exact keepsWaiting_same s

theorem keepsWaiting_dPortTransmitCompletion : KeepsWaiting s (execDPortTransmitCompletion s) := by
  unfold execDPortTransmitCompletion
  split
  · exact keepsWaiting_finish rfl
  · exact keepsWaiting_same s

theorem keepsWaiting_uPortTransmitCompletion : KeepsWaiting s (execUPortTransmitCompletion s) := by
  unfold execUPortTransmitCompletion
  split
  · exact keepsWaiting_finish rfl
  · exact keepsWaiting_same s

theorem keepsWaiting_lineResetTakesEffect : KeepsWaiting s (execLineResetTakesEffect s) := by
  unfold execLineResetTakesEffect
  split
  · split
    · exact keepsWaiting_finish (resetLine_pending _ _)
    · exact keepsWaiting_same s
  all_goals exact keepsWaiting_same s

theorem keepsWaiting_staleExpiry (n : Nat) : KeepsWaiting s (execStaleExpiry n s) := by
  unfold execStaleExpiry
  split
  · exact keepsWaiting_fault s _
  · split
    · exact keepsWaiting_finish (staleExpire_pending _ _)
    · exact keepsWaiting_same s

theorem keepsWaiting_pollTimeout (n : Nat) : KeepsWaiting s (execPollTimeout n s) := by
  unfold execPollTimeout
  split
  · exact keepsWaiting_fault s _
  · split
    · exact keepsWaiting_finish (endPollTimer_pending s _)
    · exact keepsWaiting_same s

theorem keepsWaiting_silenceTimerExpiry : KeepsWaiting s (execSilenceTimerExpiry s) := by
  unfold execSilenceTimerExpiry
  split
  · exact keepsWaiting_finish (silenceExpire_pending _)
  · exact keepsWaiting_same s

theorem keepsWaiting_dwellExpiry (n : Nat) : KeepsWaiting s (execDwellExpiry n s) := by
  unfold execDwellExpiry
  split
  · exact keepsWaiting_fault s _
  · split
    · exact keepsWaiting_finish (makeStepDue_pending s _)
    · exact keepsWaiting_same s

/-- A power-on reset is of the part, and the commands wait outside it (log entry 17). -/
theorem keepsWaiting_powerOnReset : KeepsWaiting s (execPowerOnReset s) := fun _ e => by cases e; rfl

end

theorem keepsWaiting_exec (c : Instr) (s : State) : KeepsWaiting s (exec c s) := by
  have same : ∀ {u v : State}, v = u → v.pending = u.pending := congrArg State.pending
  cases c with
  | powerOnReset => exact keepsWaiting_powerOnReset s
  | uPortArrival content => exact keepsWaiting_uPortArrival s content
  | dPortArrival content => exact keepsWaiting_dPortArrival s content
  | move => exact keepsWaiting_move s
  | gmove => exact keepsWaiting_gmove s
  | go => exact keepsWaiting_go s
  | poll => exact keepsWaiting_poll s
  | passThroughFrame => exact keepsWaiting_passThroughFrame s
  | read => exact keepsWaiting_mgmt (fun u f => same (keeps_readOps u f).1) _ s
  | write => exact keepsWaiting_mgmt writeOp_pending _ s
  | readLive => exact keepsWaiting_mgmt (fun u f => same (keeps_readOps u f).2.1) _ s
  | arm => exact keepsWaiting_mgmt armOp_pending _ s
  | park => exact keepsWaiting_mgmt parkOp_pending _ s
  | recover => exact keepsWaiting_mgmt recoverOp_pending _ s
  | clearCause => exact keepsWaiting_mgmt (fun _ _ => rfl) _ s
  | readCause => exact keepsWaiting_mgmt (fun u f => same (keeps_readOps u f).2.2) _ s
  | setIdentity => exact keepsWaiting_mgmt setIdentityOp_pending _ s
  | setMotion => exact keepsWaiting_mgmt setMotionOp_pending _ s
  | setPortMode => exact keepsWaiting_mgmt setPortModeOp_pending _ s
  | lineReset => exact keepsWaiting_mgmt (fun _ _ => rfl) _ s
  | lineResetTakesEffect => exact keepsWaiting_lineResetTakesEffect s
  | dPortTransmitCompletion => exact keepsWaiting_dPortTransmitCompletion s
  | uPortTransmitCompletion => exact keepsWaiting_uPortTransmitCompletion s
  | staleExpiry n => exact keepsWaiting_staleExpiry s n
  | pollTimeout n => exact keepsWaiting_pollTimeout s n
  | silenceTimerExpiry => exact keepsWaiting_silenceTimerExpiry s
  | dwellExpiry n => exact keepsWaiting_dwellExpiry s n
  | trackStep => exact keepsWaiting_trackStep s
  | rewriteWaveAdmission => exact keepsWaiting_rewriteWaveAdmission s
  | ownPoll => exact keepsWaiting_ownPoll s
  | mgmtBadOperation => exact keepsWaiting_mgmt (fun _ _ => rfl) _ s

/-- Settles O3: every operation that a command is made of leaves the waiting commands alone. -/
theorem execKeepsWaitingQueue : Obligations.ExecKeepsWaitingQueue := keepsWaiting_exec

/-- Settles O1: the step's case of a queue with a front command. -/
theorem stepRunsFrontCommand : Obligations.StepRunsFrontCommand := by
  intro c rest s hfront
  unfold step
  rw [hfront]

end Sys2Proof.Machine
end
